-- ==== Sys2Proof/Word.lean ====
section
/-! DEFINITION. The word types of the Melnar 4216: bytes, addresses, keys, cipher blocks and codes (R2, R63, R80, conventions of
chapter 0). What the manual counts (amounts, counters, sequence numbers, till numbers) is a natural number, not a word. -/

namespace Sys2Proof

/-- One byte of a frame. -/
abbrev Byte := BitVec 8

/-- A run of bytes: a frame, a payload, a value. -/
abbrev Bytes := List Byte

/-- A 6-byte Ethernet address (R2), first byte most significant. -/
abbrev Mac := BitVec 48

/-- A 4-byte IPv4 address, first byte most significant. -/
abbrev Ip := BitVec 32

/-- A 32-byte key of the cipher or of the code function (R63, R67, R80). -/
abbrev Key := BitVec 256

/-- A 16-byte cipher block, and the untruncated output of the code function. -/
abbrev Block := BitVec 128

/-- An 8-byte authentication code (R9, R10, R14) or integrity check (R63). -/
abbrev Code := BitVec 64

/-- A till index, 0 to 127 (R38). -/
abbrev TillIx := Fin 128

/-- A key slot number, 0 to 15 (R64). -/
abbrev SlotIx := Fin 16

/-- A profile index, 0 to 7 (R87). -/
abbrev ProfIx := Fin 8

/-- A Wrap Context number, 0 to 3 (R93). -/
abbrev CtxIx := Fin 4

end Sys2Proof
end

