-- ==== Sys2Proof/Config.lean ====
section
/-! DEFINITION. What an implementation of the part fixes: the named cryptographic functions of chapter 0, whose inner workings the
manual does not describe (opaque: no statement can rest on their values); the free values for outcomes the manual leaves open; and
the quantities of "Numbers at a glance". -/

namespace Sys2Proof.Config

/-- The cipher, AES with 256-bit keys, "treated as a function of a key and a 16-byte block giving a 16-byte block" (chapter 0). For
each key it is a permutation of the blocks, since R71 applies its inverse. Its inner workings are not described: it has no body
(log 1). -/
opaque cipherOf : Key → Equiv.Perm Block

/-- CMAC over the cipher, all 16 bytes, "treated as a function of a key and a byte string" (chapter 0). No body (log 1). -/
opaque cmac : Key → Bytes → Block

/-- FREE VALUE (log 2): how a Holding Store operation, a format or an erase that a reset cuts short stands in the non-volatile store,
where R158, R159, R162 and R190 allow more than one outcome. Nothing constrains it. -/
opaque cutOutcome : Nat → Nat

/-- FREE VALUE (log 2): whether a format cut short after its header had already cleared the given slot (R162). -/
opaque slotCleared : Nat → Nat → Bool

/-- One past the largest transaction counter value: a counter entry at this value is spent (R48). -/
def spent : Nat := 1048576

/-- How far one raise moves a checkpoint (R50), and the checkpoint of a fresh column (R60). -/
def raiseStep : Nat := 256

/-- A raise is requested when this many values or fewer remain (R50). -/
def raiseMargin : Nat := 64

/-- The next value at which COUNTER-LOW is raised (R55). -/
def counterLowMark : Nat := 1044480

/-- Pending Queue depth, in messages (R109). -/
def pendingDepth : Nat := 2

/-- Priority Queue depth, in frames (R19). -/
def priorityDepth : Nat := 32

/-- Bridge Queue depth, in frames (R18). -/
def bridgeDepth : Nat := 64

/-- Places of the Outstanding List (R101, R122). -/
def outstandingPlaces : Nat := 256

/-- Record slots of the Holding Store (R155). -/
def holdingSlots : Nat := 4096

/-- Entries the Offline Card List can hold (R145). -/
def cardEntries : Nat := 512

/-- Item bytes the Message Assembler holds for a till (R32). -/
def itemBytesMax : Nat := 1280

/-- The longest wrapped message, in bytes (R9, R96). -/
def wrappedMax : Nat := 1420

/-- Header and code of a wrapped message, in bytes: where the running size of R96 starts. -/
def wrappedBase : Nat := 37

/-- The largest sequence number of a held record (R156). -/
def sequenceMax : Nat := 4294967295

/-- The largest money limit or total, 2^44 − 1 (R87, R145). -/
def moneyMax : Nat := 17592186044415

/-- Where the per-till counts and the event counters stop (R46, R197). -/
def countMax : Nat := 65535

/-- Frames the Management Unit's arrival list holds (R172). -/
def arrivalDepth : Nat := 4

/-- The wait limit of a quiet-class command, in milliseconds (R178). -/
def quietLimit : Nat := 2000

/-- The answer deadline of a probe, in milliseconds after it was placed (R139). -/
def probeAnswerTime : Nat := 2000

end Sys2Proof.Config
end

