-- ==== Sys2Proof/Syntax.lean ====
section
/-! DEFINITION. The commands of the part: one constructor of Instr for each row of spec/opcode_table.json, in the table's order. A row
that a management frame brings carries the operands of R180 as that frame carries them, as numbers not yet checked. -/

namespace Sys2Proof

/-- The two Ethernet ports (R16). -/
inductive Port where
  | lane
  | uplink
  deriving DecidableEq, Repr

/-- The Key Store sectors whose ordinary writes end by the SECTOR_WRITE rows: sector 1 and sector 2 (R68). -/
inductive WSector where
  | settings
  | keys
  deriving DecidableEq, Repr

/-- A gateway address: an IPv4 address, a UDP port and the next-hop Ethernet address (section 1.2). -/
structure Gateway where
  ip : Ip
  port : Nat
  hop : Mac
  deriving DecidableEq, Repr

/-- The operands of SET-STORE in the order of R182, as carried. -/
structure StoreOperands where
  mode : Nat
  window : Nat
  ackTimeout : Nat
  share : Nat
  policy : Nat
  asmTimeout : Nat
  portCount : Nat
  ports : List Nat
  ownIp : Ip
  drainGw : Gateway
  probeGw : Gateway
  classes : BitVec 8
  deriving DecidableEq, Repr

/-- The operands of WRITE-PROFILE in the order of R180, as carried. -/
structure ProfileOperands where
  index : Nat
  cls : Nat
  policy : Nat
  refunds : Nat
  risk : Nat
  window : Nat
  gateway : Gateway
  dflt : Nat
  deriving DecidableEq, Repr

/-- The commands and events the part takes, one constructor per row of the opcode table. -/
inductive Instr where
  /-- POWER_ON (R188). -/
  | powerOn
  /-- RESET_PIN_ASSERT (R188). -/
  | resetPinAssert
  /-- RESET_PIN_RELEASE (R188). -/
  | resetPinRelease
  /-- SECTOR_READS_END (R189): the reads end; each flag says that the read found a written sector 0, 1, 2 or 3 damaged at rest (R70). -/
  | sectorReadsEnd (bad0 bad1 bad2 bad3 : Bool)
  /-- HOLDING_SCAN_END (R161): the scan ends, having found the header damaged, these slots' heads damaged, and with these slots'
  messages damaged at rest (the scan does not read the message part: the damage shows when the record is drained). -/
  | holdingScanEnd (headerBad : Bool) (badHeads badMessages : List Nat)
  /-- STARTUP_END (R189). -/
  | startupEnd
  /-- RX_FRAME (R16): a whole frame, frame check sequence included, has arrived on a port. -/
  | rxFrame (port : Port) (frame : Bytes)
  /-- TRANSMIT_START (R17): a port is ready to begin sending a frame. -/
  | transmitStart (port : Port)
  /-- TRANSMIT_END (R17). -/
  | transmitEnd (port : Port)
  /-- PHYSICAL_LINK_LOST (R20). -/
  | physicalLinkLost (port : Port)
  /-- PHYSICAL_LINK_RESTORED (R20, R142). -/
  | physicalLinkRestored (port : Port)
  /-- ASSEMBLY_TIMEOUT (R31): the deadline of the till's Assembly Record expires. -/
  | assemblyTimeout (till : TillIx)
  /-- DERIVING (R95): the named Wrap Context derives its keys. -/
  | derivingKeys (ctx : CtxIx)
  /-- WRAPPING (R96). -/
  | wrapping (ctx : CtxIx)
  /-- AUTHENTICATING (R97). -/
  | authenticating (ctx : CtxIx)
  /-- DECIDING (R98). -/
  | deciding (ctx : CtxIx)
  /-- REPLY_WINDOW_EXPIRY (R127): the deadline of the Outstanding entry of this pair expires. -/
  | replyWindowExpiry (till : TillIx) (reference : Nat)
  /-- PROBE_TIMER_EXPIRY (R139). -/
  | probeTimerExpiry
  /-- PROBE_DEADLINE_EXPIRY (R140): the answer deadline of the awaited probe of this number expires. -/
  | probeDeadlineExpiry (number : Nat)
  /-- SETTLE_TIMER_EXPIRY (R143). -/
  | settleTimerExpiry
  /-- DRAIN_TIMEOUT (R167): the acknowledgement deadline of the DRAINING record of this sequence expires. -/
  | drainTimeout (sequence : Nat)
  /-- QUIET_WAIT_LIMIT_EXPIRY (R178). -/
  | quietWaitLimitExpiry
  /-- CHECKPOINT_WRITE_COMPLETE (R52). -/
  | checkpointWriteComplete
  /-- CHECKPOINT_WRITE_FAIL (R53). -/
  | checkpointWriteFail
  /-- SECTOR_WRITE_COMPLETE (R68): the sector 1 or the sector 2 write in flight completes. -/
  | sectorWriteComplete (sector : WSector)
  /-- SECTOR_WRITE_FAIL (R69). -/
  | sectorWriteFail (sector : WSector)
  /-- RECORD_WRITE_COMPLETE (R157). -/
  | recordWriteComplete
  /-- RECORD_WRITE_FAIL (R158). -/
  | recordWriteFail
  /-- RECORD_FREE_COMPLETE (R159). -/
  | recordFreeComplete
  /-- RECORD_FREE_FAIL (R159). -/
  | recordFreeFail
  /-- FORMAT_END (R162). -/
  | formatEnd
  /-- TAMPER_ASSERT (R193). -/
  | tamperAssert
  /-- TAMPER_DEASSERT (R193). -/
  | tamperDeassert
  /-- MGMT_FRAME_TAKE (R173). -/
  | mgmtFrameTake
  /-- READ_STATUS (R181). -/
  | readStatus
  /-- READ_TILL (R181). -/
  | readTill (index : Nat)
  /-- READ_COUNTERS (R181). -/
  | readCounters (first count : Nat)
  /-- READ_EVENTS (R195): the classes to clear, bit 0 ASSEMBLY to bit 7 FAULT. -/
  | readEvents (clear : BitVec 8)
  /-- READ_DRAIN_SUMMARY (R170). -/
  | readDrainSummary
  /-- WRITE_TILL (R40 to R43). -/
  | writeTill (index : Nat) (mac : Mac) (number profile slot : Nat)
  /-- ENABLE_TILL (R44). -/
  | enableTill (index : Nat)
  /-- DISABLE_TILL (R45). -/
  | disableTill (index : Nat)
  /-- WRITE_PROFILE (R88). -/
  | writeProfile (ops : ProfileOperands)
  /-- WRITE_FIELD_MAP (R91): all sixteen carried rules, of which the first count are read. -/
  | writeFieldMap (index count : Nat) (rules : List (Nat × Nat))
  /-- SET_LIMITS (R151). -/
  | setLimits (target l1 lt nc lc : Nat)
  /-- SET_LINK (R138). -/
  | setLink (interval nDown nUp settle : Nat)
  /-- SET_STORE (R182). -/
  | setStore (ops : StoreOperands)
  /-- LOAD_KEY (R71): the 48-byte encrypted key is its three blocks, first block most significant. -/
  | loadKey (target ksid gen : Nat) (encrypted : BitVec 384)
  /-- START_DRAIN (R164). -/
  | startDrain
  /-- STOP_DRAIN (R168). -/
  | stopDrain
  /-- RELEASE_LOCKDOWN (R194). -/
  | releaseLockdown
  /-- RESET (R183). -/
  | reset
  /-- ACTIVATE_KEY (R74). -/
  | activateKey (slot : Nat)
  /-- ERASE_KEY (R78). -/
  | eraseKey (slot : Nat)
  /-- DECOMMISSION (R184). -/
  | decommission (force : Nat)
  /-- WRITE_IDENTITY (R190). -/
  | writeIdentity (serial : BitVec 64) (mac : Mac) (etype : Nat) (mgmtKey transportKey : Key)
  /-- CLOSE_FACTORY (R190). -/
  | closeFactory
  /-- FULL_ERASE (R190). -/
  | fullErase
  /-- FACTORY_WRITE_END (R190): the sector 0 write, or the erase sequence, ends; each flag says that the write or erase of that sector
  succeeded. -/
  | factoryWriteEnd (ok0 ok1 ok2 ok3 : Bool)
  deriving DecidableEq, Repr

end Sys2Proof
end

