-- ==== Sys2Proof/Machine/Bytes.lean ====
section
/-! DEFINITION. Byte strings: integers most significant byte first (R2), the frame check sequence, the header checksum (R2), digits (R2). -/

namespace Sys2Proof.Machine

/-- `n` in `width` bytes, most significant byte first (R2). What does not fit is cut off at the top. -/
def be : (width : Nat) → Nat → Bytes
  | 0, _ => []
  | w + 1, n => BitVec.ofNat 8 (n / 256 ^ w) :: be w n

/-- The integer a byte string carries, most significant byte first (R2). -/
def beNat (b : Bytes) : Nat := b.foldl (fun a x => a * 256 + x.toNat) 0

/-- The bytes of a bit vector, most significant byte first. -/
def beVec {w : Nat} (width : Nat) (v : BitVec w) : Bytes := be width v.toNat

/-- The integer in the `width` bytes at an offset; bytes past the end are absent. -/
def field (b : Bytes) (offset width : Nat) : Nat := beNat ((b.drop offset).take width)

/-- One bit step of the CRC register, least significant bit first. -/
def crcBit (r : Nat) : Nat := if r % 2 = 1 then (r / 2) ^^^ 0xEDB88320 else r / 2

/-- One byte into the CRC register. -/
def crcByte (r : Nat) (x : Byte) : Nat :=
  crcBit (crcBit (crcBit (crcBit (crcBit (crcBit (crcBit (crcBit (r ^^^ x.toNat))))))))

/-- The Ethernet frame check sequence of the bytes before it, in the order it is carried. PRESUMED (log 5): the manual names the Ethernet
frame check sequence (R2, R16) and does not define it; this is the CRC-32 of IEEE 802.3, low byte first. -/
def fcs (b : Bytes) : Bytes := (be 4 ((b.foldl crcByte 0xFFFFFFFF) ^^^ 0xFFFFFFFF)).reverse

/-- The sum of a byte string's 16-bit words (R2). -/
def wordSum : Bytes → Nat
  | hi :: lo :: rest => hi.toNat * 256 + lo.toNat + wordSum rest
  | _ => 0

/-- One fold of a ones' complement sum: the carries are added back. -/
def foldCarry (n : Nat) : Nat := n % 65536 + n / 65536

/-- The header checksum: the ones' complement of the ones' complement sum of the words (R2). -/
def ipChecksum (b : Bytes) : Nat := 65535 - foldCarry (foldCarry (wordSum b))

/-- The byte is one of the characters 0 to 9 (R2). -/
def isDigit (x : Byte) : Bool := decide (48 ≤ x.toNat ∧ x.toNat ≤ 57)

/-- The value of a string of digits (R6). -/
def digitsValue (b : Bytes) : Nat := b.foldl (fun a x => a * 10 + (x.toNat - 48)) 0

end Sys2Proof.Machine
end

