-- ==== Sys2Proof/WellFormed.lean ====
section
/-! DEFINITION. Which commands have a form the part can be given: every carried operand fits the width R180 and R182 give its field, a
WRITE-FIELD-MAP carries sixteen rules, a SET-STORE four ports. Ranges that a command's own rule checks (R177) are not checked here. -/

namespace Sys2Proof

/-- The number fits a field of the given width in bytes (R180). -/
def fits (width n : Nat) : Bool := decide (n < 256 ^ width)

/-- The UDP port of a gateway fits its two bytes (R180, R182). -/
def Gateway.wf (g : Gateway) : Bool := fits 2 g.port

/-- The operands of WRITE-PROFILE fit their fields (R180). -/
def ProfileOperands.wf (o : ProfileOperands) : Bool :=
  fits 1 o.index && fits 1 o.cls && fits 1 o.policy && fits 1 o.refunds && fits 2 o.risk && fits 1 o.window && o.gateway.wf
    && fits 1 o.dflt

/-- The operands of SET-STORE fit their fields, and there are four ports (R182). -/
def StoreOperands.wf (o : StoreOperands) : Bool :=
  fits 1 o.mode && fits 1 o.window && fits 1 o.ackTimeout && fits 1 o.share && fits 1 o.policy && fits 2 o.asmTimeout
    && fits 1 o.portCount && decide (o.ports.length = 4) && o.ports.all (fits 2) && o.drainGw.wf && o.probeGw.wf

/-- The command's operands fit the fields that carry them. -/
def Instr.wf : Instr → Bool
  | .readTill i => fits 1 i
  | .readCounters first count => fits 1 first && fits 1 count
  | .writeTill i _ number profile slot => fits 1 i && fits 2 number && fits 1 profile && fits 1 slot
  | .enableTill i => fits 1 i
  | .disableTill i => fits 1 i
  | .writeProfile o => o.wf
  | .writeFieldMap i count rules =>
    fits 1 i && fits 1 count && decide (rules.length = 16) && rules.all (fun r => fits 1 r.1 && fits 1 r.2)
  | .setLimits target l1 lt nc lc => fits 1 target && fits 6 l1 && fits 6 lt && fits 1 nc && fits 6 lc
  | .setLink p d u t => fits 1 p && fits 1 d && fits 1 u && fits 1 t
  | .setStore o => o.wf
  | .loadKey target ksid gen _ => fits 1 target && fits 4 ksid && fits 2 gen
  | .activateKey k => fits 1 k
  | .eraseKey k => fits 1 k
  | .decommission f => fits 1 f
  | .replyWindowExpiry _ reference => fits 4 reference
  | .probeDeadlineExpiry n => fits 4 n
  | .drainTimeout q => fits 4 q
  | .writeIdentity _ _ etype _ _ => fits 2 etype
  | .holdingScanEnd _ heads messages =>
    heads.all (fun i => decide (i < Config.holdingSlots)) && messages.all (fun i => decide (i < Config.holdingSlots))
  | .powerOn => true
  | .resetPinAssert => true
  | .resetPinRelease => true
  | .sectorReadsEnd _ _ _ _ => true
  | .startupEnd => true
  | .rxFrame _ _ => true
  | .transmitStart _ => true
  | .transmitEnd _ => true
  | .physicalLinkLost _ => true
  | .physicalLinkRestored _ => true
  | .assemblyTimeout _ => true
  | .derivingKeys _ => true
  | .wrapping _ => true
  | .authenticating _ => true
  | .deciding _ => true
  | .probeTimerExpiry => true
  | .settleTimerExpiry => true
  | .quietWaitLimitExpiry => true
  | .checkpointWriteComplete => true
  | .checkpointWriteFail => true
  | .sectorWriteComplete _ => true
  | .sectorWriteFail _ => true
  | .recordWriteComplete => true
  | .recordWriteFail => true
  | .recordFreeComplete => true
  | .recordFreeFail => true
  | .formatEnd => true
  | .tamperAssert => true
  | .tamperDeassert => true
  | .mgmtFrameTake => true
  | .readStatus => true
  | .readEvents _ => true
  | .readDrainSummary => true
  | .startDrain => true
  | .stopDrain => true
  | .releaseLockdown => true
  | .reset => true
  | .closeFactory => true
  | .fullErase => true
  | .factoryWriteEnd _ _ _ _ => true

end Sys2Proof
end

