-- ==== Sys2Proof/Decode.lean ====
section
/-! DEFINITION. Reading a management command's code and operands (R14, R180, R182) into the command they stand for, and writing them; and
the host's decodeTableWord, which answers none for every word, because no row of the opcode table gives bits (log 6). -/

namespace Sys2Proof

open Machine

/-- The gateway carried at an offset: IPv4 4, UDP port 2, next hop 6 (R182). -/
def decodeGateway (b : Bytes) (at_ : Nat) : Gateway :=
  { ip := BitVec.ofNat 32 (field b at_ 4), port := field b (at_ + 4) 2, hop := BitVec.ofNat 48 (field b (at_ + 6) 6) }

/-- A gateway as carried (R182). -/
def encodeGateway (g : Gateway) : Bytes := beVec 4 g.ip ++ be 2 g.port ++ beVec 6 g.hop

/-- The 20 operand bytes of WRITE-PROFILE (R180). -/
def decodeProfile (b : Bytes) : ProfileOperands :=
  { index := field b 0 1, cls := field b 1 1, policy := field b 2 1, refunds := field b 3 1, risk := field b 4 2, window := field b 6 1,
    gateway := decodeGateway b 7, dflt := field b 19 1 }

/-- WRITE-PROFILE's operands as carried (R180). -/
def encodeProfile (o : ProfileOperands) : Bytes :=
  be 1 o.index ++ be 1 o.cls ++ be 1 o.policy ++ be 1 o.refunds ++ be 2 o.risk ++ be 1 o.window ++ encodeGateway o.gateway
    ++ be 1 o.dflt

/-- The carried rules of WRITE-FIELD-MAP: pairs of tag and treatment (R180). -/
def decodeRules : Bytes → List (Nat × Nat)
  | t :: x :: rest => (t.toNat, x.toNat) :: decodeRules rest
  | _ => []

/-- Rules as carried (R180). -/
def encodeRules (rules : List (Nat × Nat)) : Bytes := rules.flatMap (fun r => be 1 r.1 ++ be 1 r.2)

/-- The 45 operand bytes of SET-STORE (R182). -/
def decodeStore (b : Bytes) : StoreOperands :=
  { mode := field b 0 1, window := field b 1 1, ackTimeout := field b 2 1, share := field b 3 1, policy := field b 4 1,
    asmTimeout := field b 5 2, portCount := field b 7 1, ports := [field b 8 2, field b 10 2, field b 12 2, field b 14 2],
    ownIp := BitVec.ofNat 32 (field b 16 4), drainGw := decodeGateway b 20, probeGw := decodeGateway b 32,
    classes := BitVec.ofNat 8 (field b 44 1) }

/-- SET-STORE's operands as carried (R182). -/
def encodeStore (o : StoreOperands) : Bytes :=
  be 1 o.mode ++ be 1 o.window ++ be 1 o.ackTimeout ++ be 1 o.share ++ be 1 o.policy ++ be 2 o.asmTimeout ++ be 1 o.portCount
    ++ o.ports.flatMap (be 2) ++ beVec 4 o.ownIp ++ encodeGateway o.drainGw ++ encodeGateway o.probeGw ++ beVec 1 o.classes

/-- The operand length each command code requires (R14, R180); none for a code outside 1 to 21. -/
def operandLength (code : Nat) : Option Nat :=
  [0, 1, 2, 1, 0, 11, 1, 1, 20, 34, 20, 4, 45, 55, 0, 0, 0, 0, 1, 1, 1][code - 1]?.filter (fun _ => decide (1 ≤ code))

/-- The command a code and its operands stand for; none where R14 answers FORMAT. -/
def decodeCommand (code : Nat) (b : Bytes) : Option Instr :=
  if operandLength code = some b.length then
    match code with
    | 1 => some .readStatus
    | 2 => some (.readTill (field b 0 1))
    | 3 => some (.readCounters (field b 0 1) (field b 1 1))
    | 4 => some (.readEvents (BitVec.ofNat 8 (field b 0 1)))
    | 5 => some .readDrainSummary
    | 6 => some (.writeTill (field b 0 1) (BitVec.ofNat 48 (field b 1 6)) (field b 7 2) (field b 9 1) (field b 10 1))
    | 7 => some (.enableTill (field b 0 1))
    | 8 => some (.disableTill (field b 0 1))
    | 9 => some (.writeProfile (decodeProfile b))
    | 10 => some (.writeFieldMap (field b 0 1) (field b 1 1) (decodeRules (b.drop 2)))
    | 11 => some (.setLimits (field b 0 1) (field b 1 6) (field b 7 6) (field b 13 1) (field b 14 6))
    | 12 => some (.setLink (field b 0 1) (field b 1 1) (field b 2 1) (field b 3 1))
    | 13 => some (.setStore (decodeStore b))
    | 14 => some (.loadKey (field b 0 1) (field b 1 4) (field b 5 2) (BitVec.ofNat 384 (field b 7 48)))
    | 15 => some .startDrain
    | 16 => some .stopDrain
    | 17 => some .releaseLockdown
    | 18 => some .reset
    | 19 => some (.activateKey (field b 0 1))
    | 20 => some (.eraseKey (field b 0 1))
    | 21 => some (.decommission (field b 0 1))
    | _ => none
  else none

/-- The code and operands that carry a command; none for a row that no management frame brings. -/
def encodeCommand : Instr → Option (Nat × Bytes)
  | .readStatus => some (1, [])
  | .readTill i => some (2, be 1 i)
  | .readCounters first count => some (3, be 1 first ++ be 1 count)
  | .readEvents c => some (4, beVec 1 c)
  | .readDrainSummary => some (5, [])
  | .writeTill i mac number profile slot => some (6, be 1 i ++ beVec 6 mac ++ be 2 number ++ be 1 profile ++ be 1 slot)
  | .enableTill i => some (7, be 1 i)
  | .disableTill i => some (8, be 1 i)
  | .writeProfile o => some (9, encodeProfile o)
  | .writeFieldMap i count rules => some (10, be 1 i ++ be 1 count ++ encodeRules rules)
  | .setLimits target l1 lt nc lc => some (11, be 1 target ++ be 6 l1 ++ be 6 lt ++ be 1 nc ++ be 6 lc)
  | .setLink p d u t => some (12, be 1 p ++ be 1 d ++ be 1 u ++ be 1 t)
  | .setStore o => some (13, encodeStore o)
  | .loadKey target ksid gen enc => some (14, be 1 target ++ be 4 ksid ++ be 2 gen ++ beVec 48 enc)
  | .startDrain => some (15, [])
  | .stopDrain => some (16, [])
  | .releaseLockdown => some (17, [])
  | .reset => some (18, [])
  | .activateKey k => some (19, be 1 k)
  | .eraseKey k => some (20, be 1 k)
  | .decommission f => some (21, be 1 f)
  | .powerOn => none
  | .resetPinAssert => none
  | .resetPinRelease => none
  | .sectorReadsEnd _ _ _ _ => none
  | .holdingScanEnd _ _ _ => none
  | .startupEnd => none
  | .rxFrame _ _ => none
  | .transmitStart _ => none
  | .transmitEnd _ => none
  | .physicalLinkLost _ => none
  | .physicalLinkRestored _ => none
  | .assemblyTimeout _ => none
  | .derivingKeys _ => none
  | .wrapping _ => none
  | .authenticating _ => none
  | .deciding _ => none
  | .replyWindowExpiry _ _ => none
  | .probeTimerExpiry => none
  | .probeDeadlineExpiry _ => none
  | .settleTimerExpiry => none
  | .drainTimeout _ => none
  | .quietWaitLimitExpiry => none
  | .checkpointWriteComplete => none
  | .checkpointWriteFail => none
  | .sectorWriteComplete _ => none
  | .sectorWriteFail _ => none
  | .recordWriteComplete => none
  | .recordWriteFail => none
  | .recordFreeComplete => none
  | .recordFreeFail => none
  | .formatEnd => none
  | .tamperAssert => none
  | .tamperDeassert => none
  | .mgmtFrameTake => none
  | .writeIdentity _ _ _ _ _ => none
  | .closeFactory => none
  | .fullErase => none
  | .factoryWriteEnd _ _ _ _ => none

/-- The command a word spells by the opcode table's bits. No row of the table gives bits, so no word spells one (log 6). -/
def decodeTableWord (_nbits _w : Nat) : Option Instr := none

end Sys2Proof
end

