-- ==== Sys2Proof/Machine/Types.lean ====
section
/-! DEFINITION. The types of the state the blocks own (part overview, chapter 0): plain data, named as the manual names it. -/

namespace Sys2Proof.Machine

/-! ### Events (R195 to R197) -/

/-- The event codes, in the order R197 numbers them from 1 to 59. -/
inductive EventCode where
  | rxError | multiTag | fragment | notUdp | unclaimed | bridgeOverflow | laneOverflow | linkDiscard | mgmtWrongPort
  | unknownTill | shortSegment | segmentOrder | assemblyTimeout
  | counterLow | counterExhausted | reservationLost | checkpointFail | keyLoaded | keyActivated | keyErased | keyCheckFail
  | nvWriteFail | sectorCheckFail
  | duplicate | heldRepeat | replyForwarded | replyAuthFail | replyUnmatched | replyExpired | entryErased | lostToTamper
  | localHeld | localVoided | localDeclined | localRefused | localUnavailable | localTimedOut
  | linkDown | linkUp | probeLost | probeUnmatched | standInAccepted | overLimitStanding | tornRecord | recordLost
  | storeHeaderFail | recordDamaged | drainTimeout | drainUnmatched | drainAuthFail | drainComplete
  | mgmtAuthFail | mgmtOverflow | stale | mgmtFormat | quietTimeout | decommissioned | tamper | lockdownReleased
  deriving DecidableEq, Repr

/-- The eight Event Summary classes (R195). -/
inductive EventClass where
  | assembly | refusal | key | counter | link | holding | management | fault
  deriving DecidableEq, Repr

/-- Where a fault lies (R196): a Key Store sector, or a Holding Store slot. -/
inductive Location where
  | sector (n : Nat)
  | holding (slot : Nat)
  deriving DecidableEq, Repr

/-- The Fault Record (R196). -/
structure FaultRecord where
  code : EventCode
  till : Option TillIx
  slot : Option SlotIx
  location : Option Location
  /-- Further FAULT-class events, saturating at 255. -/
  further : Nat
  deriving DecidableEq, Repr

/-- What the Fault Monitor records of events: the event counters, indexed by code (R197), the class latches, bit 0 ASSEMBLY to bit 7
FAULT (R195), and the Fault Record (R196). -/
structure Events where
  counters : Vector Nat 60
  latched : BitVec 8
  fault : Option FaultRecord
  deriving DecidableEq, Repr

/-- The operating states (R187). -/
inductive OpState where
  | factory | starting | serving | lockdown
  deriving DecidableEq, Repr

/-- How far the start-up sequence of R188 and R189 has come. -/
inductive Startup where
  /-- The RESET pin holds the part in reset (R188). -/
  | held
  /-- Step 1 of R189: the sectors are being read. -/
  | reading
  /-- Step 3 of R189: the raise write and the scan proceed side by side; each flag says that the one has ended. -/
  | scanning (raiseEnded scanEnded : Bool)
  /-- Start-up stopped in FACTORY at the end of step 1, or ended (step 4). -/
  | over
  deriving DecidableEq, Repr

/-! ### Settings (R87, R90, R138, R163, R182) -/

/-- A profile's class (R87). -/
inductive TillClass where
  | attended | kiosk
  deriving DecidableEq, Repr

/-- A profile's stand-in policy (R87). -/
inductive StandInPolicy where
  | never | linkDownOnly | alsoOnTimeout
  deriving DecidableEq, Repr

/-- What a Field Map does with an item (R90). -/
inductive Treatment where
  | pass | encrypt | encryptMask | remove
  deriving DecidableEq, Repr

/-- A profile's treatment of tags without a rule (R87). -/
inductive DefaultTreatment where
  | pass | remove
  deriving DecidableEq, Repr

/-- A profile (R87). -/
structure Profile where
  cls : TillClass
  policy : StandInPolicy
  refundsAllowed : Bool
  risk : Nat
  /-- Reply window, in seconds. -/
  window : Nat
  gateway : Gateway
  dflt : DefaultTreatment
  l1 : Nat
  lt : Nat
  nc : Nat
  lc : Nat
  deriving DecidableEq, Repr

/-- One item rule of a Field Map (R90). -/
structure Rule where
  tag : Nat
  treatment : Treatment
  deriving DecidableEq, Repr

/-- A Field Map: its rules in the order head office wrote them (R90). -/
abbrev FieldMap := List Rule

/-- The four link parameters, times in seconds (R138). -/
structure LinkParams where
  interval : Nat
  nDown : Nat
  nUp : Nat
  settle : Nat
  deriving DecidableEq, Repr

/-- The drain's trigger mode (R163). -/
inductive TriggerMode where
  | auto | command
  deriving DecidableEq, Repr

/-- The containment policy (R191). -/
inductive Containment where
  | strict | lenient
  deriving DecidableEq, Repr

/-- The store settings of SET-STORE (R182). -/
structure StoreSettings where
  mode : TriggerMode
  window : Nat
  /-- Acknowledgement timeout, in seconds. -/
  ackTimeout : Nat
  /-- The kiosk share N (R116). -/
  share : Nat
  policy : Containment
  /-- Assembly timeout, in milliseconds. -/
  asmTimeout : Nat
  ports : List Nat
  ownIp : Ip
  drainGw : Gateway
  probeGw : Gateway
  /-- The enabled classes, laid out as the latches. -/
  enabled : BitVec 8
  deriving DecidableEq, Repr

/-- The settings sector 1 keeps beside the till entries and the command number (R67). -/
structure Settings where
  store : StoreSettings
  profiles : Vector Profile 8
  maps : Vector FieldMap 8
  link : LinkParams
  /-- The store limit Ls (R145). -/
  storeLimit : Nat
  /-- Drain suspended (R163). -/
  suspended : Bool
  deriving DecidableEq, Repr

/-- The stored fields of a till entry that is not VACANT (R38); `enabled` is the setting. -/
structure Binding where
  enabled : Bool
  mac : Mac
  number : Nat
  profile : ProfIx
  slot : SlotIx
  deriving DecidableEq, Repr

/-! ### Keys (R63, R64, R66) and the Key Store (R67) -/

/-- A key record (R63). -/
structure KeyRecord where
  base : Key
  ksid : Nat
  gen : Nat
  checkValue : BitVec 24
  integrity : Code
  /-- The volatile failed mark. -/
  failed : Bool
  deriving DecidableEq, Repr

/-- A slot's state (R64). -/
inductive SlotState where
  | empty | active | faulted
  deriving DecidableEq, Repr

/-- A key slot (R64). -/
structure KeySlot where
  previous : Option KeyRecord
  current : Option KeyRecord
  staged : Option KeyRecord
  state : SlotState
  floor : Nat
  busy : Bool
  deriving DecidableEq, Repr

/-- The Key Table: sixteen slots and the fingerprint key record with its floor (R64, R66). -/
structure KeyTable where
  slots : Vector KeySlot 16
  fp : Option KeyRecord
  fpFloor : Nat
  deriving DecidableEq, Repr

/-- The contents of sector 0 (R67) with the factory-closed mark (R190). -/
structure Identity where
  serial : BitVec 64
  mac : Mac
  etype : Nat
  mgmtKey : Key
  transportKey : Key
  closed : Bool
  deriving DecidableEq, Repr

/-- The contents of sector 1 (R67). -/
structure Sector1 where
  settings : Settings
  bindings : Vector (Option Binding) 128
  lastNumber : Nat
  deriving DecidableEq, Repr

/-- What sector 2 keeps of a slot (R64). -/
structure StoredSlot where
  current : Option KeyRecord
  staged : Option KeyRecord
  state : SlotState
  floor : Nat
  deriving DecidableEq, Repr

/-- The contents of sector 2 (R67). -/
structure Sector2 where
  slots : Vector StoredSlot 16
  fp : Option KeyRecord
  fpFloor : Nat
  deriving DecidableEq, Repr

/-- The contents of sector 3: the checkpoint of each counter entry, by slot and till index (R67). -/
abbrev Sector3 := Vector (Vector Nat 128) 16

/-- A sector is blank, written and passing its check, or written and failing its check (R70). -/
inductive Sector (α : Type) where
  | blank
  | good (contents : α)
  | failing
  deriving DecidableEq, Repr

/-- The four non-volatile sectors (R67). -/
structure KeyStore where
  sec0 : Sector Identity
  sec1 : Sector Sector1
  sec2 : Sector Sector2
  sec3 : Sector Sector3
  deriving DecidableEq, Repr

/-- What a sector 2 write adds when it completes (R68): a staged record (R72), the fingerprint key record (R73), or an activation (R75). -/
inductive KeyAddition where
  | load (slot : SlotIx) (record : KeyRecord)
  | loadFp (record : KeyRecord)
  | activate (slot : SlotIx)
  deriving DecidableEq, Repr

/-- The writer of sector 1: the contents of the write in flight (none inside for an erase), and whether a write or an erase is wanted
when it ends (R68, R185). -/
structure Writer1 where
  inFlight : Option (Option Sector1)
  wanted : Bool
  eraseWanted : Bool
  deriving DecidableEq, Repr

/-- A sector 2 write in flight: its contents (none for an erase), its additions, whether it is the zeroisation erase (R193), whether the
erase of sector 3 follows it, and whether DECOMMISSION has passed it by, so that it no longer changes the volatile state (R185). -/
structure Write2 where
  contents : Option Sector2
  additions : List KeyAddition
  zeroise : Bool
  thenErase3 : Bool
  void : Bool
  deriving DecidableEq, Repr

/-- The writer of sector 2: the write in flight, the additions that wait, and whether a write or DECOMMISSION's erase is wanted. -/
structure Writer2 where
  inFlight : Option Write2
  waiting : List KeyAddition
  wanted : Bool
  eraseWanted : Bool
  deriving DecidableEq, Repr

/-! ### Counters (R48, R51) -/

/-- A counter entry (R48); `raise` is the target of the raise in flight. -/
structure CounterEntry where
  c : Nat
  k : Nat
  raise : Option Nat
  failed : Bool
  deriving DecidableEq, Repr

/-- A sector 3 write in flight (R51): the raises and activations it carries, whether it is an erase, whether DECOMMISSION has passed it
by (R185), and the checkpoints it records. -/
structure Write3 where
  raises : List (SlotIx × TillIx)
  activations : List SlotIx
  erase : Bool
  void : Bool
  contents : Sector3
  deriving DecidableEq, Repr

/-- The Counter Table with its pending set and its sector 3 write (R48, R51, R60, R185). -/
structure CounterTable where
  entries : Vector (Vector CounterEntry 128) 16
  pending : List (SlotIx × TillIx)
  activations : List SlotIx
  eraseWanted : Bool
  inFlight : Option Write3
  deriving DecidableEq, Repr

/-! ### Messages and tills (R4, R28, R35, R38) -/

/-- The return path of a till message (R4). `vlan` is the tag's two bytes after 0x8100. -/
structure ReturnPath where
  tillMac : Mac
  dstMac : Mac
  vlan : Option (BitVec 16)
  tillIp : Ip
  tillPort : Nat
  dstIp : Ip
  dstPort : Nat
  deriving DecidableEq, Repr

/-- Message kinds (section 1.3). -/
inductive MsgKind where
  | sale | refund | void
  deriving DecidableEq, Repr

/-- An item of a message; its position index is its place in the list (R6). -/
structure Item where
  tag : Nat
  value : Bytes
  deriving DecidableEq, Repr

/-- A complete message (R35). -/
structure TillMsg where
  kind : MsgKind
  number : Nat
  reference : Nat
  items : List Item
  card : Option Bytes
  path : ReturnPath
  deriving DecidableEq, Repr

/-- An Assembly Record (R28). The message's till index is the entry that holds it. -/
structure AssemblyRecord where
  reference : Nat
  expected : Nat
  received : Nat
  /-- Segment 1's format version, message kind and till number. -/
  version : Nat
  kind : Nat
  number : Nat
  path : ReturnPath
  items : Bytes
  itemBytes : Nat
  structureGood : Bool
  deadline : Nat
  deriving DecidableEq, Repr

/-- A Till Entry (R38). VACANT is the absence of a binding; the entry state follows by R39; the checkpoint write in flight flag is the
raise of the current counter entry. -/
structure Till where
  binding : Option Binding
  record : Option AssemblyRecord
  queue : List TillMsg
  wrapInFlight : Bool
  wrapped : Nat
  refused : Nat
  stoodIn : Nat
  deriving DecidableEq, Repr

/-- What a Till Entry's state can be (R39). -/
inductive EntryState where
  | vacant | disabled | enabled | exhausted | halted
  deriving DecidableEq, Repr

/-- A fingerprint with the generation of the key record it was computed under (R66). -/
structure Fingerprint where
  value : Block
  gen : Nat
  deriving DecidableEq, Repr

/-- The reasons of DECLINED-OFFLINE, 1 to 10 in order (R11). -/
inductive DeclineReason where
  | noStandIn | overSingle | overTill | overStore | overCard | cardListFull | storeFull | storeFault | refundOffline
  | cardCheckUnavailable
  deriving DecidableEq, Repr

/-- The reasons of REFUSED, 17 to 25 in order (R11). -/
inductive RefuseReason where
  | tillDisabled | tillMismatch | malformed | tooLong | busy | noKey | keyFault | exhausted | counterFault
  deriving DecidableEq, Repr

/-- A local reply, kind and reason (R11). SERVICE-UNAVAILABLE names the operating state. -/
inductive LocalReply where
  | held
  | voidedLocal
  | declined (r : DeclineReason)
  | refused (r : RefuseReason)
  | timedOut
  | unavailable (state : OpState)
  deriving DecidableEq, Repr

/-- What a stand-in decision is asked with (R146). -/
structure StandInRequest where
  kind : MsgKind
  amount : Nat
  risk : Nat
  till : TillIx
  profileIx : ProfIx
  fp : Option Fingerprint
  deriving DecidableEq, Repr

/-! ### Wrap Engine, Scheduler and Outstanding List (R93, R116, R121) -/

/-- The phases of a Wrap Context (R93). -/
inductive Phase where
  | idle | reserved | derivingKeys | wrapping | authenticating | deciding | emitting | holding
  deriving DecidableEq, Repr

/-- What a context in HOLDING waits to complete (R93): a record write (R104) or the free of a local void (R100), with what its reply
needs. -/
structure InHand where
  isVoid : Bool
  number : Nat
  reference : Nat
  path : ReturnPath
  deriving DecidableEq, Repr

/-- What a Wrap Context holds from its grant on (R93). -/
structure Wrap where
  till : TillIx
  /-- Absent once the message has passed to the Holding Store (R104). -/
  msg : Option TillMsg
  profileIx : ProfIx
  profile : Profile
  map : FieldMap
  slot : SlotIx
  counter : Nat
  gen : Nat
  ksid : Nat
  dataKey : Option Key
  authKey : Option Key
  fp : Option Fingerprint
  /-- The entries of the wrapped message, from WRAPPING. -/
  entries : List Bytes
  /-- The whole wrapped message, from AUTHENTICATING. -/
  wrapped : Bytes
  /-- A place taken in the Outstanding List (R101). -/
  place : Bool
  inHand : Option InHand
  /-- A WRITE-TILL has since created another till at the index (R41): the entry's wrap in flight flag is no longer this wrap's (R38,
  log 19). -/
  formerTill : Bool
  deriving DecidableEq, Repr

/-- A Wrap Context: its phase, and what it holds; an IDLE context holds nothing (R93). -/
structure Ctx where
  phase : Phase
  wrap : Option Wrap
  deriving DecidableEq, Repr

/-- The arbiter's values (R116). -/
structure Arbiter where
  g : Nat
  attended : TillIx
  kiosk : TillIx
  deriving DecidableEq, Repr

/-- An Outstanding entry (R121). -/
structure OutEntry where
  till : TillIx
  number : Nat
  path : ReturnPath
  kind : MsgKind
  reference : Nat
  profileIx : ProfIx
  slot : SlotIx
  gen : Nat
  counter : Nat
  amount : Option Nat
  fp : Option Fingerprint
  copy : Option Bytes
  deadline : Nat
  deriving DecidableEq, Repr

/-- A hold note (R130), for the record of the given sequence. -/
structure HoldNote where
  seq : Nat
  till : TillIx
  number : Nat
  reference : Nat
  path : ReturnPath
  deriving DecidableEq, Repr

/-! ### Link Monitor and Stand-in Unit (R137, R145) -/

/-- Link states (R137). -/
inductive LinkState where
  | up | suspect | down | recovering
  deriving DecidableEq, Repr

/-- The Link Monitor (R137). Timers hold their expiry time. -/
structure LinkMonitor where
  state : LinkState
  run : Nat
  physicalUp : Bool
  settleTimer : Option Nat
  settled : Bool
  probeCount : Nat
  probeTimer : Option Nat
  /-- Awaited probes: probe number and answer deadline. -/
  awaited : List (Nat × Nat)
  /-- The number of the probe in hand. -/
  inHand : Option Nat
  deriving DecidableEq, Repr

/-- An entry of the Offline Card List (R145). -/
structure CardEntry where
  fp : Fingerprint
  count : Nat
  total : Nat
  deriving DecidableEq, Repr

/-- The Stand-in Unit (R145). -/
structure StandIn where
  tillTotals : Vector Nat 128
  storeTotal : Nat
  cards : List CardEntry
  deriving DecidableEq, Repr

/-! ### Holding Store and Drain Controller (R155, R156, R163) -/

/-- The head of a held record (R155). -/
structure RecordHead where
  seq : Nat
  till : TillIx
  number : Nat
  reference : Nat
  kind : MsgKind
  weight : Nat
  fp : Option Fingerprint
  forwardedOnce : Bool
  deriving DecidableEq, Repr

/-- The record contents of a slot: head, message, and whether the record check passes over them. -/
structure HeldRecord where
  head : RecordHead
  message : Bytes
  checkPasses : Bool
  deriving DecidableEq, Repr

/-- A non-volatile slot that is not empty (R155): its record contents, the sequence in its commit mark when that is valid, and whether
the head check of the commit mark passes. -/
structure NvSlot where
  slot : Nat
  contents : Option HeldRecord
  commit : Option Nat
  headPasses : Bool
  deriving DecidableEq, Repr

/-- The store header (R156, R158): whether its check passes, the last sequence written, the bad-slot list. -/
structure StoreHeader where
  passes : Bool
  last : Nat
  bad : List Nat
  deriving DecidableEq, Repr

/-- A line of the record index for a slot in WRITING or HELD (R155). A slot with no line is BAD when the bad-slot list names it and FREE
otherwise. `noticed` says that a damaged notice of the record has been placed (R170); a reset loses it (log 75). -/
structure IndexLine where
  slot : Nat
  held : Bool
  head : RecordHead
  draining : Bool
  freeing : Bool
  deadline : Option Nat
  noticed : Bool
  deriving DecidableEq, Repr

/-- Who asked for a Holding Store operation (R157, R159). -/
inductive Requester where
  | ctx (i : CtxIx)
  | matcher
  | drain
  /-- The requester was abandoned: the outcome reaches no reply (R106). -/
  | nobody
  deriving DecidableEq, Repr

/-- A Holding Store operation (R157). -/
inductive StoreOp where
  | write (slot : Nat) (by_ : Requester) (record : HeldRecord)
  | free (slot : Nat) (by_ : Requester)
  deriving DecidableEq, Repr

/-- A format of the Holding Store (R162): none, waiting for the operation in flight to end, or running. -/
inductive Format where
  | none | waiting | running
  deriving DecidableEq, Repr

/-- The Holding Store: non-volatile slots and header; the volatile index, bad-slot list, sequence numbers and claims; the operations, the
one in flight at the head. -/
structure HoldingStore where
  nv : List NvSlot
  header : StoreHeader
  lines : List IndexLine
  bad : List Nat
  last : Nat
  next : Nat
  claimed : List Nat
  ops : List StoreOp
  format : Format
  deriving DecidableEq, Repr

/-- Drain states (R163). -/
inductive DrainState where
  | idle | armed | running
  deriving DecidableEq, Repr

/-- What the drain has freed since its accumulators were cleared (R163). -/
structure DrainTally where
  lowest : Nat
  highest : Nat
  count : Nat
  weight : Nat
  damaged : Nat
  deriving DecidableEq, Repr

/-- The Drain Summary with its marks (R170). -/
structure DrainSummary where
  tally : DrainTally
  unread : Bool
  overwritten : Bool
  deriving DecidableEq, Repr

/-- The volatile side of the Drain Controller (R163); its settings stand in the store settings. -/
structure Drain where
  state : DrainState
  cursor : Nat
  inHand : Option Nat
  tally : DrainTally
  summary : Option DrainSummary
  deriving DecidableEq, Repr

/-! ### Ports (R16 to R20) -/

/-- A frame in a transmit queue; `isReset` marks the response to RESET (R183). -/
structure TxFrame where
  bytes : Bytes
  isReset : Bool
  deriving DecidableEq, Repr

/-- A port: its two transmit queues, head first, the frame in transmission, and its physical link. -/
structure PortState where
  priority : List TxFrame
  bridge : List TxFrame
  sending : Option TxFrame
  linkUp : Bool
  deriving DecidableEq, Repr

/-- A block that can wait for the Uplink Priority Queue (R19). -/
inductive Waiter where
  | ctx (i : CtxIx)
  | drain
  | monitor
  | mgmt
  | responder
  deriving DecidableEq, Repr

/-! ### Management Unit (R172 to R178) -/

/-- Response statuses (R15), in code order from 0. -/
inductive Status where
  | ok | clamped | stale | notReady | busy | quietTimeout | range | format | addressInUse | mapUnsafe | generationOrder | noStaged
  | previousInUse | holdingNotEmpty | tamperAsserted
  deriving DecidableEq, Repr

/-- The results a response will carry: bytes already built, or what is read when the response is built (R44, R76, R176). -/
inductive Results where
  | bytes (b : Bytes)
  | status
  | till (i : TillIx)
  | counters (first count : Nat)
  | profile (i : ProfIx)
  | map (i : ProfIx)
  | limits (target : Option ProfIx)
  | link
  | store
  | loadKey (check : BitVec 24) (target : Option SlotIx)
  | drain
  | opState
  | activation (slot : SlotIx)
  | erasure (slot : SlotIx)
  deriving DecidableEq, Repr

/-- A request of a command for a sector write: none outstanding, waiting for the next write, or carried by the write in flight (R68). -/
inductive Wait where
  | no | queued | inFlight
  deriving DecidableEq, Repr

/-- The reach of a quiet hold (R114). -/
inductive Hold where
  | slot (k : SlotIx)
  | engine
  deriving DecidableEq, Repr

/-- What a command that is not yet answered is to the Unit (R175, R178). -/
inductive Role where
  /-- The command being carried out: it keeps the Unit. -/
  | current
  /-- The waiting command with its hold; the limit is present until the command is carried out. -/
  | waiting (hold : Hold) (limit : Option Nat)
  /-- A waiting command that reached its limit and whose answer waits for the write of its number (R174). -/
  | late
  /-- A waiting command that RESET has ended without a response (R183): its hold stands until the reset, since R114 ends a hold with the
  response or the limit (log 22). -/
  | stopped (hold : Hold)
  deriving DecidableEq, Repr

/-- An accepted command that is not yet answered. -/
structure Job where
  cmd : Option Instr
  number : Nat
  code : Nat
  src : Mac
  vlan : Option (BitVec 16)
  status : Status
  results : Results
  s1 : Wait
  s2 : Wait
  s3 : Wait
  /-- The command waits for the format to end (R185). -/
  format : Bool
  role : Role
  deriving DecidableEq, Repr

/-- A command taken and accepted, to be carried out by its own row (R173). -/
structure Taken where
  cmd : Instr
  number : Nat
  code : Nat
  src : Mac
  vlan : Option (BitVec 16)
  deriving DecidableEq, Repr

/-- A response built and not yet placed; `keepsUnit` marks the answer to the command that keeps the Unit (R175). -/
structure Response where
  frame : Bytes
  keepsUnit : Bool
  isReset : Bool
  deriving DecidableEq, Repr

/-- How far an accepted RESET command has come (R183): none, accepted, or its response has left the Uplink port. -/
inductive ResetStage where
  | none | accepted | gone
  deriving DecidableEq, Repr

/-- The Management Unit. -/
structure MgmtUnit where
  last : Nat
  arrivals : List Bytes
  taken : Option Taken
  jobs : List Job
  responses : List Response
  reset : ResetStage
  deriving DecidableEq, Repr

/-! ### Factory port (R190) -/

/-- The factory port command in progress. -/
inductive FactoryOp where
  | identity (contents : Identity)
  | close (contents : Identity)
  | erase
  deriving DecidableEq, Repr

/-- An answer of the factory port: done, refused, or failed with the first sector that failed. -/
inductive FactoryAnswer where
  | done
  | refused
  | failed (sector : Nat)
  deriving DecidableEq, Repr

/-- The factory port: the command in progress, the commands that wait, and the answers given, oldest first, each with the operating state
reported with it. -/
structure FactoryPort where
  op : Option FactoryOp
  waiting : List Instr
  answers : List (FactoryAnswer × OpState)
  deriving DecidableEq, Repr

end Sys2Proof.Machine
end

