-- ==== Sys2Proof/Machine/Blank.lean ====
section
/-! DEFINITION. The values the blocks take after a reset and when their sector is blank: R47, R58, R64, R66, R70, R89, R90, R93, R116,
R137, R138, R145, R155, R163, R182. -/

namespace Sys2Proof.Machine

/-- No gateway: IPv4 address 0.0.0.0, UDP port 0, next hop all zeros (R89, R163, R182). -/
def noGateway : Gateway := { ip := 0, port := 0, hop := 0 }

/-- The blank profile (R89). -/
def blankProfile : Profile :=
  { cls := .attended, policy := .never, refundsAllowed := false, risk := 100, window := 15, gateway := noGateway, dflt := .remove,
    l1 := 0, lt := 0, nc := 0, lc := 0 }

/-- The blank Field Map: tags 3, 5 and 6 ENCRYPT (R90). -/
def blankMap : FieldMap := [⟨3, .encrypt⟩, ⟨5, .encrypt⟩, ⟨6, .encrypt⟩]

/-- The blank link parameters (R138). -/
def blankLink : LinkParams := { interval := 5, nDown := 3, nUp := 4, settle := 10 }

/-- The blank store settings (R182). -/
def blankStore : StoreSettings :=
  { mode := .auto, window := 2, ackTimeout := 10, share := 3, policy := .strict, asmTimeout := 500, ports := [], ownIp := 0,
    drainGw := noGateway, probeGw := noGateway, enabled := 0xFF }

/-- The settings of a blank sector 1 (R70, R89, R90, R138, R145, R163, R182); DESIGN CHOICE, log 77, from a reset until the sector reads
end. -/
def blankSettings : Settings :=
  { store := blankStore, profiles := Vector.replicate 8 blankProfile, maps := Vector.replicate 8 blankMap, link := blankLink,
    storeLimit := 0, suspended := false }

/-- An EMPTY slot with nothing in it and a floor of 0 (R64, R70). -/
def emptySlot : KeySlot := { previous := none, current := none, staged := none, state := .empty, floor := 0, busy := false }

/-- The Key Table of a blank sector 2 (R64, R66, R70); DESIGN CHOICE, log 77, from a reset until the sector reads end. -/
def blankKeys : KeyTable := { slots := Vector.replicate 16 emptySlot, fp := none, fpFloor := 0 }

/-- A counter entry restored at a checkpoint: c = k, no raise, no mark (R58). -/
def restoredEntry (k : Nat) : CounterEntry := { c := k, k := k, raise := none, failed := false }

/-- The entry an activation leaves: c = 0 and k = 256 (R60). -/
def freshEntry : CounterEntry := { c := 0, k := Config.raiseStep, raise := none, failed := false }

/-- The Counter Table with every entry at c = k = 0 and nothing requested (R58 for a blank sector, R184; DESIGN CHOICE, log 71, from a reset
until sector 3 has been read). -/
def blankCounters : CounterTable :=
  { entries := Vector.replicate 16 (Vector.replicate 128 (restoredEntry 0)), pending := [], activations := [], eraseWanted := false,
    inFlight := none }

/-- A VACANT Till Entry with its counts at 0 (R46, R47). -/
def vacantTill : Till :=
  { binding := none, record := none, queue := [], wrapInFlight := false, wrapped := 0, refused := 0, stoodIn := 0 }

/-- An IDLE Wrap Context with every field clear (R93). -/
def idleCtx : Ctx := { phase := .idle, wrap := none }

/-- The Link Monitor after reset (R137); its physical link is down until the first report (DESIGN CHOICE, log 57). -/
def resetLink : LinkMonitor :=
  { state := .down, run := 0, physicalUp := false, settleTimer := none, settled := false, probeCount := 0, probeTimer := none,
    awaited := [], inHand := none }

/-- The Stand-in Unit with nothing charged (R153). -/
def emptyStandIn : StandIn := { tillTotals := Vector.replicate 128 0, storeTotal := 0, cards := [] }

/-- The accumulators at 0 (R163). -/
def emptyTally : DrainTally := { lowest := 0, highest := 0, count := 0, weight := 0, damaged := 0 }

/-- The Drain Controller after reset and after format (R163). -/
def resetDrain : Drain := { state := .idle, cursor := 0, inHand := none, tally := emptyTally, summary := none }

/-- The Holding Store as formatted: no record, an empty bad-slot list, last sequence 0, next sequence 1 (R162; log 42). -/
def formattedStore : HoldingStore :=
  { nv := [], header := { passes := true, last := 0, bad := [] }, lines := [], bad := [], last := 0, next := 1, claimed := [], ops := [],
    format := .none }

/-- The Management Unit after a reset and before sector 1 is read (R172, R174, R175, R178; the last command number, DESIGN CHOICE, log 77). -/
def resetMgmt : MgmtUnit := { last := 0, arrivals := [], taken := none, jobs := [], responses := [], reset := .none }

/-- No counter advanced, no latch set, an empty Fault Record (R188, R195 to R197). -/
def noEvents : Events := { counters := Vector.replicate 60 0, latched := 0, fault := none }

/-- A port with empty queues and nothing in transmission (R17). -/
def quietPort (linkUp : Bool) : PortState := { priority := [], bridge := [], sending := none, linkUp := linkUp }

/-- Four blank sectors, as before the factory first writes the part (R70). -/
def blankKeyStore : KeyStore := { sec0 := .blank, sec1 := .blank, sec2 := .blank, sec3 := .blank }

end Sys2Proof.Machine
end

