-- ==== Sys2Proof/Machine/State.lean ====
section
/-! DEFINITION. The state of the part: everything the chapters give it, block by block, as plain data; the closed lists of faults and
refusals; and the state right after a reset. INVENTORY.md lists every piece with its rule and its reset value. -/

namespace Sys2Proof.Machine

/-- Faults of a command. There is none: no rule of the manual stops the part or leaves what it does undefined (failures, tamper and
damage at rest are events the part handles). -/
inductive Fault where
  deriving DecidableEq, Repr

/-- Refusals of a command. -/
inductive Refusal where
  /-- Raised only by an arm of exec whose command has no meaning yet. Safe: nothing is claimed of such a command. No arm raises it. -/
  | notModelled (mnemonic : String)
  deriving DecidableEq, Repr

/-- The state of the Melnar 4216. -/
structure State where
  /-- The model's clock, in milliseconds: what deadlines and timers are set from (log 3). -/
  now : Nat
  /-- The model's own counter of free values taken (log 2). -/
  free : Nat
  /-- Operating state (R187). -/
  opState : OpState
  /-- How far start-up has come (R188, R189). -/
  startup : Startup
  /-- The lockdown cause mark (R187). -/
  cause : Bool
  /-- The tamper input as it stands (R193). -/
  tamperIn : Bool
  /-- Both receive paths are open (R16). -/
  rxOpen : Bool
  /-- The Lane port (R17). -/
  lane : PortState
  /-- The Uplink port (R17). -/
  uplink : PortState
  /-- The blocks that wait for the Uplink Priority Queue, earliest first, each with its frame in hand (R19). -/
  waitOrder : List (Waiter × TxFrame)
  /-- The IPv4 identification count (R2). -/
  ipId : Nat
  /-- What start-up read of sector 0, or the factory port wrote since: serial, addresses and root keys in force (R26, R190). -/
  identity : Option Identity
  /-- The volatile settings (R68). -/
  settings : Settings
  /-- The Till Table (R38). -/
  tills : Vector Till 128
  /-- The Counter Table (R48, R51). -/
  counters : CounterTable
  /-- The Key Table (R64, R66). -/
  keys : KeyTable
  /-- The Key Store's sectors (R67). -/
  store : KeyStore
  /-- Sector 1 writes (R68). -/
  writer1 : Writer1
  /-- Sector 2 writes (R68). -/
  writer2 : Writer2
  /-- The arbiter's values (R116). -/
  arbiter : Arbiter
  /-- The four Wrap Contexts (R93). -/
  ctxs : Vector Ctx 4
  /-- The contexts that wait for an Outstanding place, earliest first (R101). -/
  placeWait : List CtxIx
  /-- The Outstanding List, oldest first (R122). -/
  outstanding : List OutEntry
  /-- The hold notes (R130). -/
  holdNotes : List HoldNote
  /-- The Link Monitor (R137). -/
  link : LinkMonitor
  /-- The Stand-in Unit (R145). -/
  standIn : StandIn
  /-- The Holding Store (R155, R156). -/
  holding : HoldingStore
  /-- The Drain Controller (R163). -/
  drain : Drain
  /-- The Management Unit (R172 to R178). -/
  mgmt : MgmtUnit
  /-- Event counters, Event Summary latches and Fault Record (R195 to R197). -/
  events : Events
  /-- The factory port (R190). -/
  factory : FactoryPort
  /-- The commands that wait to be taken, first in, first out (the model's own queue). -/
  pending : List Instr
  deriving DecidableEq, Repr

/-- The part right after a power-on reset: every volatile piece at its value after reset, STARTING, the receive paths closed, the sector
reads begun (R16, R17, R187, R188). The non-volatile stores are as before the factory first writes the part, the physical links up, the
tamper input clear (log 4). -/
def State.reset : State :=
  { now := 0, free := 0, opState := .starting, startup := .reading, cause := false, tamperIn := false, rxOpen := false,
    lane := quietPort true, uplink := quietPort true, waitOrder := [], ipId := 0, identity := none, settings := blankSettings,
    tills := Vector.replicate 128 vacantTill, counters := blankCounters, keys := blankKeys, store := blankKeyStore,
    writer1 := { inFlight := none, wanted := false, eraseWanted := false },
    writer2 := { inFlight := none, waiting := [], wanted := false, eraseWanted := false },
    arbiter := { g := 0, attended := 0, kiosk := 0 }, ctxs := Vector.replicate 4 idleCtx, placeWait := [], outstanding := [],
    holdNotes := [], link := resetLink, standIn := emptyStandIn, holding := formattedStore, drain := resetDrain, mgmt := resetMgmt,
    events := noEvents, factory := { op := none, waiting := [], answers := [] }, pending := [] }

end Sys2Proof.Machine
end

