-- ==== Sys2Proof/Machine/Flags.lean ====
section
/-! DEFINITION. Events and the flags they set: event codes and classes, the Event Summary latches, the Fault Record, the event counters,
the attention flag (R27, R62, R86, R120, R136, R144, R154, R171, R179, R186, R195 to R197), and the codes of enumerated values (R15, R180,
R181). -/

namespace Sys2Proof.Machine

/-- The number of an event code (R197). -/
def EventCode.number : EventCode → Nat
  | .rxError => 1
  | .multiTag => 2
  | .fragment => 3
  | .notUdp => 4
  | .unclaimed => 5
  | .bridgeOverflow => 6
  | .laneOverflow => 7
  | .linkDiscard => 8
  | .mgmtWrongPort => 9
  | .unknownTill => 10
  | .shortSegment => 11
  | .segmentOrder => 12
  | .assemblyTimeout => 13
  | .counterLow => 14
  | .counterExhausted => 15
  | .reservationLost => 16
  | .checkpointFail => 17
  | .keyLoaded => 18
  | .keyActivated => 19
  | .keyErased => 20
  | .keyCheckFail => 21
  | .nvWriteFail => 22
  | .sectorCheckFail => 23
  | .duplicate => 24
  | .heldRepeat => 25
  | .replyForwarded => 26
  | .replyAuthFail => 27
  | .replyUnmatched => 28
  | .replyExpired => 29
  | .entryErased => 30
  | .lostToTamper => 31
  | .localHeld => 32
  | .localVoided => 33
  | .localDeclined => 34
  | .localRefused => 35
  | .localUnavailable => 36
  | .localTimedOut => 37
  | .linkDown => 38
  | .linkUp => 39
  | .probeLost => 40
  | .probeUnmatched => 41
  | .standInAccepted => 42
  | .overLimitStanding => 43
  | .tornRecord => 44
  | .recordLost => 45
  | .storeHeaderFail => 46
  | .recordDamaged => 47
  | .drainTimeout => 48
  | .drainUnmatched => 49
  | .drainAuthFail => 50
  | .drainComplete => 51
  | .mgmtAuthFail => 52
  | .mgmtOverflow => 53
  | .stale => 54
  | .mgmtFormat => 55
  | .quietTimeout => 56
  | .decommissioned => 57
  | .tamper => 58
  | .lockdownReleased => 59

/-- The Event Summary class an event latches (the tables R195 refers to). -/
def EventCode.eventClass : EventCode → Option EventClass
  | .rxError => none
  | .multiTag => none
  | .fragment => none
  | .notUdp => none
  | .unclaimed => none
  | .bridgeOverflow => none
  | .laneOverflow => some .refusal
  | .linkDiscard => some .link
  | .mgmtWrongPort => some .management
  | .unknownTill => some .assembly
  | .shortSegment => some .assembly
  | .segmentOrder => some .assembly
  | .assemblyTimeout => some .assembly
  | .counterLow => some .counter
  | .counterExhausted => some .counter
  | .reservationLost => some .counter
  | .checkpointFail => some .fault
  | .keyLoaded => some .key
  | .keyActivated => some .key
  | .keyErased => some .key
  | .keyCheckFail => some .fault
  | .nvWriteFail => some .fault
  | .sectorCheckFail => some .fault
  | .duplicate => some .assembly
  | .heldRepeat => some .holding
  | .replyForwarded => none
  | .replyAuthFail => some .key
  | .replyUnmatched => some .link
  | .replyExpired => some .link
  | .entryErased => some .key
  | .lostToTamper => some .fault
  | .localHeld => some .holding
  | .localVoided => some .holding
  | .localDeclined => some .holding
  | .localRefused => some .refusal
  | .localUnavailable => some .refusal
  | .localTimedOut => some .link
  | .linkDown => some .link
  | .linkUp => some .link
  | .probeLost => some .link
  | .probeUnmatched => some .link
  | .standInAccepted => some .holding
  | .overLimitStanding => some .holding
  | .tornRecord => some .holding
  | .recordLost => some .fault
  | .storeHeaderFail => some .fault
  | .recordDamaged => some .holding
  | .drainTimeout => some .link
  | .drainUnmatched => some .holding
  | .drainAuthFail => some .holding
  | .drainComplete => some .holding
  | .mgmtAuthFail => some .management
  | .mgmtOverflow => some .management
  | .stale => none
  | .mgmtFormat => some .management
  | .quietTimeout => some .management
  | .decommissioned => some .management
  | .tamper => some .fault
  | .lockdownReleased => some .management

/-- The class's bit in a set of classes: bit 0 ASSEMBLY to bit 7 FAULT (R180). -/
def EventClass.bit : EventClass → Nat
  | .assembly => 0
  | .refusal => 1
  | .key => 2
  | .counter => 3
  | .link => 4
  | .holding => 5
  | .management => 6
  | .fault => 7

/-- The set that holds one class. -/
def EventClass.mask (k : EventClass) : BitVec 8 := 1#8 <<< k.bit

/-- One more, stopping at 65,535 (R46, R197). -/
def saturate (n : Nat) : Nat := min (n + 1) Config.countMax

/-- The latches after an event of a code (R195). -/
def latchAfter (latched : BitVec 8) (e : EventCode) : BitVec 8 :=
  match e.eventClass with
  | none => latched
  | some k => latched ||| k.mask

/-- The Fault Record after an event (R196): it fills while empty, and counts further FAULT-class events, to 255, while full. -/
def faultAfter (f : Option FaultRecord) (e : EventCode) (till : Option TillIx) (slot : Option SlotIx) (location : Option Location) :
    Option FaultRecord :=
  if e.eventClass = some .fault then
    match f with
    | none => some { code := e, till := till, slot := slot, location := location, further := 0 }
    | some r => some { r with further := min (r.further + 1) 255 }
  else f

/-- The counters after an event (R197). -/
def countAfter (counters : Vector Nat 60) (e : EventCode) : Vector Nat 60 :=
  counters.setIfInBounds e.number (saturate (counters[e.number]?.getD 0))

/-- What the Fault Monitor holds after one event (R195 to R197). -/
def Events.after (v : Events) (e : EventCode) (till : Option TillIx) (slot : Option SlotIx) (location : Option Location) : Events :=
  { counters := countAfter v.counters e, latched := latchAfter v.latched e, fault := faultAfter v.fault e till slot location }

/-- An event is raised (R195 to R197); of its details the state keeps what the Fault Record keeps (log 48). -/
def State.raise (s : State) (e : EventCode) (till : Option TillIx := none) (slot : Option SlotIx := none)
    (location : Option Location := none) : State :=
  { s with events := s.events.after e till slot location }

/-- READ-EVENTS clears the classes it names (R195); clearing FAULT empties the Fault Record (R196). -/
def Events.clear (v : Events) (classes : BitVec 8) : Events :=
  { v with latched := v.latched &&& ~~~classes, fault := if classes.getLsbD 7 then none else v.fault }

/-- The attention flag: some class is both latched and enabled (R179, R195). -/
def State.attention (s : State) : Bool := (s.events.latched &&& s.settings.store.enabled) != 0

/-- The status code of a response (R15). -/
def Status.code : Status → Nat
  | .ok => 0
  | .clamped => 1
  | .stale => 2
  | .notReady => 3
  | .busy => 4
  | .quietTimeout => 5
  | .range => 6
  | .format => 7
  | .addressInUse => 8
  | .mapUnsafe => 9
  | .generationOrder => 10
  | .noStaged => 11
  | .previousInUse => 12
  | .holdingNotEmpty => 13
  | .tamperAsserted => 14

/-- The code of an operating state, counted from 1 in the list of R187 (R181). -/
def OpState.code : OpState → Nat
  | .factory => 1
  | .starting => 2
  | .serving => 3
  | .lockdown => 4

/-- The code of an entry state, counted from 1 in the list of R38 (R181). -/
def EntryState.code : EntryState → Nat
  | .vacant => 1
  | .disabled => 2
  | .enabled => 3
  | .exhausted => 4
  | .halted => 5

/-- The code of a phase, counted from 1 in the list of R93 (R181). -/
def Phase.code : Phase → Nat
  | .idle => 1
  | .reserved => 2
  | .derivingKeys => 3
  | .wrapping => 4
  | .authenticating => 5
  | .deciding => 6
  | .emitting => 7
  | .holding => 8

/-- The code of a link state, counted from 1 in the list of R137 (R181). -/
def LinkState.code : LinkState → Nat
  | .up => 1
  | .suspect => 2
  | .down => 3
  | .recovering => 4

/-- The code of a slot state, counted from 1 in the list of R64 (R181). -/
def SlotState.code : SlotState → Nat
  | .empty => 1
  | .active => 2
  | .faulted => 3

/-- The code of a drain state, counted from 1 in the list of R163 (R181). -/
def DrainState.code : DrainState → Nat
  | .idle => 1
  | .armed => 2
  | .running => 3

/-- class: ATTENDED 1, KIOSK 2 (R180). -/
def TillClass.code : TillClass → Nat
  | .attended => 1
  | .kiosk => 2

/-- policy: NEVER 1, LINK-DOWN-ONLY 2, ALSO-ON-TIMEOUT 3 (R180). -/
def StandInPolicy.code : StandInPolicy → Nat
  | .never => 1
  | .linkDownOnly => 2
  | .alsoOnTimeout => 3

/-- offline refunds: ALLOWED 1, NOT-ALLOWED 2 (R180). -/
def refundsCode (allowed : Bool) : Nat := if allowed then 1 else 2

/-- treatment: PASS 1, ENCRYPT 2, ENCRYPT-MASK 3, REMOVE 4 (R180). -/
def Treatment.code : Treatment → Nat
  | .pass => 1
  | .encrypt => 2
  | .encryptMask => 3
  | .remove => 4

/-- default treatment: PASS 1, REMOVE 4 (R180). -/
def DefaultTreatment.code : DefaultTreatment → Nat
  | .pass => 1
  | .remove => 4

/-- trigger mode: AUTO 1, COMMAND 2 (R180). -/
def TriggerMode.code : TriggerMode → Nat
  | .auto => 1
  | .command => 2

/-- containment: STRICT 1, LENIENT 2 (R180). -/
def Containment.code : Containment → Nat
  | .strict => 1
  | .lenient => 2

end Sys2Proof.Machine
end

