-- ==== Sys2Proof/Machine/Frames.lean ====
section
/-! DEFINITION. Messages on the wire (chapter 1): reading received frames and payloads, building the frames and payloads the part sends,
the cipher and code functions applied to byte strings. No state here. -/

namespace Sys2Proof.Machine

/-! ### Code and cipher -/

/-- The authentication code function: the first 8 bytes of the CMAC (chapter 0). -/
def authCode (key : Key) (b : Bytes) : Code := (Config.cmac key b).extractLsb' 64 64

/-- The fingerprint function: the whole CMAC (chapter 0, R82). -/
def fingerprintCode (key : Key) (b : Bytes) : Block := Config.cmac key b

/-- The cipher of a block under a key. -/
def cipher (key : Key) (x : Block) : Block := Config.cipherOf key x

/-- The inverse of the cipher (R71). -/
def decipher (key : Key) (x : Block) : Block := (Config.cipherOf key).symm x

/-! ### Ethernet and IPv4 frames received (R2, R3) -/

/-- A received frame taken apart: the VLAN tags it carries, and the payload without the frame check sequence. -/
structure EthFrame where
  dst : Mac
  src : Mac
  tags : List (BitVec 16)
  etype : Nat
  payload : Bytes
  deriving DecidableEq, Repr

/-- The VLAN tags at the front of a byte string, and what follows the last (R2). -/
def splitTags : Bytes → List (BitVec 16) × Bytes
  | x :: y :: a :: b :: rest =>
    if x = 0x81 ∧ y = 0x00 then
      let r := splitTags rest
      ((a ++ b : BitVec 16) :: r.1, r.2)
    else ([], x :: y :: a :: b :: rest)
  | short => ([], short)

/-- A frame read by R2. -/
def readEth (f : Bytes) : EthFrame :=
  let body := f.take (f.length - 4)
  let r := splitTags (body.drop 12)
  { dst := BitVec.ofNat 48 (field body 0 6), src := BitVec.ofNat 48 (field body 6 6), tags := r.1, etype := field r.2 0 2,
    payload := r.2.drop 2 }

/-- The receive path's checks (R16): the check sequence matches, and the length is from 64 to 1,518 and 4 for each of at most two tags. -/
def frameGood (f : Bytes) : Bool :=
  decide (64 ≤ f.length ∧ f.length ≤ 1518 + 4 * min 2 (readEth f).tags.length) && (fcs (f.take (f.length - 4)) == f.drop (f.length - 4))

/-- The IPv4 header fields the part reads (R2, R3), and the bytes after the header's stated length. -/
structure IpView where
  protocol : Nat
  isFragment : Bool
  src : Ip
  dst : Ip
  rest : Bytes
  deriving DecidableEq, Repr

/-- A payload read as IPv4 (R2). A fragment has a fragment offset other than 0 or the "more fragments" flag (R3). -/
def readIp (p : Bytes) : IpView :=
  { protocol := field p 9 1, isFragment := decide (field p 6 2 % 16384 ≠ 0), src := BitVec.ofNat 32 (field p 12 4),
    dst := BitVec.ofNat 32 (field p 16 4), rest := p.drop (4 * (field p 0 1 % 16)) }

/-- The frame is IPv4 (R3): its EtherType is 0x0800 (log 7). -/
def EthFrame.isIp (e : EthFrame) : Bool := e.etype == 0x0800

/-- The view is IPv4/UDP. -/
def IpView.isUdp (v : IpView) : Bool := v.protocol == 17

/-- The 16 bits in the position of a UDP destination port, when the frame holds them (R3). -/
def IpView.dstPort (v : IpView) : Option Nat := if 4 ≤ v.rest.length then some (field v.rest 2 2) else none

/-- The UDP source port. DESIGN CHOICE (log 51): a frame too short to hold one gives what bytes remain, 0 when there are none. -/
def IpView.srcPort (v : IpView) : Nat := field v.rest 0 2

/-- The UDP length field does not exceed the bytes present (R3); a header cut short exceeds them (log 7). The bytes present are every byte of
the frame after the IPv4 header, padding included: the IPv4 total length is not read (DESIGN CHOICE, log 66). -/
def IpView.udpWhole (v : IpView) : Bool := decide (8 ≤ v.rest.length ∧ field v.rest 4 2 ≤ v.rest.length)

/-- The UDP payload: as many bytes as the UDP length field less 8 (R2; log 41). -/
def IpView.udpPayload (v : IpView) : Bytes := (v.rest.drop 8).take (field v.rest 4 2 - 8)

/-! ### Frames the part builds (R2, R4) -/

/-- A VLAN tag as carried (R2). -/
def vlanBytes : Option (BitVec 16) → Bytes
  | none => []
  | some t => 0x81 :: 0x00 :: beVec 2 t

/-- A payload padded with zero bytes to the Ethernet minimum of 46 (R2; log 23). -/
def padPayload (p : Bytes) : Bytes := p ++ List.replicate (46 - p.length) 0

/-- An Ethernet frame with a fresh check sequence (R2). -/
def ethFrame (dst src : Mac) (vlan : Option (BitVec 16)) (etype : Nat) (payload : Bytes) : Bytes :=
  let body := beVec 6 dst ++ beVec 6 src ++ vlanBytes vlan ++ be 2 etype ++ padPayload payload
  body ++ fcs body

/-- The first ten bytes of the IPv4 header of a datagram (R2). -/
def ipHead (totalLength ident : Nat) : Bytes := [0x45, 0x00] ++ be 2 totalLength ++ be 2 ident ++ [0x40, 0x00, 64, 17]

/-- A UDP datagram in an IPv4 datagram in an Ethernet frame, with the header values of R2. -/
def udpFrame (dst src : Mac) (vlan : Option (BitVec 16)) (srcIp dstIp : Ip) (srcPort dstPort : Nat) (ident : Nat) (payload : Bytes) :
    Bytes :=
  let head := ipHead (28 + payload.length) ident
  let addrs := beVec 4 srcIp ++ beVec 4 dstIp
  let sum := ipChecksum (head ++ [0, 0] ++ addrs)
  let udp := be 2 srcPort ++ be 2 dstPort ++ be 2 (8 + payload.length) ++ [0, 0] ++ payload
  ethFrame dst src vlan 0x0800 (head ++ be 2 sum ++ addrs ++ udp)

/-- A reply addressed by a return path: as though from the address and port the till used (R4). -/
def replyFrame (p : ReturnPath) (ident : Nat) (payload : Bytes) : Bytes :=
  udpFrame p.tillMac p.dstMac p.vlan p.dstIp p.tillIp p.dstPort p.tillPort ident payload

/-- A frame to a gateway from the part's own addresses (R4). -/
def gatewayFrame (ownMac : Mac) (ownIp : Ip) (g : Gateway) (vlan : Option (BitVec 16)) (srcPort : Nat) (ident : Nat) (payload : Bytes) :
    Bytes :=
  udpFrame g.hop ownMac vlan ownIp g.ip srcPort g.port ident payload

/-! ### Till messages (section 1.3) -/

/-- The message kind of a kind byte. -/
def readKind : Nat → Option MsgKind
  | 1 => some .sale
  | 2 => some .refund
  | 3 => some .void
  | _ => none

/-- The kind byte of a message kind. -/
def MsgKind.code : MsgKind → Nat
  | .sale => 1
  | .refund => 2
  | .void => 3

/-- The items of an item list, read from the front; none when an item's stated length runs past the end (check 5 of R6). The fuel is
the length of the list. -/
def readItemsAux : (fuel : Nat) → Bytes → Option (List Item)
  | _, [] => some []
  | 0, _ => none
  | fuel + 1, t :: n :: rest =>
    if n.toNat ≤ rest.length then (readItemsAux fuel (rest.drop n.toNat)).map (⟨t.toNat, rest.take n.toNat⟩ :: ·) else none
  | _, [_] => none

/-- The items of an item list (section 1.3). -/
def readItems (b : Bytes) : Option (List Item) := readItemsAux b.length b

/-- The form the table of fixed tags gives an item's value (check 7 of R6). -/
def Item.formGood (x : Item) : Bool :=
  match x.tag with
  | 1 => decide (1 ≤ x.value.length ∧ x.value.length ≤ 12) && x.value.all isDigit
  | 2 => x.value.length == 3 && x.value.all isDigit
  | 3 => decide (12 ≤ x.value.length ∧ x.value.length ≤ 19) && x.value.all isDigit
  | 4 => x.value.length == 4 && x.value.all isDigit
  | 5 => decide (1 ≤ x.value.length ∧ x.value.length ≤ 107)
  | 6 => x.value.length == 8 || x.value.length == 16
  | 7 => x.value.length == 4
  | _ => true

/-- The value of the item with a fixed tag. -/
def itemValue (items : List Item) (tag : Nat) : Option Bytes := (items.find? (fun x => x.tag == tag)).map (·.value)

/-- The message holds an item of the tag. -/
def hasItem (items : List Item) (tag : Nat) : Bool := items.any (fun x => x.tag == tag)

/-- The value of AMOUNT, when the message has it (R8). -/
def messageAmount (items : List Item) : Option Nat := (itemValue items 1).map digitsValue

/-- The reference ORIGINAL-REFERENCE carries (section 1.3). -/
def originalReference (items : List Item) : Option Nat := (itemValue items 7).map beNat

/-- Checks 6 to 10 of R6 on a message's kind and items. -/
def itemsGood (kind : MsgKind) (items : List Item) : Bool :=
  items.all (fun x => x.tag != 0 && x.tag != 255)
    && items.all Item.formGood
    && [1, 2, 3, 4, 5, 6, 7].all (fun t => decide ((items.filter (fun x => x.tag == t)).length ≤ 1))
    && (kind == .void || !hasItem items 7)
    && (match kind with
        | .void => hasItem items 7
        | .sale => hasItem items 1 && (hasItem items 3 || hasItem items 5) && messageAmount items != some 0
        | .refund => hasItem items 1 && (hasItem items 3 || hasItem items 5))

/-- The card number of a message (R7): CARD-NUMBER, or the first run of digits of TRACK-DATA when it is 12 to 19 long. -/
def cardNumber (items : List Item) : Option Bytes :=
  match itemValue items 3 with
  | some v => some v
  | none =>
    match itemValue items 5 with
    | none => none
    | some track =>
      let run := (track.dropWhile (fun x => !isDigit x)).takeWhile isDigit
      if 12 ≤ run.length ∧ run.length ≤ 19 then some run else none

/-! ### Wrapped messages (section 1.4) -/

/-- The number of cipher blocks of a padded value of this length (R9). -/
def blockCount (length : Nat) : Nat := length / 16 + 1

/-- A value padded by R9: one byte 128 and zero bytes up to a multiple of 16. -/
def padValue (v : Bytes) : Bytes := v ++ [0x80] ++ List.replicate (16 * blockCount v.length - v.length - 1) 0

/-- The 16-byte blocks of a byte string. -/
def toBlocks (n : Nat) (b : Bytes) : List Block := (List.range n).map (fun j => BitVec.ofNat 128 (field b (16 * j) 16))

/-- The starting block of R9: position index, original tag and 13 zero bytes. -/
def startingBlock (position tag : Nat) : Block := BitVec.ofNat 128 (beNat (be 2 position ++ be 1 tag ++ List.replicate 13 0))

/-- Each padded block combined with the block before it and encrypted (steps 3 and 4 of R9). -/
def chainBlocks (key : Key) : Block → List Block → List Block
  | _, [] => []
  | prev, x :: rest => let y := cipher key (x ^^^ prev); y :: chainBlocks key y rest

/-- The ciphertext of an item's value (R9). -/
def encryptValue (key : Key) (position tag : Nat) (v : Bytes) : Bytes :=
  (chainBlocks key (startingBlock position tag) (toBlocks (blockCount v.length) (padValue v))).flatMap (beVec 16)

/-- A clear item (section 1.4). -/
def clearEntry (x : Item) : Bytes := be 1 1 ++ be 1 x.tag ++ be 1 x.value.length ++ x.value

/-- A wrapped item (section 1.4). -/
def wrappedEntry (key : Key) (position : Nat) (x : Item) : Bytes :=
  be 1 2 ++ be 1 x.tag ++ be 2 position ++ be 1 (blockCount x.value.length) ++ encryptValue key position x.tag x.value

/-- A masked item: the digit count of the card number and its last four digits (R8). -/
def maskedEntry (card : Bytes) : Bytes := be 1 3 ++ be 1 250 ++ be 1 card.length ++ card.drop (card.length - 4)

/-- The 29-byte header of a wrapped message (R8). -/
def wrappedHeader (kind : MsgKind) (number : Nat) (till : TillIx) (slot : SlotIx) (ksid gen counter reference : Nat)
    (amount : Option Nat) (entryCount : Nat) : Bytes :=
  be 1 1 ++ be 1 kind.code ++ be 2 number ++ be 1 till.val ++ be 1 slot.val ++ be 4 ksid ++ be 2 gen ++ be 4 counter ++ be 4 reference
    ++ be 1 (if amount.isSome then 1 else 0) ++ be 6 (amount.getD 0) ++ be 2 entryCount

/-- A byte string followed by its authentication code (R8, R12, R15). -/
def sealed (key : Key) (b : Bytes) : Bytes := b ++ beVec 8 (authCode key b)

/-! ### Transaction keys and key records (R63, R71, R80) -/

/-- A derivation block (R80). -/
def derivationBlock (purpose half : Nat) (gen : Nat) (till : TillIx) (counter ksid : Nat) : Block :=
  BitVec.ofNat 128 (beNat (be 1 purpose ++ be 1 half ++ be 2 gen ++ be 1 till.val ++ be 4 counter ++ be 4 ksid ++ [0, 0, 0]))

/-- The transaction key of a purpose (R80). -/
def deriveKey (purpose : Nat) (r : KeyRecord) (till : TillIx) (counter : Nat) : Key :=
  (cipher r.base (derivationBlock purpose 1 r.gen till counter r.ksid)
    ++ cipher r.base (derivationBlock purpose 2 r.gen till counter r.ksid) : BitVec 256)

/-- The integrity check of a key record under the transport key, over target code, key-set identifier, generation and base key (R63). -/
def integrityCode (transport : Key) (target ksid gen : Nat) (base : Key) : Code :=
  authCode transport (be 1 target ++ be 4 ksid ++ be 2 gen ++ beVec 32 base)

/-- The check value of a key: the first 3 bytes of the cipher of an all-zero block (R63). -/
def checkValueOf (base : Key) : BitVec 24 := (cipher base 0).extractLsb' 104 24

/-- The three plain blocks of LOAD-KEY's encrypted key (R71). -/
def plainBlocks (transport : Key) (enc : BitVec 384) : Block × Block × Block :=
  let e1 := enc.extractLsb' 256 128
  let e2 := enc.extractLsb' 128 128
  let e3 := enc.extractLsb' 0 128
  (decipher transport e1, decipher transport e2 ^^^ e1, decipher transport e3 ^^^ e2)

/-- The verification block LOAD-KEY's third plain block must equal (R71). -/
def verificationBlock (target ksid gen : Nat) : Block :=
  BitVec.ofNat 128 (beNat (be 1 target ++ be 4 ksid ++ be 2 gen ++ List.replicate 9 0))

/-- The record LOAD-KEY makes (R63, R71). -/
def newRecord (transport : Key) (target ksid gen : Nat) (base : Key) : KeyRecord :=
  { base := base, ksid := ksid, gen := gen, checkValue := checkValueOf base, integrity := integrityCode transport target ksid gen base,
    failed := false }

/-! ### Replies, drain traffic, probes and management frames (sections 1.5 to 1.8) -/

/-- A payload read as an acquirer reply (R10). -/
def isAcquirerReply (p : Bytes) : Bool := decide (17 ≤ p.length) && field p 0 1 == 1 && field p 1 1 == 1

/-- What a code is computed over, when it is the last 8 bytes of a payload. -/
def withoutCode (p : Bytes) : Bytes := p.take (p.length - 8)

/-- The last 8 bytes of a payload as a code. -/
def codeOf (p : Bytes) : Code := BitVec.ofNat 64 (beNat (p.drop (p.length - 8)))

/-- The 9-byte local reply (R11). -/
def localReplyPayload (kind number reference reason : Nat) : Bytes := be 1 1 ++ be 1 kind ++ be 2 number ++ be 4 reference ++ be 1 reason

/-- The drain record of a held record (R12), or its damaged notice. -/
def drainRecord (mgmtKey : Key) (serial : BitVec 64) (r : HeldRecord) : Bytes :=
  if r.checkPasses then
    sealed mgmtKey (be 1 1 ++ be 1 (if r.head.forwardedOnce then 1 else 0) ++ be 4 r.head.seq ++ beVec 8 serial ++ r.message)
  else
    sealed mgmtKey
      (be 1 1 ++ be 1 2 ++ be 4 r.head.seq ++ beVec 8 serial ++ be 2 r.head.number ++ be 4 r.head.reference ++ be 6 r.head.weight)

/-- A payload has the form of a drain acknowledgement (R12). -/
def isDrainAck (p : Bytes) : Bool := p.length == 13 && field p 0 1 == 1

/-- A probe (R13). -/
def probePayload (number : Nat) (serial : BitVec 64) : Bytes := be 1 1 ++ be 1 1 ++ be 4 number ++ beVec 8 serial

/-- A payload has the form of a probe answer (R13). -/
def isProbeAnswer (p : Bytes) : Bool := p.length == 14 && field p 0 1 == 1 && field p 1 1 == 2

/-- A management command read by R14: number, code and operands; none when it is too short, of another version, or its code fails. -/
def readCommand (mgmtKey : Key) (p : Bytes) : Option (Nat × Nat × Bytes) :=
  let n := field p 6 2
  if 8 ≤ p.length ∧ 16 + n ≤ p.length ∧ field p 0 1 = 1 ∧ BitVec.ofNat 64 (field p (8 + n) 8) = authCode mgmtKey (p.take (8 + n)) then
    some (field p 1 4, field p 5 1, (p.drop 8).take n)
  else none

/-- The payload of a management response (section 1.8). -/
def responsePayload (mgmtKey : Key) (number code status : Nat) (attention : Bool) (results : Bytes) : Bytes :=
  sealed mgmtKey
    (be 1 1 ++ be 4 number ++ be 1 code ++ be 1 status ++ be 1 (if attention then 1 else 0) ++ be 2 results.length ++ results)

/-- The payload is an address request for the given IPv4 address (R25). -/
def isAddressRequest (p : Bytes) (own : Ip) : Bool :=
  decide (28 ≤ p.length) && field p 0 2 == 1 && field p 2 2 == 0x0800 && field p 4 1 == 6 && field p 5 1 == 4 && field p 6 2 == 1
    && field p 24 4 == own.toNat

/-- The answer to an address request (R25): the part's addresses as sender, the asker's as target. -/
def addressAnswer (ownMac : Mac) (own : Ip) (request : Bytes) : Bytes :=
  be 2 1 ++ be 2 0x0800 ++ be 1 6 ++ be 1 4 ++ be 2 2 ++ beVec 6 ownMac ++ beVec 4 own ++ (request.drop 8).take 10

end Sys2Proof.Machine
end

