-- ==== Sys2Proof/Machine/Ops.lean ====
section
/-! DEFINITION. The operations every family shares: reading and setting one entry of a table, the transmit queues (R17 to R20), local
replies (R134), entry states (R39) and the refusal of a Pending Queue (R112), and the requests for sector writes (R51, R68). -/

namespace Sys2Proof.Machine

/-! ### Tables -/

/-- The Till Entry at an index (R38). -/
def State.till (s : State) (i : TillIx) : Till := s.tills[i]

/-- The state with one Till Entry replaced. -/
def State.setTill (s : State) (i : TillIx) (t : Till) : State := { s with tills := s.tills.set i t }

/-- The counter entry of a pair (R48). -/
def State.ctr (s : State) (k : SlotIx) (i : TillIx) : CounterEntry := (s.counters.entries[k])[i]

/-- The state with one counter entry replaced. -/
def State.setCtr (s : State) (k : SlotIx) (i : TillIx) (e : CounterEntry) : State :=
  { s with counters := { s.counters with entries := s.counters.entries.set k ((s.counters.entries[k]).set i e) } }

/-- The key slot of a number (R64). -/
def State.slot (s : State) (k : SlotIx) : KeySlot := s.keys.slots[k]

/-- The state with one key slot replaced. -/
def State.setSlot (s : State) (k : SlotIx) (x : KeySlot) : State := { s with keys := { s.keys with slots := s.keys.slots.set k x } }

/-- The Wrap Context of a number (R93). -/
def State.ctx (s : State) (i : CtxIx) : Ctx := s.ctxs[i]

/-- The state with one Wrap Context replaced. -/
def State.setCtx (s : State) (i : CtxIx) (x : Ctx) : State := { s with ctxs := s.ctxs.set i x }

/-- The profile of an index (R87). -/
def State.profile (s : State) (i : ProfIx) : Profile := s.settings.profiles[i]

/-- The Field Map of an index (R90). -/
def State.fieldMap (s : State) (i : ProfIx) : FieldMap := s.settings.maps[i]

/-- The till indexes in order. -/
def allTills : List TillIx := (List.range 128).map (Fin.ofNat 128)

/-- The key slots in order. -/
def allSlots : List SlotIx := (List.range 16).map (Fin.ofNat 16)

/-- The profiles in order. -/
def allProfiles : List ProfIx := (List.range 8).map (Fin.ofNat 8)

/-- The Wrap Contexts in order. -/
def allCtxs : List CtxIx := [0, 1, 2, 3]

/-- The part's own Ethernet address; zeros while sector 0 gives none (R26). -/
def State.ownMac (s : State) : Mac := (s.identity.map (·.mac)).getD 0

/-- The management key in force. -/
def State.mgmtKey (s : State) : Key := (s.identity.map (·.mgmtKey)).getD 0

/-- The transport key in force. -/
def State.transportKey (s : State) : Key := (s.identity.map (·.transportKey)).getD 0

/-- The device serial. -/
def State.serial (s : State) : BitVec 64 := (s.identity.map (·.serial)).getD 0

/-- The device serial, the root keys and the part's Ethernet address are in place: sector 0 was written and passed its check (R26). -/
def State.hasIdentity (s : State) : Bool := s.identity.isSome

/-- Entries of a list replaced at the first place a test holds. -/
def updateFirst {α : Type} (p : α → Bool) (f : α → α) : List α → List α
  | [] => []
  | x :: rest => if p x then f x :: rest else x :: updateFirst p f rest

/-! ### Transmit queues (R17 to R20) -/

/-- A port's state. -/
def State.port (s : State) : Port → PortState
  | .lane => s.lane
  | .uplink => s.uplink

/-- The state with a port's state replaced. -/
def State.setPort (s : State) : Port → PortState → State
  | .lane, x => { s with lane := x }
  | .uplink, x => { s with uplink := x }

/-- The port opposite (R18). -/
def oppositePort : Port → Port
  | .lane => .uplink
  | .uplink => .lane

/-- A frame discarded because its port's link is down is counted LINK-DISCARD (R20); when it is the response to RESET, that response has
left the port (R17, R183). -/
def State.discardFrame (s : State) (f : TxFrame) : State :=
  let s := s.raise .linkDiscard
  if f.isReset then { s with mgmt := { s.mgmt with reset := .gone } } else s

/-- A frame joins the tail of a port's Priority Queue; while the physical link is down it reaches the head at once and is discarded there
(R20, log 8). -/
def State.placePriority (s : State) (p : Port) (f : TxFrame) : State :=
  if (s.port p).linkUp then s.setPort p { s.port p with priority := (s.port p).priority ++ [f] } else s.discardFrame f

/-- A frame is offered to the Lane Priority Queue (R19): dropped and counted LANE-OVERFLOW when the queue is full. -/
def State.offerLane (s : State) (bytes : Bytes) : State :=
  if s.lane.priority.length < Config.priorityDepth then s.placePriority .lane { bytes := bytes, isReset := false }
  else s.raise .laneOverflow

/-- A frame received on a port is bridged to the opposite port's Bridge Queue (R18): dropped and counted BRIDGE-OVERFLOW when that queue is
full, and discarded at its head while that port's link is down (R20). -/
def State.bridge (s : State) (from_ : Port) (bytes : Bytes) : State :=
  let p := oppositePort from_
  if (s.port p).bridge.length < Config.bridgeDepth then
    if (s.port p).linkUp then s.setPort p { s.port p with bridge := (s.port p).bridge ++ [{ bytes := bytes, isReset := false }] }
    else s.raise .linkDiscard
  else s.raise .bridgeOverflow

/-- The IPv4 identification count advances by one, wrapping from 65,535 to 0 (R2). -/
def State.nextIpId (s : State) : State := { s with ipId := (s.ipId + 1) % 65536 }

/-! ### Local replies (R11, R134, R136, R46) -/

/-- The code of a decline's reason (R11). -/
def DeclineReason.code : DeclineReason → Nat
  | .noStandIn => 1
  | .overSingle => 2
  | .overTill => 3
  | .overStore => 4
  | .overCard => 5
  | .cardListFull => 6
  | .storeFull => 7
  | .storeFault => 8
  | .refundOffline => 9
  | .cardCheckUnavailable => 10

/-- The code of a refusal's reason (R11). -/
def RefuseReason.code : RefuseReason → Nat
  | .tillDisabled => 17
  | .tillMismatch => 18
  | .malformed => 19
  | .tooLong => 20
  | .busy => 21
  | .noKey => 22
  | .keyFault => 23
  | .exhausted => 24
  | .counterFault => 25

/-- The reply kind of a local reply (section 1.5). -/
def LocalReply.kind : LocalReply → Nat
  | .held => 2
  | .voidedLocal => 3
  | .declined _ => 4
  | .refused _ => 5
  | .timedOut => 6
  | .unavailable _ => 7

/-- The reason byte of a local reply (R11). -/
def LocalReply.reason : LocalReply → Nat
  | .held => 0
  | .voidedLocal => 0
  | .declined r => r.code
  | .refused r => r.code
  | .timedOut => 0
  | .unavailable .starting => 33
  | .unavailable .lockdown => 34
  | .unavailable .factory => 35
  | .unavailable .serving => 0

/-- The event a local reply of a kind advances (R136). -/
def LocalReply.event : LocalReply → EventCode
  | .held => .localHeld
  | .voidedLocal => .localVoided
  | .declined _ => .localDeclined
  | .refused _ => .localRefused
  | .timedOut => .localTimedOut
  | .unavailable _ => .localUnavailable

/-- The reply advances the till's refused count: REFUSED and SERVICE-UNAVAILABLE (R46). -/
def LocalReply.isRefusal : LocalReply → Bool
  | .refused _ => true
  | .unavailable _ => true
  | _ => false

/-- A reply frame is built for a return path and offered to the Lane Priority Queue (R134). -/
def State.sendReply (s : State) (path : ReturnPath) (payload : Bytes) : State :=
  (s.nextIpId).offerLane (replyFrame path s.ipId payload)

/-- The till's refused count advances (R46). -/
def State.countRefused (s : State) (i : TillIx) : State := s.setTill i { s.till i with refused := saturate (s.till i).refused }

/-- A local reply is decided for a message of a till: its event is counted (R136), the till's refused count advances for a refusal (R46),
and its frame is built and offered (R134). -/
def State.localReply (s : State) (i : TillIx) (number reference : Nat) (path : ReturnPath) (r : LocalReply) : State :=
  let s := s.raise r.event (till := some i)
  let s := if r.isRefusal then s.countRefused i else s
  s.sendReply path (localReplyPayload r.kind number reference r.reason)

/-- A local reply to a complete message. -/
def State.replyTo (s : State) (i : TillIx) (m : TillMsg) (r : LocalReply) : State := s.localReply i m.number m.reference m.path r

/-! ### Entry states and refused queues (R39, R33, R112) -/

/-- The state R39 gives an entry from its binding and its current counter entry. -/
def entryStateOf (b : Option Binding) (e : CounterEntry) : EntryState :=
  match b with
  | none => .vacant
  | some b =>
    if !b.enabled then .disabled
    else if e.c = Config.spent then .exhausted
    else if e.failed then .halted
    else .enabled

/-- A till's entry state (R39), computed and not stored (log 9). -/
def State.entryState (s : State) (i : TillIx) : EntryState :=
  match (s.till i).binding with
  | none => .vacant
  | some b => entryStateOf (some b) (s.ctr b.slot i)

/-- What checks 4 and 5 of R33 answer a message of the till with; none when it passes both. -/
def State.completionRefusal (s : State) (i : TillIx) : Option LocalReply :=
  match (s.till i).binding with
  | none => some (.refused .tillDisabled)
  | some b =>
    match s.entryState i with
    | .vacant => some (.refused .tillDisabled)
    | .disabled => some (.refused .tillDisabled)
    | .exhausted => some (.refused .exhausted)
    | .halted => some (.refused .counterFault)
    | .enabled =>
      match (s.slot b.slot).state with
      | .empty => some (.refused .noKey)
      | .faulted => some (.refused .keyFault)
      | .active => none

/-- Every message of a till's Pending Queue is answered with one reply, oldest first, and the queue is left empty (R43, R45, R79, R84, R112,
R115). -/
def State.refuseQueue (s : State) (i : TillIx) (r : LocalReply) : State :=
  (s.till i).queue.foldl (fun s m => s.replyTo i m r) (s.setTill i { s.till i with queue := [] })

/-- When the Message Assembler would now refuse a message of the till at completion, its Pending Queue is refused with the same reply
(R112). -/
def State.refuseIfBarred (s : State) (i : TillIx) : State :=
  match s.completionRefusal i with
  | none => s
  | some r => s.refuseQueue i r

/-- The tills bound to a slot, in order of till index. -/
def State.boundTills (s : State) (k : SlotIx) : List TillIx :=
  allTills.filter (fun i => ((s.till i).binding.map (·.slot)) == some k)

/-! ### Sector writes (R51, R68) -/

/-- Every command not yet answered, changed. -/
def State.mapJobs (s : State) (f : Job → Job) : State := { s with mgmt := { s.mgmt with jobs := s.mgmt.jobs.map f } }

/-- A waiting request is carried by the write that begins (R68). -/
def Wait.begun : Wait → Wait
  | .queued => .inFlight
  | w => w

/-- A carried request ends with its write (R68). -/
def Wait.ended : Wait → Wait
  | .inFlight => .no
  | w => w

/-- The volatile copies sector 1 holds (R67, R68). -/
def State.sector1 (s : State) : Sector1 :=
  { settings := s.settings, bindings := s.tills.map (·.binding), lastNumber := s.mgmt.last }

/-- FULL-ERASE is in progress: it has the Key Store and the Holding Store to itself until its reset (R190, log 20). -/
def State.erasing (s : State) : Bool := s.factory.op == some .erase

/-- A wanted sector 1 write, or DECOMMISSION's erase, begins when none is in flight (R68, R185). -/
def State.kick1 (s : State) : State :=
  if s.writer1.inFlight.isSome || s.erasing then s
  else if s.writer1.eraseWanted then
    { s with writer1 := { inFlight := some none, wanted := false, eraseWanted := false } }.mapJobs (fun j => { j with s1 := j.s1.begun })
  else if s.writer1.wanted then
    { s with writer1 := { inFlight := some (some s.sector1), wanted := false, eraseWanted := false } }.mapJobs
      (fun j => { j with s1 := j.s1.begun })
  else s

/-- A record as sector 2 keeps it: the failed mark is volatile (R63). -/
def KeyRecord.unmarked (r : KeyRecord) : KeyRecord := { r with failed := false }

/-- What sector 2 keeps of a slot (R64, R67). -/
def KeySlot.stored (x : KeySlot) : StoredSlot :=
  { current := x.current.map (·.unmarked), staged := x.staged.map (·.unmarked), state := x.state, floor := x.floor }

/-- The slot state an activation gives (R64, R75): ACTIVE; but a slot that R84 has faulted since its activation was carried out has not been
emptied, and is still FAULTED (DEDUCED, log 53). -/
def SlotState.switched : SlotState → SlotState
  | .empty => .active
  | .active => .active
  | .faulted => .faulted

/-- A slot's stored contents with the changes of one addition (R72, R75), as the slot stands when the write begins. -/
def StoredSlot.withAddition (x : StoredSlot) (k : SlotIx) : KeyAddition → StoredSlot
  | .load j r => if j = k then { x with staged := some r } else x
  | .loadFp _ => x
  | .activate j =>
    if j = k then { current := x.staged, staged := none, state := x.state.switched, floor := (x.staged.map (·.gen)).getD x.floor } else x

/-- The fingerprint key record a write records (R73, R85): a failed record, which the volatile Key Table keeps, is not carried (log 54). -/
def carriedFp (fp : Option KeyRecord) : Option KeyRecord := fp.filter (fun r => !r.failed)

/-- The contents a sector 2 write takes: the volatile copies with the changes it carries (R68, R72, R73, R75, R84, R85). -/
def State.sector2 (s : State) (adds : List KeyAddition) : Sector2 :=
  let fpLoads := adds.filterMap (fun a => match a with | .loadFp r => some r | _ => none)
  { slots := Vector.ofFn (fun k : SlotIx => adds.foldl (fun x a => x.withAddition k a) (s.slot k).stored)
    fp := (fpLoads.getLast?).or (carriedFp s.keys.fp)
    fpFloor := ((fpLoads.getLast?).map (·.gen)).getD s.keys.fpFloor }

/-- A wanted sector 2 write, or DECOMMISSION's erase, begins when none is in flight; the erase carries the requests that wait (R68, R185). -/
def State.kick2 (s : State) : State :=
  if s.writer2.inFlight.isSome || s.erasing then s
  else if s.writer2.eraseWanted then
    { s with writer2 := { inFlight := some { contents := none, additions := s.writer2.waiting, zeroise := false,
                                             thenErase3 := true, void := false }, waiting := [],
                          wanted := false, eraseWanted := false } }.mapJobs (fun j => { j with s2 := j.s2.begun })
  else if s.writer2.wanted then
    { s with writer2 := { inFlight := some { contents := some (s.sector2 s.writer2.waiting), additions := s.writer2.waiting,
                                             zeroise := false, thenErase3 := false, void := false },
                          waiting := [], wanted := false, eraseWanted := false } }.mapJobs (fun j => { j with s2 := j.s2.begun })
  else s

/-- A sector 2 write is requested, with what it adds (R68). -/
def State.request2 (s : State) (adds : List KeyAddition) : State :=
  { s with writer2 := { s.writer2 with waiting := s.writer2.waiting ++ adds, wanted := true } }.kick2

/-- The checkpoints a sector 3 write records (R51): the fresh value for a slot whose activation it carries, the target of a raise, and the
checkpoint in force otherwise. Every raise in flight is in the pending set when a write begins. -/
def State.sector3 (s : State) (acts : List SlotIx) : Sector3 :=
  Vector.ofFn (fun k : SlotIx =>
    if acts.contains k then Vector.replicate 128 Config.raiseStep
    else (s.counters.entries[k]).map (fun e => e.raise.getD e.k))

/-- A sector 3 write begins when none is in flight and something is requested, and takes every request (R51); the raises of a slot whose
activation it carries are replaced by the fresh values (R60). With nothing requested, no command waits for a later write: an
ENABLE-TILL whose retry raise DECOMMISSION has removed is answered then (DESIGN CHOICE, log 76). -/
def State.kick3 (s : State) : State :=
  if s.counters.inFlight.isSome || s.erasing then s
  else if s.counters.pending.isEmpty && s.counters.activations.isEmpty && !s.counters.eraseWanted then
    s.mapJobs (fun j => if j.s3 = .queued then { j with s3 := .no } else j)
  else
    { s with counters :=
      { s.counters with
        pending := []
        activations := []
        eraseWanted := false
        inFlight := some
          { raises := if s.counters.eraseWanted then [] else s.counters.pending.filter (fun r => !s.counters.activations.contains r.1)
            activations := if s.counters.eraseWanted then [] else s.counters.activations
            erase := s.counters.eraseWanted
            void := false
            contents := s.sector3 s.counters.activations } } }.mapJobs (fun j => { j with s3 := j.s3.begun })

/-- A raise of a counter entry is requested (R50): its target is min(k + 256, 1,048,576), and it joins the pending set. -/
def State.requestRaise (s : State) (k : SlotIx) (i : TillIx) : State :=
  let s := s.setCtr k i { s.ctr k i with raise := some (min ((s.ctr k i).k + Config.raiseStep) Config.spent) }
  { s with counters := { s.counters with pending := s.counters.pending ++ [(k, i)] } }

end Sys2Proof.Machine
end

