-- ==== Sys2Proof/Machine/Engine.lean ====
section
/-! DEFINITION. The operations of the Wrap Engine, the Wrap Scheduler and the Outstanding List that several commands share: the Uplink
waiting order (R19), Outstanding places and entries (R65, R101, R102, R122), a context's end and its abandonment (R93, R106), reservations
(R49, R50, R55), and eligibility and grants (R94, R113, R114, R117, R118). -/

namespace Sys2Proof.Machine

/-! ### The Uplink Priority Queue and its waiting order (R19) -/

/-- A Wrap Context returns to IDLE: its fields are cleared, and so is its till's wrap in flight flag (R38, R93), unless the flag is now
another till's (log 19). -/
def State.ctxToIdle (s : State) (i : CtxIx) : State :=
  match (s.ctx i).wrap with
  | none => s.setCtx i idleCtx
  | some w =>
    (if w.formerTill then s else s.setTill w.till { s.till w.till with wrapInFlight := false }).setCtx i idleCtx

/-- The Outstanding entry of a wrap whose frame the queue takes now (R102). -/
def State.newEntry (s : State) (w : Wrap) (m : TillMsg) : OutEntry :=
  { till := w.till, number := m.number, path := m.path, kind := m.kind, reference := m.reference, profileIx := w.profileIx,
    slot := w.slot, gen := w.gen, counter := w.counter, amount := messageAmount m.items, fp := w.fp,
    copy := if w.profile.policy = .alsoOnTimeout then some w.wrapped else none, deadline := s.now + 1000 * w.profile.window }

/-- The stored record of a slot with the head the index holds (R165); a record whose message cannot be found does not pass its check. -/
def HoldingStore.recordAt (h : HoldingStore) (l : IndexLine) : HeldRecord :=
  match (h.nv.find? (fun x => x.slot == l.slot)).bind (·.contents) with
  | none => { head := l.head, message := [], checkPasses := false }
  | some r => { head := l.head, message := r.message, checkPasses := r.checkPasses }

/-- A held record's frame has been placed (R165): its acknowledgement deadline starts, and a record whose check fails has now been sent as a
damaged notice (R170). -/
def HoldingStore.sent (h : HoldingStore) (deadline : Nat) (l : IndexLine) : IndexLine :=
  { l with deadline := some deadline, noticed := l.noticed || !(h.recordAt l).checkPasses }

/-- What follows for the block whose frame the Uplink Priority Queue takes: a context's Outstanding entry (R102), a DRAINING record's
acknowledgement deadline and whether it went as a damaged notice (R165, R170), an awaited probe (R139), the next response (R175). -/
def State.placed (s : State) : Waiter → State
  | .ctx i =>
    match (s.ctx i).wrap with
    | none => s
    | some w =>
      match w.msg with
      | none => s
      | some m => State.ctxToIdle { s with outstanding := s.outstanding ++ [s.newEntry w m] } i
  | .drain =>
    match s.drain.inHand with
    | none => s
    | some q =>
      { s with
        drain := { s.drain with inHand := none }
        holding := { s.holding with lines := s.holding.lines.map (fun l =>
          if l.held && l.head.seq == q then s.holding.sent (s.now + 1000 * s.settings.store.ackTimeout) l else l) } }
  | .monitor =>
    match s.link.inHand with
    | none => s
    | some n => { s with link := { s.link with inHand := none, awaited := s.link.awaited ++ [(n, s.now + Config.probeAnswerTime)] } }
  | .mgmt => { s with mgmt := { s.mgmt with responses := s.mgmt.responses.drop 1 } }
  | .responder => s

/-- A block offers a frame to the Uplink Priority Queue (R19): it joins the queue at once while there is a place and no block waits; the
block joins the end of the waiting order otherwise. -/
def State.offerUplink (s : State) (w : Waiter) (f : TxFrame) : State :=
  if s.waitOrder.isEmpty && decide (s.uplink.priority.length < Config.priorityDepth) then (s.placePriority .uplink f).placed w
  else { s with waitOrder := s.waitOrder ++ [(w, f)] }

/-- Freed places of the Uplink Priority Queue go to the blocks that began waiting earliest (R19). -/
def State.serveUplink (s : State) : State :=
  s.waitOrder.foldl (fun s x =>
    if s.uplink.priority.length < Config.priorityDepth then
      (State.placePriority { s with waitOrder := s.waitOrder.drop 1 } .uplink x.2).placed x.1
    else s) s

/-- A block leaves the waiting order without placing its frame (R19). -/
def State.leaveQueue (s : State) (w : Waiter) : State := { s with waitOrder := s.waitOrder.filter (fun x => x.1 != w) }

/-! ### Outstanding places and entries (R101, R102, R122) -/

/-- Places taken by contexts in EMITTING (R101). -/
def State.takenPlaces (s : State) : Nat := (allCtxs.filter (fun i => ((s.ctx i).wrap.map (·.place)) == some true)).length

/-- Filled and taken places together (R101). -/
def State.usedPlaces (s : State) : Nat := s.outstanding.length + s.takenPlaces

/-- A context takes an Outstanding place and offers its frame, addressed to the acquirer gateway of its profile copy (R4, R101, R102). -/
def State.offerWrap (s : State) (i : CtxIx) : State :=
  match (s.ctx i).wrap with
  | none => s
  | some w =>
    match w.msg with
    | none => s
    | some m =>
      let f := gatewayFrame s.ownMac s.settings.store.ownIp w.profile.gateway m.path.vlan m.path.dstPort s.ipId w.wrapped
      ((s.nextIpId).setCtx i { s.ctx i with wrap := some { w with place := true } }).offerUplink (.ctx i) { bytes := f, isReset := false }

/-- A context enters EMITTING (R101): it takes a free place at once while no context waits for one, and waits otherwise. -/
def State.enterEmitting (s : State) (i : CtxIx) : State :=
  let s := s.setCtx i { s.ctx i with phase := .emitting }
  if s.placeWait.isEmpty && decide (s.usedPlaces < Config.outstandingPlaces) then s.offerWrap i
  else { s with placeWait := s.placeWait ++ [i] }

/-- Freed places of the Outstanding List go to the contexts that began waiting earliest (R101). -/
def State.servePlaces (s : State) : State :=
  s.placeWait.foldl (fun s i =>
    if s.usedPlaces < Config.outstandingPlaces then State.offerWrap { s with placeWait := s.placeWait.drop 1 } i else s) s

/-- The slot's previous record is dropped when no Outstanding entry names the slot and its generation (R65). -/
def State.dropPrevious (s : State) (k : SlotIx) (gen : Nat) : State :=
  if s.outstanding.any (fun e => e.slot == k && e.gen == gen) then s
  else
    match (s.slot k).previous with
    | none => s
    | some r => if r.gen = gen then s.setSlot k { s.slot k with previous := none } else s

/-- An entry leaves the Outstanding List (R122): the previous record it alone needed is dropped, and its place is given on. -/
def State.removeEntry (s : State) (e : OutEntry) : State :=
  (State.dropPrevious { s with outstanding := s.outstanding.eraseP (fun x => x.till == e.till && x.reference == e.reference) }
    e.slot e.gen).servePlaces

/-! ### Abandonment (R56, R57, R106) -/

/-- A Holding Store operation the context asked for runs on, and its outcome reaches no reply (R106). -/
def StoreOp.disown (i : CtxIx) : StoreOp → StoreOp
  | .write n r h => .write n (if r = .ctx i then .nobody else r) h
  | .free n r => .free n (if r = .ctx i then .nobody else r)

/-- A wrap is abandoned (R106): its context leaves both waiting orders, gives up what it holds and returns to IDLE. -/
def State.abandon (s : State) (i : CtxIx) : State :=
  State.ctxToIdle
    { (s.leaveQueue (.ctx i)) with
      placeWait := s.placeWait.filter (fun j => j != i)
      holding := { s.holding with ops := s.holding.ops.map (StoreOp.disown i) } } i

/-- The phases in which a wrap has not reached its outcome (R56). -/
def Phase.unsettled : Phase → Bool
  | .idle => false
  | .reserved => true
  | .derivingKeys => true
  | .wrapping => true
  | .authenticating => true
  | .deciding => true
  | .emitting => true
  | .holding => false

/-- The context whose wrap of the till has not reached its outcome (R56). -/
def State.openWrap (s : State) (i : TillIx) : Option (CtxIx × Wrap) :=
  allCtxs.findSome? (fun c =>
    match (s.ctx c).wrap with
    | none => none
    | some w => if w.till = i ∧ (s.ctx c).phase.unsettled then some (c, w) else none)

/-- The till's wrap loses its reservation (R56): the state after it, and the message of the abandoned wrap. DESIGN CHOICE (log 72): an
Outstanding place that the abandonment frees is given on here, so that the waiting context's frame is built before any reply of the same
step; R56 and R119 give no order. -/
def State.loseReservation (s : State) (i : TillIx) : State × Option TillMsg :=
  match s.openWrap i with
  | none => (s, none)
  | some (c, w) => (((s.abandon c).raise .reservationLost (till := some i) (slot := some w.slot)).servePlaces, w.msg)

/-! ### Reservations and grants (R49, R50, R55, R94, R113 to R118) -/

/-- The events of a reservation that brings a counter entry's next value to `c` (R55). -/
def State.counterEvents (s : State) (k : SlotIx) (i : TillIx) (c : Nat) : State :=
  if c = Config.counterLowMark then s.raise .counterLow (till := some i) (slot := some k)
  else if c = Config.spent then s.raise .counterExhausted (till := some i) (slot := some k)
  else s

/-- The conditions under which a reservation requests a raise (R50). -/
def CounterEntry.wantsRaise (e : CounterEntry) : Bool :=
  decide (e.k - e.c ≤ Config.raiseMargin) && decide (e.k < Config.spent) && e.raise.isNone && !e.failed

/-- A reservation is taken for a pair (R49): c advances, a raise is requested by R50, events follow by R55, and the till of a spent entry
has its Pending Queue refused (R112). -/
def State.reserve (s : State) (k : SlotIx) (i : TillIx) : State :=
  let s := s.setCtr k i { s.ctr k i with c := (s.ctr k i).c + 1 }
  let s := if (s.ctr k i).wantsRaise then (s.requestRaise k i).kick3 else s
  let s := s.counterEvents k i (s.ctr k i).c
  if (s.ctr k i).c = Config.spent then s.refuseIfBarred i else s

/-- A quiet hold of the waiting management command covers the till (R114). -/
def State.covered (s : State) (b : Binding) : Bool :=
  s.mgmt.jobs.any (fun j =>
    match j.role with
    | .waiting (.slot k) _ => b.slot == k
    | .waiting .engine _ => true
    | .stopped (.slot k) => b.slot == k
    | .stopped .engine => true
    | .current => false
    | .late => false)

/-- The till is eligible for a grant: the seven conditions of R113. -/
def State.eligible (s : State) (i : TillIx) : Bool :=
  match (s.till i).binding with
  | none => false
  | some b =>
    s.opState == .serving && s.entryState i == .enabled && !(s.till i).queue.isEmpty && !(s.till i).wrapInFlight
      && decide ((s.ctr b.slot i).c < (s.ctr b.slot i).k) && (s.slot b.slot).state == .active && !s.covered b

/-- The till's class: the class of the profile it is bound to (R116). -/
def State.isClass (s : State) (i : TillIx) (k : TillClass) : Bool :=
  match (s.till i).binding with
  | none => false
  | some b => (s.profile b.profile).cls == k

/-- The first till found by searching upward from a pointer, wrapping from 127 to 0 (R117). -/
def searchFrom (p : TillIx) (ok : TillIx → Bool) : Option TillIx := (allTills.map (fun d => p + d)).find? ok

/-- The till the arbiter chooses, with its class (R117); none when no till is eligible. -/
def State.chooseTill (s : State) : Option (TillIx × TillClass) :=
  let kiosk := searchFrom s.arbiter.kiosk (fun i => s.isClass i .kiosk && s.eligible i)
  let attended := searchFrom s.arbiter.attended (fun i => s.isClass i .attended && s.eligible i)
  match kiosk, attended with
  | some k, some a => if s.settings.store.share ≤ s.arbiter.g then some (k, .kiosk) else some (a, .attended)
  | some k, none => some (k, .kiosk)
  | none, some a => some (a, .attended)
  | none, none => none

/-- The arbiter's values after a grant to a till of a class (R117). -/
def Arbiter.after (x : Arbiter) (share : Nat) (i : TillIx) : TillClass → Arbiter
  | .kiosk => { x with g := 0, kiosk := i + 1 }
  | .attended => { x with g := min (x.g + 1) share, attended := i + 1 }

/-- The head message of a till is granted to a context, as one step (R94). -/
def State.grantTo (s : State) (c : CtxIx) (i : TillIx) (cls : TillClass) : State :=
  match (s.till i).binding, (s.till i).queue with
  | some b, m :: rest =>
    let w : Wrap :=
      { till := i, msg := some m, profileIx := b.profile, profile := s.profile b.profile, map := s.fieldMap b.profile, slot := b.slot,
        counter := (s.ctr b.slot i).c, gen := 0, ksid := 0, dataKey := none, authKey := none, fp := none, entries := [], wrapped := [],
        place := false, inHand := none, formerTill := false }
    let s := s.setCtx c { phase := .reserved, wrap := some w }
    let s := s.setTill i { s.till i with queue := rest, wrapInFlight := true }
    let s := { s with arbiter := s.arbiter.after s.settings.store.share i cls }
    s.reserve b.slot i
  | _, _ => s

/-- One grant decision (R117, R118): the chosen till's message goes to the IDLE context of the lowest number. -/
def State.grantOnce (s : State) : State :=
  match allCtxs.find? (fun c => (s.ctx c).phase == .idle), s.chooseTill with
  | some c, some (i, cls) => s.grantTo c i cls
  | _, _ => s

/-- Grant decisions until every context is busy or no till is eligible (R118). -/
def State.grants (s : State) : State := s.grantOnce.grantOnce.grantOnce.grantOnce

end Sys2Proof.Machine
end

