-- ==== Sys2Proof/Machine/Link.lean ====
section
/-! DEFINITION. The operations of the Link Monitor (R137 to R144) and the moves of the drain state that it causes (R164, R167, R168). -/

namespace Sys2Proof.Machine

/-! ### The drain state (R163, R164, R167, R168) -/

/-- Some record is HELD (R164). -/
def State.anyHeld (s : State) : Bool := s.holding.lines.any (·.held)

/-- The store settings name a drain gateway (R163). -/
def State.hasDrainGateway (s : State) : Bool := s.settings.store.drainGw.ip != 0

/-- The line is UP and settled (R143). -/
def State.lineSettled (s : State) : Bool := s.link.state == .up && s.link.settled

/-- A pass ends (R167): every DRAINING record returns to HELD, the record in hand is given up, the cursor returns to 0. -/
def State.endPass (s : State) : State :=
  { (s.leaveQueue .drain) with
    drain := { s.drain with cursor := 0, inHand := none }
    holding := { s.holding with lines := s.holding.lines.map (fun l => { l with draining := false, deadline := none }) } }

/-- RUNNING leaves for ARMED, ending the pass (R167, R168). -/
def State.leaveRunning (s : State) : State :=
  if s.drain.state = .running then { s.endPass with drain := { s.endPass.drain with state := .armed } } else s

/-- The drain goes to IDLE, as STOP-DRAIN takes it there (R168, R169). -/
def State.drainToIdle (s : State) : State :=
  match s.drain.state with
  | .idle => s
  | .armed => { s with drain := { s.drain with state := .idle } }
  | .running => { s.endPass with drain := { s.endPass.drain with state := .idle } }

/-- An ARMED drain enters RUNNING when the line is UP and settled and there is a drain gateway, beginning a pass (R164). -/
def State.tryRun (s : State) : State :=
  if s.drain.state = .armed ∧ s.lineSettled ∧ s.hasDrainGateway then { s with drain := { s.drain with state := .running, cursor := 0 } }
  else s

/-- The drain is armed, and runs at once where it may (R164). -/
def State.armDrain (s : State) : State := State.tryRun { s with drain := { s.drain with state := .armed } }

/-- In AUTO mode the drain is armed whenever it is IDLE, the part is SERVING, drain is not suspended and a record is HELD (R164). -/
def State.autoArm (s : State) : State :=
  if s.settings.store.mode = .auto ∧ s.drain.state = .idle ∧ s.opState = .serving ∧ !s.settings.suspended ∧ s.anyHeld then s.armDrain
  else s

/-! ### The link state (R141 to R143) -/

/-- The settle timer starts for the settle time in force (R143); with a settle time of 0 it expires at once, and the AUTO trigger fires. -/
def State.startSettle (s : State) : State :=
  if s.settings.link.settle = 0 then State.tryRun { s with link := { s.link with settleTimer := none, settled := true } }
  else { s with link := { s.link with settleTimer := some (s.now + 1000 * s.settings.link.settle), settled := false } }

/-- The line leaves UP: the settle timer stops, the settled flag clears, and the drain is told (R143, R144, R168). -/
def State.leaveUp (s : State) : State := State.leaveRunning { s with link := { s.link with settleTimer := none, settled := false } }

/-- The link state and run count are set. -/
def State.setLink (s : State) (x : LinkState) (run : Nat) : State := { s with link := { s.link with state := x, run := run } }

/-- The state enters UP (R141, R143). -/
def State.enterUp (s : State) : State := (s.setLink .up 0).startSettle

/-- A run of successes has reached this length: UP with LINK-UP at N_up, RECOVERING before it (R141). -/
def State.successRun (s : State) (run : Nat) : State :=
  if s.settings.link.nUp ≤ run then (s.raise .linkUp).enterUp else s.setLink .recovering run

/-- A run of failures has reached this length: DOWN with LINK-DOWN at N_down, SUSPECT before it (R141). -/
def State.failureRun (s : State) (run : Nat) : State :=
  if s.settings.link.nDown ≤ run then (s.raise .linkDown).setLink .down 0 else s.setLink .suspect run

/-- The Monitor takes a success (R141); none is counted while the physical link is down. -/
def State.linkSuccess (s : State) : State :=
  if s.link.physicalUp then
    match s.link.state with
    | .up => s
    | .suspect => s.enterUp
    | .down => s.successRun 1
    | .recovering => s.successRun (s.link.run + 1)
  else s

/-- The Monitor takes a failure (R141). -/
def State.linkFailure (s : State) : State :=
  match s.link.state with
  | .up => s.leaveUp.failureRun 1
  | .suspect => s.failureRun (s.link.run + 1)
  | .down => s
  | .recovering => s.setLink .down 0

/-- The Monitor takes the loss of the Uplink physical link (R142). -/
def State.physicalLoss (s : State) : State :=
  let s := { s with link := { s.link with physicalUp := false } }
  match s.link.state with
  | .up => (s.leaveUp.raise .linkDown).setLink .down 0
  | .suspect => (s.raise .linkDown).setLink .down 0
  | .down => s
  | .recovering => s.setLink .down 0

/-- The Monitor takes the restoration of the Uplink physical link (R142). -/
def State.physicalReturn (s : State) : State :=
  let s := { s with link := { s.link with physicalUp := true } }
  if s.link.state = .down then s.setLink .recovering 0 else s

/-- The drain asks for the settle timer to be restarted (R143). -/
def State.restartSettle (s : State) : State := if s.link.state = .up then s.startSettle else s

/-! ### Probes (R139, R140) -/

/-- The probe timer restarts, and a probe is built and offered unless one is still in hand or there is no probe gateway (R139). -/
def State.probeTick (s : State) : State :=
  let s := { s with link := { s.link with probeTimer := some (s.now + 1000 * s.settings.link.interval) } }
  if s.link.inHand.isSome ∨ s.settings.store.probeGw.ip = 0 then s
  else
    let n := (s.link.probeCount + 1) % 4294967296
    let g := s.settings.store.probeGw
    let f := gatewayFrame s.ownMac s.settings.store.ownIp g none g.port s.ipId (probePayload n s.serial)
    (State.nextIpId { s with link := { s.link with probeCount := n, inHand := some n } }).offerUplink .monitor
      { bytes := f, isReset := false }

/-- An awaited probe of a number exists (R140). -/
def State.awaits (s : State) (n : Nat) : Bool := s.link.awaited.any (fun p => p.1 == n)

/-- The probe of a number leaves the awaited probes (R140). -/
def State.unawait (s : State) (n : Nat) : State :=
  { s with link := { s.link with awaited := s.link.awaited.filter (fun p => p.1 != n) } }

end Sys2Proof.Machine
end

