-- ==== Sys2Proof/Machine/StandIn.lean ====
section
/-! DEFINITION. The Stand-in Unit (R145 to R154) and the Holding Store's index, requests and operations (R155 to R162), with the Drain
Controller's taking of records and its completion (R165, R170). -/

namespace Sys2Proof.Machine

/-! ### Charges (R145 to R149) -/

/-- The weighted amount W (R146): A × w / 100 rounded up for a SALE, 0 for a REFUND or a VOID. -/
def weightOf (kind : MsgKind) (amount risk : Nat) : Nat :=
  match kind with
  | .sale => (amount * risk + 99) / 100
  | .refund => 0
  | .void => 0

/-- A charge on the Offline Card List (R148). -/
def chargeCard (cards : List CardEntry) (w : Nat) : Option Fingerprint → List CardEntry
  | none => cards
  | some f =>
    if cards.any (fun c => c.fp == f) then
      updateFirst (fun c => c.fp == f) (fun c => { c with count := c.count + 1, total := c.total + w }) cards
    else cards ++ [{ fp := f, count := 1, total := w }]

/-- An acceptance charges W (R148). -/
def StandIn.charge (x : StandIn) (till : TillIx) (w : Nat) (fp : Option Fingerprint) : StandIn :=
  { tillTotals := x.tillTotals.set till (x.tillTotals[till] + w), storeTotal := x.storeTotal + w, cards := chargeCard x.cards w fp }

/-- A release on the Offline Card List (R149): an entry whose count reaches 0 leaves the list. -/
def releaseCard (cards : List CardEntry) (w : Nat) : Option Fingerprint → List CardEntry
  | none => cards
  | some f =>
    (updateFirst (fun c => c.fp == f) (fun c => { c with count := c.count - 1, total := c.total - w }) cards).filter
      (fun c => c.count != 0)

/-- A release takes a record's charge out of the totals (R149). -/
def StandIn.release (x : StandIn) (till : TillIx) (w : Nat) (fp : Option Fingerprint) : StandIn :=
  { tillTotals := x.tillTotals.set till (x.tillTotals[till] - w), storeTotal := x.storeTotal - w, cards := releaseCard x.cards w fp }

/-- The charge of a record is released (R149). -/
def State.release (s : State) (h : RecordHead) : State := { s with standIn := s.standIn.release h.till h.weight h.fp }

/-! ### The record index (R155, R156, R160) -/

/-- The lowest-numbered slot at or above `n` that is FREE and not claimed; `fuel` slots are looked at. -/
def HoldingStore.firstFree (h : HoldingStore) : (fuel n : Nat) → Option Nat
  | 0, _ => none
  | fuel + 1, n =>
    if h.lines.any (fun l => l.slot == n) || h.bad.contains n || h.claimed.contains n then h.firstFree fuel (n + 1) else some n

/-- The usable slot of the lowest number (R156, R160). -/
def HoldingStore.usableSlot (h : HoldingStore) : Option Nat :=
  if h.next ≤ Config.sequenceMax then h.firstFree Config.holdingSlots 0 else none

/-- The record of a till index and reference (R160). -/
def HoldingStore.findPair (h : HoldingStore) (till : TillIx) (reference : Nat) : Option IndexLine :=
  h.lines.find? (fun l => l.head.till == till && l.head.reference == reference)

/-- The record of a sequence number (R166). -/
def HoldingStore.findSeq (h : HoldingStore) (q : Nat) : Option IndexLine := h.lines.find? (fun l => l.head.seq == q)

/-- The number of DRAINING records (R165). -/
def HoldingStore.drainingCount (h : HoldingStore) : Nat := (h.lines.filter (·.draining)).length

/-- A line put in its place by slot number. -/
def putLine (x : IndexLine) : List IndexLine → List IndexLine
  | [] => [x]
  | l :: rest => if l.slot < x.slot then l :: putLine x rest else x :: l :: rest

/-- A slot's non-volatile contents put in their place by slot number, in place of what stood there. -/
def putSlot (x : NvSlot) : List NvSlot → List NvSlot
  | [] => [x]
  | l :: rest => if l.slot < x.slot then l :: putSlot x rest else if l.slot = x.slot then x :: rest else x :: l :: rest

/-- The line of a slot changed. -/
def HoldingStore.mapLine (h : HoldingStore) (slot : Nat) (f : IndexLine → IndexLine) : HoldingStore :=
  { h with lines := h.lines.map (fun l => if l.slot = slot then f l else l) }

/-- The line of a slot cleared: the slot is FREE, or BAD when the bad-slot list names it. -/
def HoldingStore.dropLine (h : HoldingStore) (slot : Nat) : HoldingStore := { h with lines := h.lines.filter (fun l => l.slot != slot) }

/-- Some record is WRITING or HELD (R71, R184). -/
def HoldingStore.anyRecord (h : HoldingStore) : Bool := !h.lines.isEmpty

/-- A record write is requested in a claimed slot (R157): the slot becomes WRITING, the record takes the next sequence number, and the
operation joins the queue. -/
def State.requestWrite (s : State) (slot : Nat) (by_ : Requester) (r : HeldRecord) : State :=
  let r := { r with head := { r.head with seq := s.holding.next } }
  { s with holding :=
    { s.holding with
      lines := putLine { slot := slot, held := false, head := r.head, draining := false, freeing := false, deadline := none,
                         noticed := false } s.holding.lines
      claimed := s.holding.claimed.filter (fun n => n != slot)
      next := s.holding.next + 1
      ops := s.holding.ops ++ [.write slot by_ r] } }

/-- A record's free is asked for (R159): it is taken for freeing, its DRAINING mark clears, and the operation joins the queue. -/
def State.requestFree (s : State) (slot : Nat) (by_ : Requester) : State :=
  let h := s.holding.mapLine slot (fun l => { l with freeing := true, draining := false, deadline := none })
  { s with holding := { h with ops := h.ops ++ [.free slot by_] } }

/-! ### Stand-in decisions (R146 to R148) -/

/-- The fingerprint key record, when it is usable (R66). -/
def State.usableFp (s : State) : Option KeyRecord := s.keys.fp.filter (fun r => !r.failed)

/-- A LOAD-KEY for the fingerprint key has its sector 2 write in flight or waiting (R73, log 27). -/
def State.fpLoading (s : State) : Bool :=
  let isFp := fun a => match a with
    | KeyAddition.loadFp _ => true
    | KeyAddition.load _ _ => false
    | KeyAddition.activate _ => false
  s.writer2.waiting.any isFp || (match s.writer2.inFlight with | none => false | some w => w.additions.any isFp && !w.void)

/-- Check 1 of R147: the fingerprint can be used for a card check. -/
def State.cardCheckable (s : State) (fp : Option Fingerprint) : Bool :=
  match fp, s.usableFp with
  | some f, some r => f.gen == r.gen && !s.fpLoading
  | _, _ => false

/-- The card entry of a fingerprint (R66, R152). -/
def State.cardEntry (s : State) (fp : Option Fingerprint) : Option CardEntry := s.standIn.cards.find? (fun c => some c.fp == fp)

/-- The first check of R147 that fails, for a request of weighted amount W; none when the request is accepted. -/
def State.standInRefusal (s : State) (r : StandInRequest) (w : Nat) : Option DeclineReason :=
  let p := s.profile r.profileIx
  if r.kind = .sale ∧ !s.cardCheckable r.fp then some .cardCheckUnavailable
  else if p.l1 < w then some .overSingle
  else if p.lt < s.standIn.tillTotals[r.till] + w then some .overTill
  else if s.settings.storeLimit < s.standIn.storeTotal + w then some .overStore
  else
    match r.kind, s.cardEntry r.fp with
    | .sale, some c =>
      if p.nc < c.count + 1 ∨ p.lc < c.total + w then some .overCard
      else if s.holding.usableSlot.isNone then some .storeFull else none
    | .sale, none =>
      if Config.cardEntries ≤ s.standIn.cards.length then some .cardListFull
      else if s.holding.usableSlot.isNone then some .storeFull else none
    | _, _ => if s.holding.usableSlot.isNone then some .storeFull else none

/-- The fingerprint a decision uses: a SALE's (R148). -/
def StandInRequest.usedFp (r : StandInRequest) : Option Fingerprint := if r.kind = .sale then r.fp else none

/-- An accepted decision (R148, R154): W is charged, the slot is claimed, STAND-IN-ACCEPTED is raised. -/
def State.acceptStandIn (s : State) (r : StandInRequest) (w slot : Nat) : State :=
  State.raise
    { s with
      standIn := s.standIn.charge r.till w r.usedFp
      holding := { s.holding with claimed := s.holding.claimed ++ [slot] } } .standInAccepted (till := some r.till)

/-! ### The Drain Controller (R165, R170) -/

/-- A drain completes (R170): the summary is written, the accumulators and the cursor clear, DRAIN-COMPLETE is counted, IDLE. -/
def State.completeDrain (s : State) : State :=
  State.raise
    { s with drain :=
      { state := .idle, cursor := 0, inHand := none, tally := emptyTally,
        summary := some { tally := s.drain.tally, unread := true,
                          overwritten := match s.drain.summary with | none => false | some x => x.unread } } } .drainComplete

/-- The check for completion (R170): RUNNING or ARMED, no record HELD or DRAINING, no free in flight (a record being freed is HELD). -/
def State.checkDrain (s : State) : State := if s.drain.state ≠ .idle ∧ !s.anyHeld then s.completeDrain else s

/-- The HELD record of lowest sequence above a number, neither DRAINING nor taken for freeing (R160). -/
def HoldingStore.nextToDrain (h : HoldingStore) (cursor : Nat) : Option IndexLine :=
  h.lines.foldl (fun best l =>
    if l.held && !l.draining && !l.freeing && decide (cursor < l.head.seq) then
      match best with
      | none => some l
      | some b => if l.head.seq < b.head.seq then some l else some b
    else best) none

/-- The controller takes a record (R165): the DRAINING mark and the cursor are set, the drain record or the damaged notice is built and
offered. -/
def State.takeRecord (s : State) (l : IndexLine) : State :=
  let r := s.holding.recordAt l
  let s := if r.checkPasses then s else s.raise .recordDamaged (till := some l.head.till) (location := some (.holding l.slot))
  let s :=
    { s with
      drain := { s.drain with cursor := l.head.seq, inHand := some l.head.seq }
      holding := s.holding.mapLine l.slot (fun x => { x with draining := true }) }
  let g := s.settings.store.drainGw
  let f := gatewayFrame s.ownMac s.settings.store.ownIp g none g.port s.ipId (drainRecord s.mgmtKey s.serial r)
  (s.nextIpId).offerUplink .drain { bytes := f, isReset := false }

/-- One turn of a RUNNING controller (R165): it takes a record while it has none in hand and the window has room; when no record is left to
take and none is DRAINING, the pass is exhausted. -/
def State.drainTurn (s : State) : State :=
  if s.drain.state = .running ∧ s.drain.inHand = none ∧ s.holding.drainingCount < s.settings.store.window then
    match s.holding.nextToDrain s.drain.cursor with
    | some l => s.takeRecord l
    | none =>
      if s.holding.drainingCount ≠ 0 ∨ s.holding.lines.any (·.freeing) then s
      else if s.anyHeld then { s with drain := { s.drain with cursor := 0 } }
      else s.completeDrain
  else s

/-- The controller's turns until it has nothing to do: at most a record for each place of the largest window, one new pass and its end
(R165). -/
def State.drainTurns : (fuel : Nat) → State → State
  | 0, s => s
  | n + 1, s => State.drainTurns n s.drainTurn

/-- The drain arms where R164 arms it, and a RUNNING drain takes what it may (R165). -/
def State.pumpDrain (s : State) : State := State.drainTurns 12 s.autoArm

/-- A record freed on an acknowledgement joins the accumulators (R170). -/
def DrainTally.add (t : DrainTally) (l : IndexLine) : DrainTally :=
  { lowest := if t.count = 0 then l.head.seq else min t.lowest l.head.seq
    highest := max t.highest l.head.seq
    count := t.count + 1
    weight := t.weight + l.head.weight
    damaged := t.damaged + (if l.noticed then 1 else 0) }

/-! ### Operations and the format (R157, R162) -/

/-- The operation in flight: the first of the queue, while no format and no full erase has the store (R157, R162, R190). -/
def State.opInFlight (s : State) : Option StoreOp :=
  if s.holding.format = .running ∨ s.erasing then none else s.holding.ops.head?

/-- A hold note is answered and discarded (R130). -/
def State.answerNote (s : State) (q : Nat) (r : LocalReply) : State :=
  match s.holdNotes.find? (fun n => n.seq == q) with
  | none => s
  | some n => State.localReply { s with holdNotes := s.holdNotes.filter (fun x => x.seq != q) } n.till n.number n.reference n.path r

/-- The context that waits in HOLDING answers its till and returns to IDLE (R100, R105). -/
def State.endHolding (s : State) (i : CtxIx) (r : LocalReply) : State :=
  match (s.ctx i).wrap with
  | none => s
  | some w =>
    match w.inHand with
    | none => s
    | some o => (s.localReply w.till o.number o.reference o.path r).ctxToIdle i

/-- A queued operation ended by a format (R162): a write as failed and a free as completed, each with its charge released and its requester
told; the drain is checked for completion after each free (R170). -/
def State.endQueued (s : State) : StoreOp → State
  | .write slot by_ r =>
    let s := State.release { s with holding := s.holding.dropLine slot } r.head
    match by_ with
    | .ctx i => s.endHolding i (.declined .storeFault)
    | .matcher => s.answerNote r.head.seq (.declined .storeFault)
    | .drain => s
    | .nobody => s
  | .free slot by_ =>
    match s.holding.lines.find? (fun l => l.slot == slot) with
    | none => s
    | some l =>
      let s := State.release { s with holding := s.holding.dropLine slot } l.head
      let s :=
        match by_ with
        | .ctx i => s.endHolding i .voidedLocal
        | .matcher => s
        | .drain => { s with drain := { s.drain with tally := s.drain.tally.add l } }
        | .nobody => s
      s.checkDrain

/-- The format begins to run: every queued request ends (R162). -/
def State.runFormat (s : State) : State :=
  s.holding.ops.foldl State.endQueued { s with holding := { s.holding with ops := [], format := .running } }

/-- A format is begun (R162, R184): it waits for the operation in flight to end. -/
def State.beginFormat (s : State) : State :=
  if s.holding.ops.isEmpty then s.runFormat else { s with holding := { s.holding with format := .waiting } }

/-- The operation in flight leaves the queue; a format that waited for it begins to run (R157, R162). -/
def State.endOp (s : State) : State := { s with holding := { s.holding with ops := s.holding.ops.drop 1 } }

/-- After an operation has ended: a waiting format runs (R162). -/
def State.afterOp (s : State) : State := if s.holding.format = .waiting then s.runFormat else s

end Sys2Proof.Machine
end

