-- ==== Sys2Proof/Machine/Lockdown.lean ====
section
/-! DEFINITION. Containment and LOCKDOWN (R187, R191, R192), the integrity check of a key record and the faulting it leads to (R83 to R85),
the zeroisation of tamper (R193), and a stand-in asked for by a block (R103, R129). -/

namespace Sys2Proof.Machine

/-- Entry into LOCKDOWN (R192): every Wrap Context is abandoned (R107), every Pending Queue is refused in order of till index (R115), the
drain goes to IDLE (R169). -/
def State.enterLockdown (s : State) : State :=
  let s := { s with opState := .lockdown }
  let s := allCtxs.foldl State.abandon s
  let s := allTills.foldl (fun s i => s.refuseQueue i (.unavailable .lockdown)) s
  s.drainToIdle

/-- A contained fault, its containment already made (R191): under STRICT a SERVING part enters LOCKDOWN and a STARTING part takes the
lockdown cause (log 47). -/
def State.contain (s : State) : State :=
  match s.settings.store.policy with
  | .lenient => s
  | .strict =>
    match s.opState with
    | .serving => s.enterLockdown
    | .starting => { s with cause := true }
    | .factory => s
    | .lockdown => s

/-- The record passes its integrity check (R63, R83). -/
def State.recordIntact (s : State) (target : Nat) (r : KeyRecord) : Bool :=
  integrityCode s.transportKey target r.ksid r.gen r.base == r.integrity

/-- What the check of R83 finds. -/
inductive CheckResult where
  | passes
  /-- The failed mark was already set. -/
  | marked
  /-- The check fails now. -/
  | fails
  deriving DecidableEq, Repr

/-- The check each derivation and fingerprint computation makes first (R83). -/
def State.checkRecord (s : State) (target : Nat) (r : KeyRecord) : CheckResult :=
  if r.failed then .marked else if s.recordIntact target r then .passes else .fails

/-- The failed mark set on the record of a generation. -/
def markGen (gen : Nat) (r : Option KeyRecord) : Option KeyRecord := r.map (fun r => if r.gen = gen then { r with failed := true } else r)

/-- A slot's current or previous record fails its check (R83, R84): its failed mark is set, KEY-CHECK-FAIL is raised, the slot becomes
FAULTED, its tills' Pending Queues are refused KEY-FAULT, and a sector 2 write is requested. -/
def State.faultSlot (s : State) (k : SlotIx) (gen : Nat) (till : TillIx) : State :=
  let x := s.slot k
  let s := s.setSlot k { x with previous := markGen gen x.previous, current := markGen gen x.current, state := .faulted }
  let s := s.raise .keyCheckFail (till := some till) (slot := some k)
  let s := (s.boundTills k).foldl (fun s i => s.refuseQueue i (.refused .keyFault)) s
  s.request2 []

/-- The fingerprint key record fails its check (R83, R85): its failed mark is set, KEY-CHECK-FAIL is raised with no slot, and a sector 2
write carrying no fingerprint key record is requested; the marked record stays in the volatile Key Table (DESIGN CHOICE, log 54). -/
def State.faultFp (s : State) (till : TillIx) : State :=
  let s := { s with keys := { s.keys with fp := s.keys.fp.map (fun r : KeyRecord => { r with failed := true }) } }
  (s.raise .keyCheckFail (till := some till)).request2 []

/-- The slot an addition is for; none for the fingerprint key record. -/
def KeyAddition.slot? : KeyAddition → Option SlotIx
  | .load k _ => some k
  | .loadFp _ => none
  | .activate k => some k

/-- The additions of the sector 2 writes in flight and waiting. -/
def Writer2.allAdditions (w : Writer2) : List KeyAddition := (match w.inFlight with | none => [] | some x => x.additions) ++ w.waiting

/-- The slot tamper leaves (R193): EMPTY with floor 0; its busy mark stays only for an activation whose sector 2 write has ended (R77). -/
def State.zeroisedSlot (s : State) (k : SlotIx) : KeySlot :=
  { emptySlot with busy := (s.slot k).busy && !(s.writer2.allAdditions.any (fun a => a.slot? == some k)) }

/-- A context erases its keys. -/
def Ctx.withoutKeys (c : Ctx) : Ctx := { c with wrap := c.wrap.map (fun w => { w with dataKey := none, authKey := none }) }

/-- A tamper assertion is taken (R193): TAMPER, zeroisation of the key records and of the contexts' keys, the Outstanding List removed as
R133 gives, the erase of sector 2 begun ahead of every other sector 2 request, the commands those requests carried left to be answered as
for a failed write; then LOCKDOWN by R187 (log 32). -/
def State.tamper (s : State) : State :=
  let s := s.raise .tamper
  let s :=
    { s with
      keys := { slots := Vector.ofFn (fun k : SlotIx => s.zeroisedSlot k), fp := none, fpFloor := 0 }
      ctxs := s.ctxs.map Ctx.withoutKeys
      writer2 :=
        { inFlight := some { contents := none, additions := [], zeroise := true, thenErase3 := false, void := false }, waiting := [],
          wanted := false, eraseWanted := false } }
  let s := s.mapJobs (fun j => { j with s2 := .no })
  let s := s.outstanding.foldl (fun s e => s.raise .lostToTamper (till := some e.till)) { s with outstanding := [] }
  match s.opState with
  | .serving => s.enterLockdown
  | .starting => { s with cause := true }
  | .factory => s
  | .lockdown => s

/-- A stand-in decision is asked for (R146, R147): accepted with the slot and W, or declined with a reason. -/
def State.standInOutcome (s : State) (r : StandInRequest) : DeclineReason ⊕ Nat × Nat :=
  let w := weightOf r.kind r.amount r.risk
  match s.standInRefusal r w, s.holding.usableSlot with
  | none, some slot => .inr (slot, w)
  | some x, _ => .inl x
  | none, none => .inl .storeFull

end Sys2Proof.Machine
end

