-- ==== Sys2Proof/Machine/Reset.lean ====
section
/-! DEFINITION. A reset begins (R188): what it cuts short in the non-volatile stores (R68, R158, R159, R162, R190, R193), and the values
every other piece of state takes. -/

namespace Sys2Proof.Machine

/-- A free value is taken: the model's own counter advances (log 2). -/
def State.takeFree (s : State) : Nat × State := (Config.cutOutcome s.free, { s with free := s.free + 1 })

/-- The slot's non-volatile contents removed. -/
def HoldingStore.eraseSlot (h : HoldingStore) (slot : Nat) : HoldingStore := { h with nv := h.nv.filter (fun x => x.slot != slot) }

/-- What a failed write leaves in its slot, by the free value (R158, log 15): nothing; record contents without a valid commit mark; or a
commit mark beside a head that passes or fails its check. It shows only if the bad-slot list is lost with the header (R161). -/
def failedSlot (slot : Nat) (r : HeldRecord) (n : Nat) : Option NvSlot :=
  match n % 4 with
  | 0 => none
  | 1 => some { slot := slot, contents := some r, commit := none, headPasses := true }
  | 2 => some { slot := slot, contents := some r, commit := some r.head.seq, headPasses := true }
  | _ => some { slot := slot, contents := some r, commit := some r.head.seq, headPasses := false }

/-- The slot's non-volatile contents as a failed write leaves them. -/
def HoldingStore.leave (h : HoldingStore) (left : Option NvSlot) : HoldingStore :=
  match left with
  | none => h
  | some x => { h with nv := putSlot x h.nv }

/-- A record write cut short (R158), by the free value: nothing written; record contents without a valid commit mark; the whole record with
its commit mark and the new header; or a write that failed, its slot already BAD in the header, with what a failed write leaves. -/
def HoldingStore.cutWrite (h : HoldingStore) (slot : Nat) (r : HeldRecord) (n : Nat) : HoldingStore :=
  match n % 4 with
  | 0 => h
  | 1 => { h with nv := putSlot { slot := slot, contents := some r, commit := none, headPasses := true } h.nv }
  | 2 =>
    { h with nv := putSlot { slot := slot, contents := some r, commit := some r.head.seq, headPasses := true } h.nv,
             header := { passes := true, last := r.head.seq, bad := h.bad } }
  | _ => { h.leave (failedSlot slot r (n / 4)) with header := { h.header with bad := h.header.bad ++ [slot] } }

/-- A free cut short (R159), by the free value: nothing erased; the commit mark erased; everything erased. -/
def HoldingStore.cutFree (h : HoldingStore) (slot : Nat) (n : Nat) : HoldingStore :=
  match n % 3 with
  | 0 => h
  | 1 => { h with nv := h.nv.map (fun x => if x.slot = slot then { x with commit := none } else x) }
  | _ => h.eraseSlot slot

/-- A format cut short (R162), by the free value: not yet begun; or the header written, and some slots cleared. -/
def HoldingStore.cutFormat (h : HoldingStore) (n free : Nat) : HoldingStore :=
  if n % 2 = 0 then h
  else { h with nv := h.nv.filter (fun x => !Config.slotCleared free x.slot), header := { passes := true, last := 0, bad := [] } }

/-- The Holding Store operation in flight, or the format, is cut short (R158, R159, R162; log 40). -/
def State.cutHolding (s : State) : State :=
  if s.erasing then s
  else if s.holding.format = .running then
    { s.takeFree.2 with holding := s.holding.cutFormat s.takeFree.1 s.free }
  else
    match s.holding.ops with
    | [] => s
    | .write slot _ r :: _ => { s.takeFree.2 with holding := s.holding.cutWrite slot r s.takeFree.1 }
    | .free slot _ :: _ => { s.takeFree.2 with holding := s.holding.cutFree slot s.takeFree.1 }

/-- FULL-ERASE cut short (R190), by the free value: before the first erase, after one to four of the erases, or within the format or after
it. -/
def State.cutErase (s : State) : State :=
  if s.erasing then
    let n := s.takeFree.1 % 6
    let k := s.store
    { s.takeFree.2 with
      store :=
        { sec0 := if n = 0 then k.sec0 else .blank
          sec1 := if n ≤ 1 then k.sec1 else .blank
          sec2 := if n ≤ 2 then k.sec2 else .blank
          sec3 := if n ≤ 3 then k.sec3 else .blank }
      holding := if n = 5 then s.holding.cutFormat 1 s.free else s.holding }
  else s

/-- The zeroisation erase of sector 2 begun before the reset is completed (R193); every other Key Store write is cut short and leaves its
sector as it was (R68). -/
def State.finishZeroise (s : State) : State :=
  match s.writer2.inFlight with
  | none => s
  | some w => if w.zeroise then { s with store := { s.store with sec2 := .blank } } else s

/-- Any reset begins (R188): the stores keep what the rules for writes cut short give, the physical inputs and links are as they are, and
every other piece of state takes its value after a reset. Factory port commands that wait, and the answers given, are kept (log 21).
DESIGN CHOICE (log 71): every transaction counter and its volatile k reads 0 from here until sector 3 has been read, since R58 gives no
value for them. DESIGN CHOICE (log 42): the bad-slot list is empty and every slot counts
as FREE until the scan, whatever the header lists. DESIGN CHOICE (log 77): the identity is absent, and the profiles, the Field Maps, every
other setting, the Till Table, the Key Table and the last command number hold their blank values from here until the sector reads end,
whatever sectors 0 to 2 hold. -/
def State.beginReset (s : State) (st : Startup) : State :=
  let s := s.cutHolding.cutErase.finishZeroise
  { State.reset with
    now := s.now, free := s.free, startup := st, tamperIn := s.tamperIn, lane := quietPort s.lane.linkUp,
    uplink := quietPort s.uplink.linkUp, store := s.store,
    holding := { formattedStore with nv := s.holding.nv, header := s.holding.header },
    factory := { s.factory with op := none }, pending := s.pending }

/-- The reset ordered by RESET begins once its response has left the Uplink port (R183). -/
def State.resetIfGone (s : State) : State := if s.mgmt.reset = .gone then s.beginReset .reading else s

end Sys2Proof.Machine
end

