-- ==== Sys2Proof/Machine/Operands.lean ====
section
/-! DEFINITION. The operand forms of the management commands: indexes, enumerated values, gateways, clamped values (R40, R88, R91, R92,
R151, R177, R180, R182); and the layouts of their results (R44, R72, R76, R78, R181, R183, R185, R196). -/

namespace Sys2Proof.Machine

/-! ### Indexes and enumerated operands (R177, R180) -/

/-- A till index operand (R40). -/
def tillOf (n : Nat) : Option TillIx := if h : n < 128 then some ⟨n, h⟩ else none

/-- A profile index operand. -/
def profOf (n : Nat) : Option ProfIx := if h : n < 8 then some ⟨n, h⟩ else none

/-- A key slot operand. -/
def slotOf (n : Nat) : Option SlotIx := if h : n < 16 then some ⟨n, h⟩ else none

/-- class (R180). -/
def classOf : Nat → Option TillClass
  | 1 => some .attended
  | 2 => some .kiosk
  | _ => none

/-- policy (R180). -/
def policyOf : Nat → Option StandInPolicy
  | 1 => some .never
  | 2 => some .linkDownOnly
  | 3 => some .alsoOnTimeout
  | _ => none

/-- offline refunds (R180). -/
def refundsOf : Nat → Option Bool
  | 1 => some true
  | 2 => some false
  | _ => none

/-- treatment (R180). -/
def treatmentOf : Nat → Option Treatment
  | 1 => some .pass
  | 2 => some .encrypt
  | 3 => some .encryptMask
  | 4 => some .remove
  | _ => none

/-- default treatment (R180). -/
def defaultOf : Nat → Option DefaultTreatment
  | 1 => some .pass
  | 4 => some .remove
  | _ => none

/-- trigger mode (R180). -/
def modeOf : Nat → Option TriggerMode
  | 1 => some .auto
  | 2 => some .command
  | _ => none

/-- containment (R180). -/
def containmentOf : Nat → Option Containment
  | 1 => some .strict
  | 2 => some .lenient
  | _ => none

/-- The value brought to the nearer end of a range (R177). -/
def clampTo (lo hi n : Nat) : Nat := max lo (min n hi)

/-- The Ethernet address is a group address: the lowest bit of its first byte is set. -/
def isGroup (m : Mac) : Bool := m.getLsbD 40

/-- The check every gateway meets (R88, R182): no gateway, or an individual next hop that is not all zeros. -/
def gatewayFits (g : Gateway) : Bool := g.ip == 0 || (!isGroup g.hop && g.hop != 0)

/-! ### Field Maps (R90 to R92) -/

/-- The rule a Field Map has for a tag (R90). -/
def FieldMap.ruleFor (m : FieldMap) (tag : Nat) : Option Treatment := (m.find? (fun r => r.tag == tag)).map (·.treatment)

/-- The treatment of a tag under a map and a default (R90). -/
def treatmentFor (m : FieldMap) (d : DefaultTreatment) (tag : Nat) : Treatment :=
  match FieldMap.ruleFor m tag with
  | some t => t
  | none => match d with | .pass => .pass | .remove => .remove

/-- A Field Map and a default treatment are safe (R92): tags 3, 5 and 6 never pass in clear. -/
def mapSafe (m : FieldMap) (d : DefaultTreatment) : Bool := [3, 5, 6].all (fun t => treatmentFor m d t != .pass)

/-- The carried rules as rules; none when a tag or a treatment is out of range (check 2 of R91). -/
def readRules : List (Nat × Nat) → Option FieldMap
  | [] => some []
  | (tag, x) :: rest =>
    match treatmentOf x, readRules rest with
    | some t, some m => if 1 ≤ tag ∧ tag ≤ 254 then some ({ tag := tag, treatment := t } :: m) else none
    | _, _ => none

/-- No tag appears in two rules, and ENCRYPT-MASK only with tag 3 (check 3 of R91). -/
def rulesFit (m : FieldMap) : Bool := (m.map (·.tag)).Nodup && m.all (fun r => r.treatment != .encryptMask || r.tag == 3)

/-! ### Results (R181, R183) -/

/-- A flag takes 1 byte (R181). -/
def flag (b : Bool) : Bytes := be 1 (if b then 1 else 0)

/-- A gateway in its operand layout (R182). -/
def gatewayBytes (g : Gateway) : Bytes := beVec 4 g.ip ++ be 2 g.port ++ beVec 6 g.hop

/-- The results of WRITE-PROFILE: every field of R87 in its order (log 17). -/
def profileBytes (p : Profile) : Bytes :=
  be 1 p.cls.code ++ be 1 p.policy.code ++ be 1 (refundsCode p.refundsAllowed) ++ be 2 p.risk ++ be 1 p.window ++ gatewayBytes p.gateway
    ++ be 1 p.dflt.code ++ be 6 p.l1 ++ be 6 p.lt ++ be 1 p.nc ++ be 6 p.lc

/-- The results of WRITE-FIELD-MAP: the count and sixteen rules, as the operands lay them out, with zeros after the last (log 17). -/
def mapBytes (m : FieldMap) : Bytes :=
  be 1 m.length ++ m.flatMap (fun r => be 1 r.tag ++ be 1 r.treatment.code) ++ List.replicate (2 * (16 - m.length)) 0

/-- The limits of a profile in their operand layout (R151, R180). -/
def limitBytes (p : Profile) : Bytes := be 6 p.l1 ++ be 6 p.lt ++ be 1 p.nc ++ be 6 p.lc

/-- The four link parameters (R138, R180). -/
def linkBytes (x : LinkParams) : Bytes := be 1 x.interval ++ be 1 x.nDown ++ be 1 x.nUp ++ be 1 x.settle

/-- The payment destination ports as SET-STORE carries them: the number, and four ports, those beyond the number as 0 (DESIGN CHOICE,
log 17). -/
def portBytes (ports : List Nat) : Bytes :=
  be 1 ports.length ++ (ports.take 4).flatMap (be 2) ++ List.replicate (2 * (4 - ports.length)) 0

/-- The store settings in the order of R182. -/
def storeBytes (x : StoreSettings) : Bytes :=
  be 1 x.mode.code ++ be 1 x.window ++ be 1 x.ackTimeout ++ be 1 x.share ++ be 1 x.policy.code ++ be 2 x.asmTimeout ++ portBytes x.ports
    ++ beVec 4 x.ownIp ++ gatewayBytes x.drainGw ++ gatewayBytes x.probeGw ++ beVec 1 x.enabled

/-- A Till Entry as READ-TILL reports it (R38, R181): absent fields read as 0. The number of pending messages takes 2 bytes (DESIGN CHOICE, log
67). -/
def State.tillBytes (s : State) (i : TillIx) : Bytes :=
  let t := s.till i
  let e := (t.binding.map (fun b => s.ctr b.slot i)).getD (restoredEntry 0)
  be 1 i.val ++ be 1 (match t.binding with | none => 1 | some b => if b.enabled then 2 else 3) ++ be 1 (s.entryState i).code
    ++ beVec 6 ((t.binding.map (·.mac)).getD 0) ++ be 2 ((t.binding.map (·.number)).getD 0)
    ++ be 1 ((t.binding.map (·.profile.val)).getD 0) ++ be 1 ((t.binding.map (·.slot.val)).getD 0)
    ++ flag t.record.isSome ++ be 2 t.queue.length ++ flag t.wrapInFlight ++ flag e.raise.isSome
    ++ be 2 t.wrapped ++ be 2 t.refused ++ be 2 t.stoodIn ++ be 4 e.c ++ be 4 e.k ++ be 6 s.standIn.tillTotals[i]

/-- A run of event counters (R181, R197): a code that names no event reads 0. -/
def State.counterBytes (s : State) (first count : Nat) : Bytes :=
  (List.range count).flatMap (fun j => be 2 (s.events.counters[first + j]?.getD 0))

/-- A location in the Fault Record, laid out by log 16: 1 and the sector for the Key Store, 2 and the slot for the Holding Store, 0 and
65,535 for none. -/
def locationBytes : Option Location → Bytes
  | none => be 1 0 ++ be 2 65535
  | some (.sector n) => be 1 1 ++ be 2 n
  | some (.holding n) => be 1 2 ++ be 2 n

/-- The Fault Record (R196), laid out by log 16: code, till index, key slot (255 for none), location, further count; code 0 and none
while it is empty. -/
def faultBytes : Option FaultRecord → Bytes
  | none => be 1 0 ++ be 1 255 ++ be 1 255 ++ locationBytes none ++ be 1 0
  | some r =>
    be 1 r.code.number ++ be 1 ((r.till.map (·.val)).getD 255) ++ be 1 ((r.slot.map (·.val)).getD 255) ++ locationBytes r.location
      ++ be 1 r.further

/-- The results of READ-EVENTS (R181, R195). -/
def State.eventBytes (s : State) : Bytes := beVec 1 s.events.latched ++ beVec 1 s.settings.store.enabled ++ faultBytes s.events.fault

/-- The results of READ-DRAIN-SUMMARY (R170, R181): presence, the marks and the summary, zeros when it is absent (log 31). -/
def summaryBytes : Option DrainSummary → Bytes
  | none => List.replicate 25 0
  | some x =>
    flag true ++ flag x.unread ++ flag x.overwritten ++ be 4 x.tally.lowest ++ be 4 x.tally.highest ++ be 4 x.tally.count
      ++ be 6 x.tally.weight ++ be 4 x.tally.damaged

/-- The job is the waiting command (R178). -/
def Job.isWaiting (j : Job) : Bool :=
  match j.role with
  | .waiting _ _ => true
  | .current => false
  | .late => false
  | .stopped _ => false

/-- The waiting command of READ-STATUS, its code and its number (R178, R181): the code 0 when there is none, and the number 0 then too (DESIGN
CHOICE, log 30). -/
def State.waitingBytes (s : State) : Bytes :=
  match s.mgmt.jobs.find? Job.isWaiting with
  | none => be 1 0 ++ be 4 0
  | some j => be 1 j.code ++ be 4 j.number

/-- A key record as READ-STATUS reports it (R64, R181): generation, key-set identifier, check value. Of an absent record the
generation reads 0; the key-set identifier and check value read as 0 too (DESIGN CHOICE, log 30). -/
def recordBytes : Option KeyRecord → Bytes
  | none => List.replicate 9 0
  | some r => be 2 r.gen ++ be 4 r.ksid ++ beVec 3 r.checkValue

/-- A Wrap Context as READ-STATUS reports it (R93, R181); the fields an IDLE context has clear read as 0 (DESIGN CHOICE, log 30). -/
def ctxBytes (x : Ctx) : Bytes :=
  match x.wrap with
  | none => be 1 x.phase.code ++ be 1 0 ++ be 4 0 ++ be 4 0
  | some w =>
    be 1 x.phase.code ++ be 1 w.till.val ++ be 4 ((w.msg.map (·.reference)).getD ((w.inHand.map (·.reference)).getD 0)) ++ be 4 w.counter

/-- The time to the earliest deadline of the Outstanding List, in milliseconds; 0 when it is empty (R122, R181). -/
def State.earliestDeadline (s : State) : Nat :=
  match s.outstanding.map (·.deadline) with
  | [] => 0
  | d :: rest => rest.foldl min d - s.now

/-- The results of READ-STATUS, group by group (R181, log 30). Between a reset and the end of the scan the Holding Store's group reports 0
BAD, WRITING and HELD slots and 4,096 FREE ones (DESIGN CHOICE, log 42). The Drain Summary's unread and overwritten marks read 0 while there
is no summary (DESIGN CHOICE, log 30). -/
def State.statusBytes (s : State) : Bytes :=
  let h := s.holding
  let held := (h.lines.filter (·.held)).length
  -- 1 Part
  be 1 s.opState.code ++ be 1 s.settings.store.policy.code ++ beVec 8 s.serial ++ be 4 s.mgmt.last ++ s.waitingBytes
  -- 2 Link
    ++ be 1 s.link.state.code ++ be 1 s.link.run ++ be 1 (if s.link.physicalUp then 1 else 2) ++ flag s.link.settleTimer.isSome
    ++ flag s.link.settled ++ be 4 s.link.probeCount ++ be 1 s.link.awaited.length ++ linkBytes s.settings.link
  -- 3 Drain
    ++ be 1 s.drain.state.code ++ be 1 s.settings.store.mode.code ++ flag s.settings.suspended ++ be 1 s.settings.store.window
    ++ be 1 s.settings.store.ackTimeout ++ flag s.drain.summary.isSome
    ++ flag ((s.drain.summary.map (·.unread)).getD false) ++ flag ((s.drain.summary.map (·.overwritten)).getD false)
  -- 4 Holding Store
    ++ be 2 (Config.holdingSlots - h.lines.length - h.bad.length) ++ be 2 (h.lines.length - held) ++ be 2 held ++ be 2 h.bad.length
    ++ be 2 h.drainingCount ++ be 4 h.last ++ be 4 h.next
  -- 5 Stand-in
    ++ be 6 s.standIn.storeTotal ++ be 6 s.settings.storeLimit ++ be 2 s.standIn.cards.length
  -- 6 Outstanding List
    ++ be 2 s.outstanding.length ++ be 2 s.takenPlaces ++ be 2 s.placeWait.length ++ be 4 s.earliestDeadline
  -- 7 Arbiter
    ++ be 1 s.arbiter.g ++ be 1 s.settings.store.share ++ be 1 s.arbiter.attended.val ++ be 1 s.arbiter.kiosk.val
  -- 8 Wrap Contexts
    ++ allCtxs.flatMap (fun i => ctxBytes (s.ctx i))
  -- 9 Key slots
    ++ allSlots.flatMap (fun k =>
      be 1 (s.slot k).state.code ++ be 2 (s.slot k).floor ++ flag (s.slot k).busy ++ recordBytes (s.slot k).previous
        ++ recordBytes (s.slot k).current ++ recordBytes (s.slot k).staged)
  -- 10 Fingerprint key
    ++ recordBytes s.keys.fp ++ be 2 s.keys.fpFloor ++ flag s.usableFp.isSome
  -- 11 Profiles
    ++ allProfiles.flatMap (fun i => profileBytes (s.profile i))
  -- 12 Store settings
    ++ be 2 s.settings.store.asmTimeout ++ portBytes s.settings.store.ports ++ beVec 4 s.settings.store.ownIp
    ++ gatewayBytes s.settings.store.drainGw ++ gatewayBytes s.settings.store.probeGw ++ beVec 1 s.settings.store.enabled

/-- The generation of a record, 0 when it is absent. -/
def genOf (r : Option KeyRecord) : Nat := (r.map (·.gen)).getD 0

/-- A slot as an activation's response reports it (R76); the current generation and check value of a slot without a current record read as 0
(DESIGN CHOICE, log 62). -/
def State.activationBytes (s : State) (k : SlotIx) : Bytes :=
  let x := s.slot k
  be 1 x.state.code ++ be 2 (genOf x.current) ++ beVec 3 ((x.current.map (·.checkValue)).getD 0) ++ be 2 (genOf x.previous)
    ++ be 2 (genOf x.staged)

/-- The results a response carries, read when it is built (R44, R76, R176, R183; log 25). -/
def State.resultBytes (s : State) : Results → Bytes
  | .bytes b => b
  | .status => s.statusBytes
  | .till i => s.tillBytes i
  | .counters first count => s.counterBytes first count
  | .profile i => profileBytes (s.profile i)
  | .map i => mapBytes (s.fieldMap i)
  | .limits (some i) => limitBytes (s.profile i)
  | .limits none => be 6 s.settings.storeLimit
  | .link => linkBytes s.settings.link
  | .store => storeBytes s.settings.store
  | .loadKey check (some k) => beVec 3 check ++ be 2 (genOf (s.slot k).staged)
  | .loadKey check none => beVec 3 check ++ be 2 (genOf s.keys.fp)
  | .drain => be 1 s.drain.state.code ++ flag s.settings.suspended
  | .opState => be 1 s.opState.code
  | .activation k => s.activationBytes k
  | .erasure k => be 1 (s.slot k).state.code ++ be 2 (s.slot k).floor

end Sys2Proof.Machine
end

