-- ==== Sys2Proof/Machine/Jobs.lean ====
section
/-! DEFINITION. The Management Unit's shared operations: answers and responses (R15, R174, R175), the guard of a command's own row (R173),
the waiting command's hold and its carrying out (R74, R78, R79, R114, R178, R184, R185); and `settle`, what follows at the end of a step
whatever its cause: a met quiet condition, the drain's turns, answers, responses, grants, the reset that RESET ordered. -/

namespace Sys2Proof.Machine

/-! ### Responses (R15, R175, R179) -/

/-- The frame of a response (R4, R15): to the command frame's source, under the management EtherType. -/
def State.responseFrame (s : State) (dst : Mac) (vlan : Option (BitVec 16)) (number code : Nat) (status : Status) (results : Bytes) :
    Bytes :=
  ethFrame dst s.ownMac vlan ((s.identity.map (·.etype)).getD 0)
    (responsePayload s.mgmtKey number code status.code s.attention results)

/-- A response is built behind those that wait (R175). -/
def State.respond (s : State) (r : Response) : State := { s with mgmt := { s.mgmt with responses := s.mgmt.responses ++ [r] } }

/-- The command has ended: nothing it waits for is outstanding (R174, R175, R185). -/
def Job.ended (j : Job) : Bool :=
  j.s1 == .no && j.s2 == .no && j.s3 == .no && !j.format
    && (match j.role with
        | .current => true
        | .waiting _ none => true
        | .waiting _ (some _) => false
        | .late => true
        | .stopped _ => false)

/-- The response of a command that has ended is built, with its status, its results and the attention flag as they stand (R15, R175,
R179). -/
def State.answerJob (s : State) (j : Job) : State :=
  s.respond
    { frame := s.responseFrame j.src j.vlan j.number j.code j.status (s.resultBytes j.results), keepsUnit := j.role == .current,
      isReset := j.code == 18 && j.status == .ok }

/-- Every command that has ended is answered, in the order they were taken, and is a command not yet answered no more (log 26). -/
def State.answerJobs (s : State) : State :=
  (s.mgmt.jobs.filter (·.ended)).foldl State.answerJob
    { s with mgmt := { s.mgmt with jobs := s.mgmt.jobs.filter (fun j => !j.ended) } }

/-- The Unit offers its first response to the Uplink Priority Queue unless one of its frames waits there already (R19, R175). -/
def State.offerResponse (s : State) : State :=
  if s.waitOrder.any (fun x => x.1 == .mgmt) then s
  else
    match s.mgmt.responses with
    | [] => s
    | r :: _ => s.offerUplink .mgmt { bytes := r.frame, isReset := r.isReset }

/-- The Unit offers its responses one at a time, in the order they were built (R175). -/
def State.offerResponses (s : State) : State := s.mgmt.responses.foldl (fun s _ => s.offerResponse) s

/-- The Unit is carrying out a command, or has accepted RESET: it takes no frame (R175, R183; log 49). -/
def State.unitBusy (s : State) : Bool :=
  s.mgmt.taken.isSome || s.mgmt.jobs.any (fun j => j.role == .current) || s.mgmt.responses.any (·.keepsUnit) || s.mgmt.reset != .none

/-! ### A command's own row (R173 to R178) -/

/-- A command is carried out by its own row when it is the one the Unit has taken (R173); any other time the row changes nothing (log 11). -/
def State.carry (s : State) (cmd : Instr) (f : Taken → State → State) : State :=
  match s.mgmt.taken with
  | none => s
  | some t => if t.cmd = cmd then f t { s with mgmt := { s.mgmt with taken := none } } else s

/-- A sector 1 write is requested (R68, R174). -/
def State.request1 (s : State) : State := State.kick1 { s with writer1 := { s.writer1 with wanted := true } }

/-- The job of a taken command, its number's sector 1 write requested (R174, log 24). -/
def Taken.job (t : Taken) (status : Status) (results : Results) : Job :=
  { cmd := some t.cmd, number := t.number, code := t.code, src := t.src, vlan := t.vlan, status := status, results := results,
    s1 := .queued, s2 := .no, s3 := .no, format := false, role := .current }

/-- A job joins those not yet answered. -/
def State.addJob (s : State) (j : Job) : State := { s with mgmt := { s.mgmt with jobs := s.mgmt.jobs ++ [j] } }

/-- A command is answered with a status and results once the sector 1 write carrying its number has ended (R174). -/
def State.answer (s : State) (t : Taken) (status : Status) (results : Results) : State := (s.addJob (t.job status results)).request1

/-- A refusal: no results, no other effect (R177). -/
def State.refuse (s : State) (t : Taken) (status : Status) : State := s.answer t status (.bytes [])

/-! ### Quiet-class commands (R114, R178) -/

/-- The hold of a waiting command that has not been carried out (R178; log 29). -/
def Job.hold? (j : Job) : Option Hold :=
  match j.role with
  | .waiting h (some _) => some h
  | .waiting _ none => none
  | .current => none
  | .late => none
  | .stopped _ => none

/-- The quiet condition of a hold is met (R114). -/
def State.quiet (s : State) : Hold → Bool
  | .slot k => allCtxs.all (fun i => ((s.ctx i).wrap.map (·.slot)) != some k)
  | .engine => allCtxs.all (fun i => (s.ctx i).phase == .idle)

/-- The waiting command's job changed. -/
def State.mapWaiting (s : State) (f : Job → Job) : State := s.mapJobs (fun j => if j.isWaiting then f j else j)

/-- The waiting command is carried out: its limit is cancelled, its status and results are those given, and it waits for what `f` adds
(R178). -/
def State.settleWaiting (s : State) (status : Status) (results : Results) (f : Job → Job) : State :=
  s.mapWaiting (fun j =>
    f { j with
        status := status
        results := results
        role := match j.role with
                | .waiting h _ => .waiting h none
                | .current => .current
                | .late => .late
                | .stopped h => .stopped h })

/-- A quiet-class command that has passed its operand checks (R178): BUSY while there is a waiting command; the waiting command otherwise,
with its hold and its wait limit. -/
def State.beginWait (s : State) (t : Taken) (h : Hold) : State :=
  if s.mgmt.jobs.any Job.isWaiting then s.refuse t .busy
  else
    (s.addJob { t.job .ok (.bytes []) with role := .waiting h (some (s.now + Config.quietLimit)) }).request1

/-- ACTIVATE-KEY is carried out (R74, R75): refused by the first check that fails; else the slot's busy mark is set and the sector 2 write
of the slot's new contents is requested. -/
def State.carryActivate (s : State) (k : SlotIx) : State :=
  let x := s.slot k
  if x.state = .faulted then s.settleWaiting .range (.bytes []) id
  else if x.busy then s.settleWaiting .busy (.bytes []) id
  else if x.staged.isNone then s.settleWaiting .noStaged (.bytes []) id
  else if x.previous.isSome then s.settleWaiting .previousInUse (.bytes []) id
  else
    ((s.settleWaiting .ok (.activation k) (fun j => { j with s2 := .queued })).setSlot k { x with busy := true }).request2 [.activate k]

/-- An entry is removed with its slot's records (R132): TIMED-OUT to its till, ENTRY-ERASED, no report and no decision. Of each entry the
place is given on first and the reply built after it (DESIGN CHOICE, log 56). -/
def State.eraseEntry (s : State) (e : OutEntry) : State :=
  ((s.removeEntry e).localReply e.till e.number e.reference e.path .timedOut).raise .entryErased (till := some e.till)
    (slot := some e.slot)

/-- ERASE-KEY is carried out (R78, R79): BUSY while the slot is busy; a slot EMPTY with nothing staged needs no write; else the records are
discarded, KEY-ERASED is raised, the slot's Outstanding entries are removed, its tills' Pending Queues are refused NO-KEY, and the sector 2
write is requested. -/
def State.carryErase (s : State) (k : SlotIx) : State :=
  let x := s.slot k
  if x.busy then s.settleWaiting .busy (.bytes []) id
  else if x.state = .empty ∧ x.staged.isNone then s.settleWaiting .ok (.erasure k) id
  else
    let s := s.settleWaiting .ok (.erasure k) (fun j => { j with s2 := .queued })
    let s := s.setSlot k { emptySlot with floor := x.floor }
    let s := s.raise .keyErased (slot := some k)
    let s := (s.outstanding.filter (fun e => e.slot == k)).foldl State.eraseEntry s
    let s := (s.boundTills k).foldl (fun s i => s.refuseQueue i (.refused .noKey)) s
    s.request2 []

/-- A Till Entry is emptied (R43): the record is discarded, a wrap in flight loses its reservation and its message is refused TILL-DISABLED,
and so is every pending message; the counts stay. -/
def State.emptyTill (s : State) (i : TillIx) : State :=
  let s := s.setTill i { s.till i with binding := none, record := none }
  let r := s.loseReservation i
  let s := match r.2 with
    | none => r.1
    | some m => r.1.replyTo i m (.refused .tillDisabled)
  s.refuseQueue i (.refused .tillDisabled)

/-- DECOMMISSION's changes of the volatile state, in the order of R184, and the erases and the format of R185; a RUNNING
drain leaves RUNNING with its gateway (DEDUCED, log 37). An ENABLE-TILL whose retry raise is removed here is answered as log 76 says. -/
def State.decommission (s : State) : State :=
  -- 1 Key Table and Outstanding List; writes in flight no longer change the volatile state
  let s := { s with keys := blankKeys }
  let s := s.outstanding.foldl State.eraseEntry s
  -- 2 Till Table
  let s := allTills.foldl (fun s i => if (s.till i).binding.isSome then s.emptyTill i else s) s
  -- 3 Counter Table
  let s :=
    { s with counters :=
      { entries := blankCounters.entries, pending := [], activations := [], eraseWanted := false,
        inFlight := s.counters.inFlight.map (fun w : Write3 => { w with void := true }) } }
  let s := s.kick3
  -- 4 Settings
  let s := State.leaveRunning { s with settings := blankSettings }
  -- 5 Holding Store
  let s := s.beginFormat
  let s := s.raise .decommissioned
  -- the erases of sectors 1 and 2 (R185)
  let s :=
    { s with
      writer1 := { s.writer1 with eraseWanted := true }
      writer2 := { s.writer2 with eraseWanted := true, inFlight := s.writer2.inFlight.map (fun w : Write2 => { w with void := true }) } }
  s.kick1.kick2

/-- DECOMMISSION is carried out (R184, R185): HOLDING-NOT-EMPTY while a record is WRITING or HELD and FORCE is 0; else the part is
decommissioned, and the answer waits for the erases and the format. The records and entries its results count are those that are HELD, and
outstanding, as it is carried out (DESIGN CHOICE, log 65). -/
def State.carryDecommission (s : State) (force : Nat) : State :=
  if s.holding.anyRecord ∧ force = 0 then s.settleWaiting .holdingNotEmpty (.bytes []) id
  else
    let results := be 2 (s.holding.lines.filter (·.held)).length ++ be 2 s.outstanding.length
    (s.settleWaiting .ok (.bytes results) (fun j => { j with s1 := .queued, s2 := .queued, format := true })).decommission

/-- The waiting command is carried out once its quiet condition is met (R114, R178). -/
def State.quietCheck (s : State) : State :=
  match s.mgmt.jobs.find? (fun j => j.hold?.isSome) with
  | none => s
  | some j =>
    match j.hold? with
    | none => s
    | some h =>
      if s.quiet h then
        match h, j.cmd with
        | .slot k, some (.activateKey _) => s.carryActivate k
        | .slot k, some (.eraseKey _) => s.carryErase k
        | .engine, some (.decommission f) => s.carryDecommission f
        | _, _ => s
      else s

/-! ### The end of a step -/

/-- What follows at the end of a step once the waiting command has been looked at: the drain's turns, the answers and responses of commands
that have ended, grants, and the reset that RESET ordered. -/
def State.finish (s : State) : State := ((((s.pumpDrain).answerJobs).offerResponses).grants).resetIfGone

/-- What follows at the end of a step, in one order (DESIGN CHOICE, log 50): the waiting command is carried out where its quiet condition is
met (R178), then the rest. -/
def State.settle (s : State) : State := s.quietCheck.finish

end Sys2Proof.Machine
end

