-- ==== Sys2Proof/Machine/Factory.lean ====
section
/-! DEFINITION. The factory port (R190): WRITE-IDENTITY, CLOSE-FACTORY, FULL-ERASE and the end of what they begin. -/

namespace Sys2Proof.Machine

/-- The factory port answers (R190): each command has its own answer, and the operating state goes with every one. -/
def State.factoryAnswer (s : State) (a : FactoryAnswer) : State :=
  { s with factory := { s.factory with answers := s.factory.answers ++ [(a, s.opState)] } }

/-- The identity sector 0 holds, when it is written and passes its check. -/
def Sector.contents? {α : Type} : Sector α → Option α
  | .blank => none
  | .good c => some c
  | .failing => none

/-- Sector 0 carries the factory-closed mark (R190): a sector that fails its check carries none. -/
def State.isClosed (s : State) : Bool := (s.store.sec0.contents?.map (·.closed)).getD false

/-- WRITE-IDENTITY's operands are ones it takes (R190). -/
def identityFits (mac : Mac) (etype : Nat) : Bool :=
  mac != 0 && !isGroup mac && etype != 0x0800 && etype != 0x0806 && etype != 0x8100

/-- WRITE-IDENTITY is taken (R190): refused outside FACTORY, under a closed mark, or for its operands; else the write of sector 0 begins. -/
def State.takeIdentity (s : State) (serial : BitVec 64) (mac : Mac) (etype : Nat) (mgmtKey transportKey : Key) : State :=
  if s.opState = .factory ∧ !s.isClosed ∧ identityFits mac etype then
    { s with factory :=
      { s.factory with op := some (.identity
        { serial := serial, mac := mac, etype := etype, mgmtKey := mgmtKey, transportKey := transportKey, closed := false }) } }
  else s.factoryAnswer .refused

/-- CLOSE-FACTORY is taken (R190): refused outside FACTORY or without a sector 0 that passes its check; else sector 0 is written again with
the factory-closed mark. -/
def State.takeClose (s : State) : State :=
  match s.store.sec0.contents? with
  | none => s.factoryAnswer .refused
  | some c =>
    if s.opState = .factory then { s with factory := { s.factory with op := some (.close { c with closed := true }) } }
    else s.factoryAnswer .refused

/-- The command waits for nothing in the stores (R190): a command whose request FULL-ERASE discards is one that does. -/
def Job.free (j : Job) : Bool := j.s1 == .no && j.s2 == .no && j.s3 == .no && !j.format

/-- FULL-ERASE is taken (R190): both receive paths close; every Key Store write and Holding Store operation in flight is cut short and
their requests are discarded without answers (a zeroisation erase runs on, R193); the erases begin. A quiet-class command whose write is
discarded goes with its hold (DESIGN CHOICE, log 69). -/
def State.takeErase (s : State) : State :=
  let s := s.cutHolding
  { s with
    rxOpen := false
    writer1 := { inFlight := none, wanted := false, eraseWanted := false }
    writer2 := { inFlight := s.writer2.inFlight.filter (·.zeroise), waiting := [], wanted := false, eraseWanted := false }
    counters := { s.counters with pending := [], activations := [], eraseWanted := false, inFlight := none }
    holding := { s.holding with ops := [], format := .running }
    mgmt := { s.mgmt with jobs := s.mgmt.jobs.filter Job.free }
    factory := { s.factory with op := some .erase } }

/-- A factory port command is taken. -/
def State.takeFactory (s : State) : Instr → State
  | .writeIdentity serial mac etype mgmtKey transportKey => s.takeIdentity serial mac etype mgmtKey transportKey
  | .closeFactory => s.takeClose
  | .fullErase => s.takeErase
  | _ => s

/-- The port can take a command (R190): none is in progress, and the part is neither held in reset nor reading its sectors. -/
def State.factoryReady (s : State) : Bool := s.factory.op.isNone && s.startup != .held && s.startup != .reading

/-- A factory port command arrives (R190): it is taken at once, or waits while the part is held in reset or reading its sectors. DESIGN CHOICE
(log 74): one that arrives while another is in progress waits too, and is taken when that one ends; R190 says only "one at a time". -/
def State.offerFactory (s : State) (cmd : Instr) : State :=
  if s.factoryReady && s.factory.waiting.isEmpty then s.takeFactory cmd
  else { s with factory := { s.factory with waiting := s.factory.waiting ++ [cmd] } }

/-- Waiting factory port commands are taken while none is in progress (R190). -/
def State.serveFactory (s : State) : State :=
  s.factory.waiting.foldl (fun s cmd =>
    if s.factoryReady then State.takeFactory { s with factory := { s.factory with waiting := s.factory.waiting.drop 1 } } cmd else s) s

/-- A sector after its erase in FULL-ERASE (R190). -/
def erasedIf {α : Type} (ok : Bool) (x : Sector α) : Sector α := if ok then .blank else x

/-- The answer of FULL-ERASE: DONE, or FAILED naming the first erase that failed (R190). -/
def eraseAnswer (ok0 ok1 ok2 ok3 : Bool) : FactoryAnswer :=
  if !ok0 then .failed 0 else if !ok1 then .failed 1 else if !ok2 then .failed 2 else if !ok3 then .failed 3 else .done

/-- The port's command in progress has ended. -/
def State.clearFactory (s : State) : State := { s with factory := { s.factory with op := none } }

/-- The sector 0 write or the erase sequence ends (R190). An erase that fails within FULL-ERASE raises no event and is not contained (DESIGN
CHOICE, log 70). -/
def State.endFactory (s : State) (ok0 ok1 ok2 ok3 : Bool) : State :=
  match s.factory.op with
  | none => s
  | some (.identity c) =>
    let s := s.clearFactory
    if ok0 then
      (State.factoryAnswer { s with store := { s.store with sec0 := .good c }, identity := some c } .done).serveFactory
    else (s.factoryAnswer (.failed 0)).serveFactory
  | some (.close c) =>
    let s := s.clearFactory
    if ok0 then (State.factoryAnswer { s with store := { s.store with sec0 := .good c } } .done).beginReset .reading
    else (s.factoryAnswer (.failed 0)).serveFactory
  | some .erase =>
    let s := s.clearFactory
    let k := s.store
    (State.factoryAnswer
      { s with
        store := { sec0 := erasedIf ok0 k.sec0, sec1 := erasedIf ok1 k.sec1, sec2 := erasedIf ok2 k.sec2, sec3 := erasedIf ok3 k.sec3 }
        holding := formattedStore } (eraseAnswer ok0 ok1 ok2 ok3)).beginReset .reading

/-- WRITE_IDENTITY (R190). -/
def execWriteIdentity (serial : BitVec 64) (mac : Mac) (etype : Nat) (mgmtKey transportKey : Key) (s : State) :
    Host.Outcome State Fault Refusal := .next (s.offerFactory (.writeIdentity serial mac etype mgmtKey transportKey))

/-- CLOSE_FACTORY (R190). -/
def execCloseFactory (s : State) : Host.Outcome State Fault Refusal := .next (s.offerFactory .closeFactory)

/-- FULL_ERASE (R190). Its step makes no grant decision: a till that the hold of a discarded command covered is looked at in the next step
that ends in State.settle (DESIGN CHOICE, log 69). -/
def execFullErase (s : State) : Host.Outcome State Fault Refusal := .next (s.offerFactory .fullErase)

/-- FACTORY_WRITE_END (R190). -/
def execFactoryWriteEnd (ok0 ok1 ok2 ok3 : Bool) (s : State) : Host.Outcome State Fault Refusal := .next (s.endFactory ok0 ok1 ok2 ok3)

end Sys2Proof.Machine
end

