-- ==== Sys2Proof/Machine/Starting.lean ====
section
/-! DEFINITION. The resets and start-up (R70, R161, R187 to R189): POWER_ON, the RESET pin, the end of the sector reads, the end of the
Holding Store's scan, the end of start-up. -/

namespace Sys2Proof.Machine

/-- POWER_ON (R188). A RESET pin still asserted keeps the part in reset (log 39). -/
def execPowerOn (s : State) : Host.Outcome State Fault Refusal :=
  .next (s.beginReset (if s.startup = .held then .held else .reading))

/-- RESET_PIN_ASSERT (R188): the part is in reset until the pin is released. -/
def execResetPinAssert (s : State) : Host.Outcome State Fault Refusal := .next (s.beginReset .held)

/-- RESET_PIN_RELEASE (R188): start-up begins. -/
def execResetPinRelease (s : State) : Host.Outcome State Fault Refusal :=
  .next (if s.startup = .held then { s with startup := .reading } else s)

/-! ### The sector reads (R70, R189) -/

/-- A written sector found damaged at rest fails its check from now on (R70). -/
def Sector.damage {α : Type} (bad : Bool) : Sector α → Sector α
  | .blank => .blank
  | .good c => if bad then .failing else .good c
  | .failing => .failing

/-- The sector is written and fails its check (R70). -/
def Sector.isFailing {α : Type} : Sector α → Bool
  | .blank => false
  | .good _ => false
  | .failing => true

/-- A slot as sector 2 restores it (R64). -/
def StoredSlot.restored (x : StoredSlot) : KeySlot :=
  { previous := none, current := x.current, staged := x.staged, state := x.state, floor := x.floor, busy := false }

/-- The Key Table as sector 2 restores it; blank when it is blank or failing (R64, R66, R70). -/
def restoredKeys : Sector Sector2 → KeyTable
  | .blank => blankKeys
  | .good c => { slots := c.slots.map (·.restored), fp := c.fp, fpFloor := c.fpFloor }
  | .failing => blankKeys

/-- The Counter Table as sector 3 restores it (R58): c = k, k = 0 when it is blank, every entry spent when it fails. -/
def restoredCounters : Sector Sector3 → CounterTable
  | .blank => blankCounters
  | .good c => { blankCounters with entries := c.map (fun column => column.map restoredEntry) }
  | .failing => { blankCounters with entries := Vector.replicate 16 (Vector.replicate 128 (restoredEntry Config.spent)) }

/-- The tables and settings as the sectors restore them (R47, R58, R64, R89, R90, R174). A zeroisation erase of sector 2 in progress leaves
nothing to restore from it (R193, log 33). -/
def State.restore (s : State) : State :=
  let sec1 := s.store.sec1.contents?
  { s with
    identity := s.store.sec0.contents?
    settings := (sec1.map (·.settings)).getD blankSettings
    tills := (sec1.map (fun c => c.bindings.map (fun b => { vacantTill with binding := b }))).getD (Vector.replicate 128 vacantTill)
    mgmt := { s.mgmt with last := (sec1.map (·.lastNumber)).getD 0 }
    keys := restoredKeys (if s.writer2.inFlight.isSome then .blank else s.store.sec2)
    counters := restoredCounters s.store.sec3 }

/-- SECTOR-CHECK-FAIL for a failing sector (R70); of sectors 1 to 3 it is a contained fault (R191). -/
def State.sectorFail (s : State) (n : Nat) (failing : Bool) : State :=
  if failing then
    let s := s.raise .sectorCheckFail (location := some (.sector n))
    if n = 0 then s else s.contain
  else s

/-- The start-up raise (R59): a raise of every counter entry whose checkpoint is below 1,048,576, all in one sector 3 write. -/
def State.startupRaise (s : State) : State :=
  State.kick3
    { s with counters :=
      { s.counters with
        entries := s.counters.entries.map (fun column => column.map (fun e =>
          { e with raise := if e.k < Config.spent then some (min (e.k + Config.raiseStep) Config.spent) else none }))
        pending := allSlots.flatMap (fun k =>
          (allTills.filter (fun i => decide ((s.ctr k i).k < Config.spent))).map (fun i => (k, i))) } }

/-- The sector reads end (R189, steps 1 to 3). -/
def State.endReads (s : State) (bad0 bad1 bad2 bad3 : Bool) : State :=
  let k := s.store
  let s :=
    { s with
      store := { sec0 := k.sec0.damage bad0, sec1 := k.sec1.damage bad1, sec2 := k.sec2.damage bad2, sec3 := k.sec3.damage bad3 }
      rxOpen := true }
  let s := s.restore
  let s := s.sectorFail 0 s.store.sec0.isFailing
  let s := s.sectorFail 1 s.store.sec1.isFailing
  let s := s.sectorFail 2 s.store.sec2.isFailing
  let s := s.sectorFail 3 s.store.sec3.isFailing
  if s.isClosed then
    let s := s.startupRaise
    State.serveFactory { s with startup := .scanning s.counters.inFlight.isNone false }
  else State.serveFactory { s with opState := .factory, startup := .over }

/-- SECTOR_READS_END (R189). -/
def execSectorReadsEnd (bad0 bad1 bad2 bad3 : Bool) (s : State) : Host.Outcome State Fault Refusal :=
  .next (if s.startup = .reading then s.endReads bad0 bad1 bad2 bad3 else s)

/-! ### The scan (R161) -/

/-- What the scan finds in a slot that is not on the bad-slot list (R161). -/
inductive ScanFind where
  | free
  | torn
  | lost
  | held (h : RecordHead)
  deriving DecidableEq, Repr

/-- A slot classified (R161); `last` is the last sequence written, absent when the header fails its check. A valid commit mark above it,
beside a head that fails its check, fits two rows of the table, and the row of the failing head is taken: RECORD-LOST, and the slot BAD
(DESIGN CHOICE, log 78). -/
def NvSlot.scan (x : NvSlot) (last : Option Nat) : ScanFind :=
  match x.contents, x.commit with
  | none, none => .free
  | some _, none => .torn
  | none, some _ => .lost
  | some r, some q =>
    if !x.headPasses then .lost
    else
      match last with
      | none => .held r.head
      | some n => if n < q then .torn else .held r.head

/-- One slot scanned (R161). A freed slot is erased; a lost record's slot joins the bad-slot list, in the header too while the header
passes its check (log 43). A kept record's line starts unmarked, so that a damaged notice sent before the reset does not count for it
(DESIGN CHOICE, log 75). -/
def State.scanSlot (last : Option Nat) (s : State) (x : NvSlot) : State :=
  if s.holding.bad.contains x.slot then s
  else
    match x.scan last with
    | .free => { s with holding := s.holding.eraseSlot x.slot }
    | .torn => State.raise { s with holding := s.holding.eraseSlot x.slot } .tornRecord (location := some (.holding x.slot))
    | .lost =>
      State.contain
        (State.raise
          { s with holding :=
            { s.holding with
              bad := s.holding.bad ++ [x.slot]
              header := if s.holding.header.passes then { s.holding.header with bad := s.holding.header.bad ++ [x.slot] }
                        else s.holding.header } } .recordLost (location := some (.holding x.slot)))
    | .held h =>
      { s with holding :=
        { s.holding with
          lines := putLine { slot := x.slot, held := true, head := h, draining := false, freeing := false, deadline := none,
                             noticed := false } s.holding.lines } }

/-- A line put in its place by sequence number. -/
def putBySeq (x : IndexLine) : List IndexLine → List IndexLine
  | [] => [x]
  | l :: rest => if l.head.seq < x.head.seq then l :: putBySeq x rest else x :: l :: rest

/-- The records in increasing sequence order (R153). -/
def bySequence (lines : List IndexLine) : List IndexLine := lines.foldr putBySeq []

/-- The totals and the Offline Card List rebuilt from the kept records (R153). -/
def rebuiltStandIn (lines : List IndexLine) : StandIn :=
  (bySequence lines).foldl (fun x l => x.charge l.head.till l.head.weight l.head.fp) emptyStandIn

/-- The damage at rest the scan meets, put into the non-volatile store: the header, heads, and messages (log 14). -/
def HoldingStore.damage (h : HoldingStore) (headerBad : Bool) (badHeads badMessages : List Nat) : HoldingStore :=
  { h with
    header := if headerBad then { h.header with passes := false } else h.header
    nv := h.nv.map (fun x =>
      { x with
        headPasses := x.headPasses && !badHeads.contains x.slot
        contents := if badMessages.contains x.slot then x.contents.map (fun r : HeldRecord => { r with checkPasses := false })
                    else x.contents }) }

/-- The highest sequence found in a valid commit mark (R161). -/
def highestCommit (nv : List NvSlot) : Nat := nv.foldl (fun m x => max m (x.commit.getD 0)) 0

/-- The scan ends (R161): every slot classified, the next sequence number set, the totals rebuilt. -/
def State.endScan (s : State) (headerBad : Bool) (badHeads badMessages : List Nat) : State :=
  let h := s.holding.damage headerBad badHeads badMessages
  let good := h.header.passes
  let last := if good then h.header.last else highestCommit h.nv
  let s := { s with holding := { h with bad := if good then h.header.bad else [], lines := [] } }
  let s := if good then s else (s.raise .storeHeaderFail).contain
  let s := h.nv.foldl (State.scanSlot (if good then some last else none)) s
  { s with holding := { s.holding with last := last, next := last + 1 }, standIn := rebuiltStandIn s.holding.lines }

/-- HOLDING_SCAN_END (R161). -/
def execHoldingScanEnd (headerBad : Bool) (badHeads badMessages : List Nat) (s : State) : Host.Outcome State Fault Refusal :=
  .next
    (match s.startup with
    | .scanning raiseEnded false =>
      if s.erasing then s else { s.endScan headerBad badHeads badMessages with startup := .scanning raiseEnded true }
    | _ => s)

/-! ### The end of start-up (R189, step 4) -/

/-- COUNTER-LOW for each current counter entry already past the line (R59). -/
def State.repeatCounterLow (s : State) : State :=
  allTills.foldl (fun s i =>
    match (s.till i).binding with
    | none => s
    | some b =>
      if Config.counterLowMark ≤ (s.ctr b.slot i).c ∧ (s.ctr b.slot i).c < Config.spent then
        s.raise .counterLow (till := some i) (slot := some b.slot)
      else s) s

/-- Start-up ends (R189): COUNTER-LOW is repeated, the Uplink Port makes its first report and the first probe is sent, an asserted tamper
input is taken, and the part enters LOCKDOWN or SERVING. -/
def State.endStartup (s : State) : State :=
  let s := s.repeatCounterLow
  let s := State.probeTick { s with link := { s.link with physicalUp := s.uplink.linkUp } }
  let s := if s.tamperIn then s.tamper else s
  let s := { s with startup := .over }
  if s.cause then s.enterLockdown else { s with opState := .serving }

/-- STARTUP_END (R189): taken once the start-up raise's write and the scan have ended. -/
def execStartupEnd (s : State) : Host.Outcome State Fault Refusal :=
  .next (if s.startup = .scanning true true ∧ !s.erasing then s.endStartup.settle else s)

end Sys2Proof.Machine
end

