-- ==== Sys2Proof/Machine/Assembly.lean ====
section
/-! DEFINITION. The Message Assembler (R28 to R37) and the Wrap Scheduler's admission (R109 to R111). -/

namespace Sys2Proof.Machine

/-! ### Admission (R110, R111) -/

/-- The context holds the pair (R110): from grant until its wrap ends, but not once it has requested a record write (R104). -/
def Ctx.holdsPair (x : Ctx) (till : TillIx) (reference : Nat) : Bool :=
  match x.wrap with
  | none => false
  | some w => w.till == till && (match w.msg with | none => false | some m => m.reference == reference)

/-- The pair is found by line 1 of R110. -/
def State.isDuplicate (s : State) (till : TillIx) (reference : Nat) : Bool :=
  (s.till till).queue.any (fun m => m.reference == reference)
    || allCtxs.any (fun i => (s.ctx i).holdsPair till reference)
    || s.outstanding.any (fun e => e.till == till && e.reference == reference)
    || (match s.holding.findPair till reference with | none => false | some l => !l.held || l.freeing)

/-- A complete message is admitted (R110, R111): dropped as DUPLICATE, answered HELD again, refused BUSY, or joined to the queue's tail. -/
def State.admission (s : State) (i : TillIx) (m : TillMsg) : State :=
  if s.isDuplicate i m.reference then s.raise .duplicate (till := some i)
  else if (s.holding.findPair i m.reference).isSome then (s.raise .heldRepeat (till := some i)).replyTo i m .held
  else if Config.pendingDepth ≤ (s.till i).queue.length then s.replyTo i m (.refused .busy)
  else s.setTill i { s.till i with queue := (s.till i).queue ++ [m] }

/-! ### Assembly Records (R28 to R33) -/

/-- The item list of a segment: everything after its 10-byte header (section 1.3). -/
def segmentItems (p : Bytes) : Bytes := p.drop 10

/-- A record opened from a segment 1 (R28, R29, R32). -/
def State.newAssembly (s : State) (path : ReturnPath) (p : Bytes) : AssemblyRecord :=
  { reference := field p 4 4, expected := field p 9 1, received := 1, version := field p 0 1, kind := field p 1 1, number := field p 2 2,
    path := path, items := (segmentItems p).take Config.itemBytesMax, itemBytes := (segmentItems p).length,
    structureGood := (readItems (segmentItems p)).isSome, deadline := s.now + s.settings.store.asmTimeout }

/-- A later segment added to a record (R30, R32). -/
def AssemblyRecord.extend (r : AssemblyRecord) (p : Bytes) : AssemblyRecord :=
  { r with
    received := r.received + 1
    items := (r.items ++ segmentItems p).take Config.itemBytesMax
    itemBytes := r.itemBytes + (segmentItems p).length
    structureGood := r.structureGood && (readItems (segmentItems p)).isSome }

/-- The form checks of R6 on a completed record, in their order: the message, or the refusal's reason. -/
def AssemblyRecord.message (r : AssemblyRecord) : RefuseReason ⊕ TillMsg :=
  match readKind r.kind with
  | none => .inl .malformed
  | some kind =>
    if r.version ≠ 1 ∨ r.number < 1 ∨ 9999 < r.number then .inl .malformed
    else if Config.itemBytesMax < r.itemBytes then .inl .tooLong
    else if !r.structureGood then .inl .malformed
    else
      match readItems r.items with
      | none => .inl .malformed
      | some items =>
        if itemsGood kind items then
          .inr { kind := kind, number := r.number, reference := r.reference, items := items, card := cardNumber items, path := r.path }
        else .inl .malformed

/-- A message completes (R33 to R35): the record ends, and the message is refused by the first check that fails or handed to admission. -/
def State.completeMessage (s : State) (i : TillIx) (r : AssemblyRecord) : State :=
  let s := s.setTill i { s.till i with record := none }
  if s.opState ≠ .serving then s.localReply i r.number r.reference r.path (.unavailable s.opState)
  else
    match r.message with
    | .inl x => s.localReply i r.number r.reference r.path (.refused x)
    | .inr m =>
      if ((s.till i).binding.map (·.number)) ≠ some m.number then s.replyTo i m (.refused .tillMismatch)
      else
        match s.completionRefusal i with
        | some x => s.replyTo i m x
        | none => s.admission i m

/-- A record stands for the till: its message completes when every segment has been received (R29, R30). -/
def State.standRecord (s : State) (i : TillIx) (r : AssemblyRecord) : State :=
  if r.received = r.expected then s.completeMessage i r else s.setTill i { s.till i with record := some r }

/-- The Assembler takes a segment of a till (R29, R30). -/
def State.takeSegment (s : State) (i : TillIx) (path : ReturnPath) (p : Bytes) : State :=
  let index := field p 8 1
  let count := field p 9 1
  if index = 1 ∧ 1 ≤ count ∧ count ≤ 4 then
    let s := if (s.till i).record.isSome then s.raise .segmentOrder (till := some i) else s
    s.standRecord i (s.newAssembly path p)
  else
    match (s.till i).record with
    | none => s.raise .segmentOrder (till := some i)
    | some r =>
      if index = r.received + 1 ∧ count = r.expected ∧ field p 4 4 = r.reference then s.standRecord i (r.extend p)
      else (s.setTill i { s.till i with record := none }).raise .segmentOrder (till := some i)

/-- ASSEMBLY_TIMEOUT (R31): the till's record is discarded and ASSEMBLY-TIMEOUT counted; with no record the expiry finds nothing. -/
def execAssemblyTimeout (i : TillIx) (s : State) : Host.Outcome State Fault Refusal :=
  .next
    (if (s.till i).record.isSome then (s.setTill i { s.till i with record := none }).raise .assemblyTimeout (till := some i) else s)

end Sys2Proof.Machine
end

