-- ==== Sys2Proof/Machine/Receive.lean ====
section
/-! DEFINITION. RX_FRAME: the receive path (R16), the Frame Classifier (R3, R21 to R27), and the consumers of what it sorts: the Reply
Matcher (R123 to R126), the Drain Controller's acknowledgements (R12, R166), the Link Monitor's probe answers (R13, R140), the address
responder (R25), the Management Unit's arrival list (R172). -/

namespace Sys2Proof.Machine

/-! ### The Reply Matcher (R10, R123 to R126) -/

/-- The till index whose Till Entry holds a till number. -/
def State.tillNumbered (s : State) (n : Nat) : Option TillIx := allTills.find? (fun i => ((s.till i).binding.map (·.number)) == some n)

/-- The entry a reply matches (R123): of several, the one of the till that now holds the number, otherwise the oldest. -/
def State.matchReply (s : State) (number reference : Nat) : Option OutEntry :=
  let found := s.outstanding.filter (fun e => e.number == number && e.reference == reference)
  (found.find? (fun e => some e.till == s.tillNumbered number)).or found.head?

/-- The record of a slot with a generation, current or previous (R81). -/
def KeySlot.recordOf (x : KeySlot) (gen : Nat) : Option KeyRecord :=
  (x.current.filter (fun r => r.gen == gen)).or (x.previous.filter (fun r => r.gen == gen))

/-- A matched reply fails (R125): it is dropped, the entry stays. -/
def State.replyFails (s : State) (e : OutEntry) : State := s.raise .replyAuthFail (till := some e.till) (slot := some e.slot)

/-- A verified reply (R124): the entry leaves, the reply without its code is forwarded, a success is reported, REPLY-FORWARDED. -/
def State.forwardReply (s : State) (e : OutEntry) (p : Bytes) : State :=
  State.raise (((s.removeEntry e).sendReply e.path (withoutCode p)).linkSuccess) .replyForwarded (till := some e.till)

/-- The Reply Matcher takes a payload from an acquirer gateway (R10, R123 to R126). -/
def State.takeReply (s : State) (p : Bytes) : State :=
  if !isAcquirerReply p then s.raise .replyUnmatched
  else
    match s.matchReply (field p 2 2) (field p 4 4) with
    | none => s.raise .replyUnmatched
    | some e =>
      match (s.slot e.slot).recordOf e.gen with
      | none => s.replyFails e
      | some r =>
        match s.checkRecord e.slot.val r with
        | .marked => s.replyFails e
        | .fails => ((s.faultSlot e.slot r.gen e.till).replyFails e).contain
        | .passes => if authCode (deriveKey 3 r e.till e.counter) (withoutCode p) = codeOf p then s.forwardReply e p else s.replyFails e

/-! ### Drain acknowledgements, probe answers (R12, R13, R140, R166) -/

/-- The Drain Controller takes an acknowledgement of a sequence (R166). -/
def State.acknowledge (s : State) (q : Nat) : State :=
  match s.holding.findSeq q with
  | none => s.raise .drainUnmatched
  | some l =>
    if !l.held || l.freeing then s.raise .drainUnmatched
    else if l.draining && l.deadline.isNone then
      State.requestFree { (s.leaveQueue .drain) with drain := { s.drain with inHand := none } } l.slot .drain
    else s.requestFree l.slot .drain

/-- The Drain Controller takes a payload from the drain gateway (R12). -/
def State.takeAck (s : State) (p : Bytes) : State :=
  if !isDrainAck p then s.raise .drainUnmatched
  else if authCode s.mgmtKey (withoutCode p) = codeOf p then s.acknowledge (field p 1 4)
  else s.raise .drainAuthFail

/-- The Link Monitor takes a payload from the probe gateway (R13, R140). -/
def State.takeProbeAnswer (s : State) (p : Bytes) : State :=
  if isProbeAnswer p && authCode s.mgmtKey (withoutCode p) == codeOf p && s.awaits (field p 2 4) then
    (s.unawait (field p 2 4)).linkSuccess
  else s.raise .probeUnmatched

/-! ### The address responder and the arrival list (R25, R172) -/

/-- The address responder takes a request (R25, log 44): UNCLAIMED while its answer waits for the queue. -/
def State.answerAddress (s : State) (e : EthFrame) : State :=
  if s.waitOrder.any (fun x => x.1 == .responder) then s.raise .unclaimed
  else
    s.offerUplink .responder
      { bytes := ethFrame (BitVec.ofNat 48 (field e.payload 8 6)) s.ownMac e.tags.head? 0x0806
          (addressAnswer s.ownMac s.settings.store.ownIp e.payload)
        isReset := false }

/-- The Management Unit is given a frame (R172). -/
def State.arrive (s : State) (f : Bytes) : State :=
  if s.mgmt.arrivals.length < Config.arrivalDepth then { s with mgmt := { s.mgmt with arrivals := s.mgmt.arrivals ++ [f] } }
  else s.raise .mgmtOverflow

/-! ### The Frame Classifier (R3, R21 to R26) -/

/-- The frame is of the management EtherType, while sector 0 gives one (R26). -/
def State.isMgmt (s : State) (e : EthFrame) : Bool := (s.identity.map (·.etype)) == some e.etype

/-- The frame is addressed to the part's own Ethernet address, while sector 0 gives one (R26). -/
def State.toPart (s : State) (e : EthFrame) : Bool := (s.identity.map (·.mac)) == some e.dst

/-- The destination is a payment destination port (R3). -/
def State.toPayment (s : State) (v : IpView) : Bool := (v.dstPort.map (fun p => s.settings.store.ports.contains p)).getD false

/-- The return path of a segment 1 (R4). -/
def returnPath (e : EthFrame) (v : IpView) : ReturnPath :=
  { tillMac := e.src, dstMac := e.dst, vlan := e.tags.head?, tillIp := v.src, tillPort := v.srcPort, dstIp := v.dst,
    dstPort := v.dstPort.getD 0 }

/-- The till of an Ethernet address, among the entries that are not VACANT (R22). -/
def State.tillAddressed (s : State) (m : Mac) : Option TillIx := allTills.find? (fun i => ((s.till i).binding.map (·.mac)) == some m)

/-- A payment frame (R22). -/
def State.takePayment (s : State) (e : EthFrame) (v : IpView) : State :=
  match s.tillAddressed e.src with
  | none => s.raise .unknownTill
  | some i =>
    if v.udpPayload.length < 10 then s.raise .shortSegment (till := some i) else s.takeSegment i (returnPath e v) v.udpPayload

/-- A frame from the Lane port: the first outcome of R21 that fits. -/
def State.classifyLane (s : State) (f : Bytes) : State :=
  let e := readEth f
  let v := readIp e.payload
  if 2 ≤ e.tags.length then s.raise .multiTag
  else if s.isMgmt e then s.raise .mgmtWrongPort
  else if s.toPart e then s.raise .unclaimed
  else if !e.isIp then s.bridge .lane f
  else if v.isUdp && v.isFragment then s.raise .fragment
  else if s.toPayment v then (if v.isUdp && v.udpWhole then s.takePayment e v else s.raise .notUdp)
  else s.bridge .lane f

/-- The kinds of gateway (R24). -/
inductive GatewayKind where
  | acquirer | drain | probe
  deriving DecidableEq, Repr

/-- The gateways of a kind. -/
def State.gateways (s : State) : GatewayKind → List Gateway
  | .acquirer => allProfiles.map (fun i => (s.profile i).gateway)
  | .drain => [s.settings.store.drainGw]
  | .probe => [s.settings.store.probeGw]

/-- A source is a gateway of a kind (R24): one at 0.0.0.0 matches no frame. -/
def State.matchesKind (s : State) (k : GatewayKind) (ip : Ip) (port : Nat) : Bool :=
  (s.gateways k).any (fun g => g.ip != 0 && g.ip == ip && g.port == port)

/-- An IPv4 source is that of some gateway (R23). -/
def State.gatewayIp (s : State) (ip : Ip) : Bool :=
  [GatewayKind.acquirer, .drain, .probe].any (fun k => (s.gateways k).any (fun g => g.ip != 0 && g.ip == ip))

/-- The consumer of gateway traffic (R24): the kind that matches, or of several the one the payload's length chooses. -/
def State.consumer (s : State) (ip : Ip) (port length : Nat) : Option GatewayKind :=
  let a := s.matchesKind .acquirer ip port
  let d := s.matchesKind .drain ip port
  let p := s.matchesKind .probe ip port
  match a, d, p with
  | false, false, false => none
  | true, false, false => some .acquirer
  | false, true, false => some .drain
  | false, false, true => some .probe
  | _, _, _ =>
    if length = 13 ∧ d then some .drain
    else if length = 14 ∧ p then some .probe
    else if a then some .acquirer
    else some .drain

/-- The consumer of a frame that is gateway traffic (R24). -/
def State.gatewayTraffic (s : State) (e : EthFrame) (v : IpView) : Option GatewayKind :=
  if e.isIp && v.isUdp && !v.isFragment && s.toPart e && v.dst == s.settings.store.ownIp then
    s.consumer v.src v.srcPort v.udpPayload.length
  else none

/-- The frame is an address request for the part's own IPv4 address (R23, R25, R26). -/
def State.asksForPart (s : State) (e : EthFrame) : Bool :=
  s.hasIdentity && s.settings.store.ownIp != 0 && e.etype == 0x0806 && isAddressRequest e.payload s.settings.store.ownIp

/-- A frame from the Uplink port: the first outcome of R23 that fits. A frame from a gateway that has been replaced is such a frame too: no
gateway traffic any more, it is UNCLAIMED by step 7 where it is addressed to the part's own Ethernet address, and bridged by step 8 as R88,
R140 and R168 have it where it is not (DEDUCED, log 58). -/
def State.classifyUplink (s : State) (f : Bytes) : State :=
  let e := readEth f
  let v := readIp e.payload
  if 2 ≤ e.tags.length then s.raise .multiTag
  else if s.isMgmt e then (if s.toPart e then s.arrive f else s.raise .unclaimed)
  else if s.asksForPart e then s.answerAddress e
  else if e.isIp && v.isUdp && v.isFragment && s.gatewayIp v.src then s.raise .fragment
  else
    match s.gatewayTraffic e v with
    | some .acquirer => s.takeReply v.udpPayload
    | some .drain => s.takeAck v.udpPayload
    | some .probe => s.takeProbeAnswer v.udpPayload
    | none =>
      if s.toPart e then s.raise .unclaimed
      else s.bridge .uplink f

/-- A frame has arrived on a port (R16). -/
def State.receive (s : State) (p : Port) (f : Bytes) : State :=
  if !frameGood f then s.raise .rxError
  else
    match p with
    | .lane => s.classifyLane f
    | .uplink => s.classifyUplink f

/-- A port receives: the receive paths are open, and its physical link is up (R16, R20; log 13). -/
def State.receives (s : State) (p : Port) : Bool := s.rxOpen && (s.port p).linkUp

/-- RX_FRAME (R16, R20): a frame arriving while the receive paths are closed, or being received when the port's link is lost, is not
received and not counted. -/
def execRxFrame (p : Port) (f : Bytes) (s : State) : Host.Outcome State Fault Refusal :=
  .next (if s.receives p then (s.receive p f).settle else s)

end Sys2Proof.Machine
end

