-- ==== Sys2Proof/Machine/Transmit.lean ====
section
/-! DEFINITION. The transmit side of the ports and their physical links: TRANSMIT_START and TRANSMIT_END (R17, R19), PHYSICAL_LINK_LOST and
PHYSICAL_LINK_RESTORED (R20, R142). -/

namespace Sys2Proof.Machine

/-- A port begins to send (R17): the head of its Priority Queue, or else of its Bridge Queue, leaves its queue; a place freed in the Uplink
Priority Queue goes to the block that began waiting earliest (R19). -/
def State.startSending (s : State) (p : Port) : State :=
  match (s.port p).priority, (s.port p).bridge with
  | f :: rest, _ =>
    let s := s.setPort p { s.port p with priority := rest, sending := some f }
    match p with
    | .lane => s
    | .uplink => s.serveUplink
  | [], f :: rest => s.setPort p { s.port p with bridge := rest, sending := some f }
  | [], [] => s

/-- TRANSMIT_START (R17): taken while the port is not sending and its physical link is up. -/
def execTransmitStart (p : Port) (s : State) : Host.Outcome State Fault Refusal :=
  .next (if (s.port p).sending.isNone && (s.port p).linkUp then (s.startSending p).settle else s)

/-- A frame in transmission has left the port (R17); when it is the response to RESET, the reset begins (R183). -/
def State.finishSending (s : State) (p : Port) (f : TxFrame) : State :=
  let s := s.setPort p { s.port p with sending := none }
  if f.isReset then State.resetIfGone { s with mgmt := { s.mgmt with reset := .gone } } else s

/-- TRANSMIT_END (R17). -/
def execTransmitEnd (p : Port) (s : State) : Host.Outcome State Fault Refusal :=
  .next
    (match (s.port p).sending with
    | none => s
    | some f => s.finishSending p f)

/-- The Link Monitor is at work: start-up has ended, and the part is not in FACTORY (R139, R189; log 46). -/
def State.monitoring (s : State) : Bool := s.opState == .serving || s.opState == .lockdown

/-- The physical link of a port is lost (R20; log 45): every frame in both queues is discarded, the Uplink Port reports the loss, and the blocks
that wait for the Uplink Priority Queue are served. DESIGN CHOICE (log 73): the report comes first, so that a drain frame waiting in hand is
given up with the pass (R168) and takes no freed place. -/
def State.loseLink (s : State) (p : Port) : State :=
  let x := s.port p
  let s := (x.priority ++ x.bridge).foldl State.discardFrame (s.setPort p { x with priority := [], bridge := [], linkUp := false })
  match p with
  | .lane => s
  | .uplink => (if s.monitoring then s.physicalLoss else s).serveUplink

/-- PHYSICAL_LINK_LOST (R20). -/
def execPhysicalLinkLost (p : Port) (s : State) : Host.Outcome State Fault Refusal :=
  .next (if (s.port p).linkUp then (s.loseLink p).settle else s)

/-- PHYSICAL_LINK_RESTORED (R20, R142): the port sends again, and the Uplink Port reports the restoration. -/
def execPhysicalLinkRestored (p : Port) (s : State) : Host.Outcome State Fault Refusal :=
  .next
    (if (s.port p).linkUp then s
    else
      let s := s.setPort p { s.port p with linkUp := true }
      match p with
      | .lane => s
      | .uplink => if s.monitoring then s.physicalReturn else s)

end Sys2Proof.Machine
end

