-- ==== Sys2Proof/Machine/Wrapping.lean ====
section
/-! DEFINITION. The phases of a Wrap Context: DERIVING (R80 to R85, R95), WRAPPING (R8, R9, R90, R96), AUTHENTICATING (R97), DECIDING (R98
to R104). A phase's event is taken by a context in the phase before it (log 12). -/

namespace Sys2Proof.Machine

/-- What a context holds, when it stands in a phase with its message. -/
def State.inPhase (s : State) (i : CtxIx) (p : Phase) : Option (Wrap × TillMsg) :=
  match (s.ctx i).wrap with
  | none => none
  | some w => if (s.ctx i).phase = p then w.msg.map (fun m => (w, m)) else none

/-- The context ends its wrap with a local reply to its message and returns to IDLE. -/
def State.endWrap (s : State) (i : CtxIx) (w : Wrap) (m : TillMsg) (r : LocalReply) : State := (s.replyTo w.till m r).ctxToIdle i

/-! ### DERIVING -/

/-- The fingerprint of a message, when it has a card number and the fingerprint key record is usable, with the state after its integrity
check (R82, R85, R95). The flag says that the check failed now. -/
def State.takeFingerprint (s : State) (w : Wrap) (m : TillMsg) : State × Option Fingerprint × Bool :=
  match m.card, s.usableFp with
  | some card, some r =>
    if s.recordIntact 255 r then (s, some { value := fingerprintCode r.base card, gen := r.gen }, false)
    else (s.faultFp w.till, none, true)
  | _, _ => (s, none, false)

/-- The context derives its keys and any fingerprint and goes on to WRAPPING; a fingerprint key that fails is contained last, which under
STRICT abandons the wrap by the LOCKDOWN entry (R85, R95). -/
def State.deriveKeys (s : State) (i : CtxIx) (w : Wrap) (m : TillMsg) (r : KeyRecord) : State :=
  let f := s.takeFingerprint w m
  let w :=
    { w with gen := r.gen, ksid := r.ksid, dataKey := some (deriveKey 1 r w.till w.counter),
             authKey := some (deriveKey 2 r w.till w.counter), fp := f.2.1 }
  let s := f.1.setCtx i { phase := .derivingKeys, wrap := some w }
  if f.2.2 then s.contain else s

/-- The slot's current record fails its check in this derivation (R83, R84, R95): under LENIENT the message is refused KEY-FAULT; under
STRICT the wrap is abandoned by the LOCKDOWN entry. -/
def State.deriveFails (s : State) (i : CtxIx) (w : Wrap) (m : TillMsg) (r : KeyRecord) : State :=
  let s := s.faultSlot w.slot r.gen w.till
  match s.settings.store.policy with
  | .lenient => s.endWrap i w m (.refused .keyFault)
  | .strict => s.contain

/-- DERIVING (R95, log 36). A failed mark already set makes the derivation fail at once, and the message is refused KEY-FAULT. The slot's
record is checked first, and where it fails no fingerprint is computed and the fingerprint record is not checked (DESIGN CHOICE, log 68). -/
def execDeriving (i : CtxIx) (s : State) : Host.Outcome State Fault Refusal :=
  .next
    (match s.inPhase i .reserved with
    | none => s
    | some (w, m) =>
      match (s.slot w.slot).current with
      | none => s
      | some r =>
        match s.checkRecord w.slot.val r with
        | .passes => (s.deriveKeys i w m r).settle
        | .marked => (s.endWrap i w m (.refused .keyFault)).settle
        | .fails => (s.deriveFails i w m r).settle)

/-! ### WRAPPING -/

/-- The entries one item gives (R8, R90). -/
def itemEntries (key : Key) (t : Treatment) (position : Nat) (x : Item) (card : Bytes) : List Bytes :=
  match t with
  | .pass => [clearEntry x]
  | .encrypt => [wrappedEntry key position x]
  | .encryptMask => [wrappedEntry key position x, maskedEntry card]
  | .remove => []

/-- The lengths of entries together. -/
def entriesSize (es : List Bytes) : Nat := (es.map (·.length)).sum

/-- The items treated in position order (R96): none when the running size would pass 1,420 bytes. -/
def buildEntries (key : Key) (map : FieldMap) (d : DefaultTreatment) (card : Bytes) : (position size : Nat) → List Item → Option (List Bytes)
  | _, _, [] => some []
  | position, size, x :: rest =>
    let es := itemEntries key (treatmentFor map d x.tag) position x card
    if Config.wrappedMax < size + entriesSize es then none
    else (buildEntries key map d card (position + 1) (size + entriesSize es) rest).map (es ++ ·)

/-- WRAPPING (R96): the entries are built and the data key erased, or the message is refused TOO-LONG. -/
def execWrapping (i : CtxIx) (s : State) : Host.Outcome State Fault Refusal :=
  .next
    (match s.inPhase i .derivingKeys with
    | none => s
    | some (w, m) =>
      match w.dataKey with
      | none => s
      | some key =>
        match buildEntries key w.map w.profile.dflt (m.card.getD []) 0 Config.wrappedBase m.items with
        | none => (s.endWrap i w m (.refused .tooLong)).settle
        | some es => s.setCtx i { phase := .wrapping, wrap := some { w with entries := es, dataKey := none } })

/-! ### AUTHENTICATING -/

/-- The header and the entries of a wrap's message (R8). -/
def Wrap.body (w : Wrap) (m : TillMsg) : Bytes :=
  wrappedHeader m.kind m.number w.till w.slot w.ksid w.gen w.counter m.reference (messageAmount m.items) w.entries.length
    ++ w.entries.flatten

/-- AUTHENTICATING (R97): the code is computed and appended, the till's messages wrapped count advances, the key is erased. -/
def execAuthenticating (i : CtxIx) (s : State) : Host.Outcome State Fault Refusal :=
  .next
    (match s.inPhase i .wrapping with
    | none => s
    | some (w, m) =>
      match w.authKey with
      | none => s
      | some key =>
        let s := s.setCtx i { phase := .authenticating, wrap := some { w with wrapped := sealed key (w.body m), authKey := none } }
        s.setTill w.till { s.till w.till with wrapped := saturate (s.till w.till).wrapped })

/-! ### DECIDING -/

/-- Where a VOID's lookup leads (R99). -/
inductive VoidRoute where
  | open_
  | busy
  /-- A local void of the record in this slot. -/
  | local_ (slot : Nat)
  deriving DecidableEq, Repr

/-- The VOID lookup (R99). A HELD record that is taken for freeing answers BUSY also where it carries FORWARDED-ONCE, which the table's last
row names (DESIGN CHOICE, log 63). -/
def State.lookupVoid (s : State) (till : TillIx) (m : TillMsg) : VoidRoute :=
  match m.kind, originalReference m.items with
  | .void, some reference =>
    match s.holding.findPair till reference with
    | none => .open_
    | some l =>
      if !l.held || l.freeing then .busy
      else if l.draining || l.head.forwardedOnce then .open_
      else .local_ l.slot
  | _, _ => .open_

/-- A local void begins (R99, R100): the record is taken for freeing, and the context waits in HOLDING. -/
def State.beginVoid (s : State) (i : CtxIx) (w : Wrap) (m : TillMsg) (slot : Nat) : State :=
  (s.setCtx i
    { phase := .holding
      wrap := some { w with inHand := some { isVoid := true, number := m.number, reference := m.reference, path := m.path } } }).requestFree
    slot (.ctx i)

/-- The record of an accepted stand-in (R104, R130); its sequence is given by the write request. -/
def heldRecord (r : StandInRequest) (number reference w : Nat) (forwardedOnce : Bool) (message : Bytes) : HeldRecord :=
  { head := { seq := 0, till := r.till, number := number, reference := reference, kind := r.kind, weight := w, fp := r.usedFp,
              forwardedOnce := forwardedOnce }
    message := message, checkPasses := true }

/-- The offline route (R103, R104): policy, refunds, stand-in decision; a decline answers the message, an acceptance requests the record's
write and leaves the context in HOLDING with the outcome in hand. -/
def State.goOffline (s : State) (i : CtxIx) (w : Wrap) (m : TillMsg) : State :=
  if w.profile.policy = .never then s.endWrap i w m (.declined .noStandIn)
  else if m.kind = .refund ∧ !w.profile.refundsAllowed then s.endWrap i w m (.declined .refundOffline)
  else
    let r : StandInRequest :=
      { kind := m.kind, amount := (messageAmount m.items).getD 0, risk := w.profile.risk, till := w.till, profileIx := w.profileIx,
        fp := w.fp }
    match s.standInOutcome r with
    | .inl x => s.endWrap i w m (.declined x)
    | .inr (slot, weight) =>
      let s := s.acceptStandIn r weight slot
      let s := s.setCtx i
        { phase := .holding
          wrap := some
            { w with msg := none, entries := [], wrapped := [],
                     inHand := some { isVoid := false, number := m.number, reference := m.reference, path := m.path } } }
      s.requestWrite slot (.ctx i) (heldRecord r m.number m.reference weight false w.wrapped)

/-- The line is usable: UP or SUSPECT (R98). -/
def LinkState.usable : LinkState → Bool
  | .up => true
  | .suspect => true
  | .down => false
  | .recovering => false

/-- The route of a message whose VOID lookup, if any, left it open (R98, steps 2 and 3). -/
def State.route (s : State) (i : CtxIx) (w : Wrap) (m : TillMsg) : State :=
  if w.profile.gateway.ip = 0 then s.goOffline i w m
  else if s.link.state.usable then s.enterEmitting i
  else s.goOffline i w m

/-- DECIDING (R98). -/
def execDeciding (i : CtxIx) (s : State) : Host.Outcome State Fault Refusal :=
  .next
    (match s.inPhase i .authenticating with
    | none => s
    | some (w, m) =>
      let s := s.setCtx i { s.ctx i with phase := .deciding }
      (match s.lookupVoid w.till m with
      | .open_ => s.route i w m
      | .busy => s.endWrap i w m (.refused .busy)
      | .local_ slot => s.beginVoid i w m slot).settle)

end Sys2Proof.Machine
end

