-- ==== Sys2Proof/Machine/Timers.lean ====
section
/-! DEFINITION. Expiries: REPLY_WINDOW_EXPIRY (R127 to R130), PROBE_TIMER_EXPIRY (R139), PROBE_DEADLINE_EXPIRY (R140), SETTLE_TIMER_EXPIRY
(R143), DRAIN_TIMEOUT (R167), QUIET_WAIT_LIMIT_EXPIRY (R178). An expiry whose timer does not run, or whose subject is gone, finds nothing
(R131, R140, R178; log 3, log 10). -/

namespace Sys2Proof.Machine

/-! ### REPLY_WINDOW_EXPIRY -/

/-- A stand-in on the expiry of a reply window (R129, R130): the refund check and the decision by the profile as it stands; a decline
answers the till, an acceptance requests a record with FORWARDED-ONCE and keeps a hold note. -/
def State.standInOnExpiry (s : State) (e : OutEntry) (copy : Bytes) : State :=
  let p := s.profile e.profileIx
  let answer := fun (x : DeclineReason) => s.localReply e.till e.number e.reference e.path (.declined x)
  if e.kind = .refund ∧ !p.refundsAllowed then answer .refundOffline
  else
    let r : StandInRequest :=
      { kind := e.kind, amount := e.amount.getD 0, risk := p.risk, till := e.till, profileIx := e.profileIx, fp := e.fp }
    match s.standInOutcome r with
    | .inl x => answer x
    | .inr (slot, weight) =>
      let s := s.acceptStandIn r weight slot
      let note : HoldNote := { seq := s.holding.next, till := e.till, number := e.number, reference := e.reference, path := e.path }
      State.requestWrite { s with holdNotes := s.holdNotes ++ [note] } slot .matcher (heldRecord r e.number e.reference weight true copy)

/-- The till's answer at an expiry (R127): TIMED-OUT outside SERVING or without a copy; a stand-in decision on the copy otherwise. -/
def State.answerExpiry (s : State) (e : OutEntry) : State :=
  match e.copy with
  | none => s.localReply e.till e.number e.reference e.path .timedOut
  | some copy =>
    if s.opState = .serving then s.standInOnExpiry e copy else s.localReply e.till e.number e.reference e.path .timedOut

/-- The Outstanding entry of a pair (R122). -/
def State.entryOf (s : State) (till : TillIx) (reference : Nat) : Option OutEntry :=
  s.outstanding.find? (fun e => e.till == till && e.reference == reference)

/-- An entry's deadline expires (R127). -/
def State.expireEntry (s : State) (e : OutEntry) : State :=
  (((s.removeEntry e).linkFailure).raise .replyExpired (till := some e.till)).answerExpiry e

/-- REPLY_WINDOW_EXPIRY (R127). -/
def execReplyWindowExpiry (till : TillIx) (reference : Nat) (s : State) : Host.Outcome State Fault Refusal :=
  .next
    (match s.entryOf till reference with
    | none => s
    | some e => (s.expireEntry e).settle)

/-! ### Probes and the settle timer -/

/-- PROBE_TIMER_EXPIRY (R139). -/
def execProbeTimerExpiry (s : State) : Host.Outcome State Fault Refusal :=
  .next (if s.link.probeTimer.isSome then s.probeTick else s)

/-- PROBE_DEADLINE_EXPIRY (R140): the probe leaves the awaited probes, a failure is taken, PROBE-LOST is counted. -/
def execProbeDeadlineExpiry (n : Nat) (s : State) : Host.Outcome State Fault Refusal :=
  .next (if s.awaits n then (((s.unawait n).linkFailure).raise .probeLost).settle else s)

/-- SETTLE_TIMER_EXPIRY (R143): the settled flag is set, and the AUTO trigger fires to the Drain Controller (R164). -/
def execSettleTimerExpiry (s : State) : Host.Outcome State Fault Refusal :=
  .next
    (if s.link.settleTimer.isSome then
      (State.tryRun { s with link := { s.link with settleTimer := none, settled := true } }).settle
    else s)

/-! ### DRAIN_TIMEOUT -/

/-- A DRAINING record of the sequence has its frame placed and its deadline running (R165). -/
def State.awaitsAck (s : State) (q : Nat) : Bool := s.holding.lines.any (fun l => l.head.seq == q && l.draining && l.deadline.isSome)

/-- A DRAINING record's deadline expires (R167): DRAIN-TIMEOUT, one failure, the settle timer restarted where the line is still UP, the pass
ended to ARMED. -/
def State.timeOutDrain (s : State) : State := (((s.raise .drainTimeout).linkFailure).restartSettle).leaveRunning

/-- DRAIN_TIMEOUT (R167). -/
def execDrainTimeout (q : Nat) (s : State) : Host.Outcome State Fault Refusal :=
  .next (if s.drain.state = .running ∧ s.awaitsAck q then s.timeOutDrain.settle else s)

/-! ### QUIET_WAIT_LIMIT_EXPIRY -/

/-- The waiting command reaches its limit (R178): it is answered QUIET-TIMEOUT and not carried out, and its hold ends. -/
def State.timeOutQuiet (s : State) : State :=
  State.raise (s.mapJobs (fun j => if j.hold?.isSome then { j with status := .quietTimeout, results := .bytes [], role := .late } else j))
    .quietTimeout

/-- QUIET_WAIT_LIMIT_EXPIRY (R178). -/
def execQuietWaitLimitExpiry (s : State) : Host.Outcome State Fault Refusal :=
  .next (if s.mgmt.jobs.any (fun j => j.hold?.isSome) then s.timeOutQuiet.settle else s)

end Sys2Proof.Machine
end

