-- ==== Sys2Proof/Machine/StoreWrites.lean ====
section
/-! DEFINITION. The ends of Key Store writes: CHECKPOINT_WRITE_COMPLETE and CHECKPOINT_WRITE_FAIL (R52, R53, R60, R76, R185),
SECTOR_WRITE_COMPLETE and SECTOR_WRITE_FAIL (R68, R69, R72, R73, R75, R185, R193). An end with no such write in flight finds nothing
(log 10). -/

namespace Sys2Proof.Machine

/-! ### Sector 3 -/

/-- The commands a sector 3 write carried end with it (R68). -/
def State.end3 (s : State) : State :=
  (State.mapJobs { s with counters := { s.counters with inFlight := none } } (fun j => { j with s3 := j.s3.ended })).kick3

/-- The start-up raise's write has ended (R189). -/
def State.endRaise (s : State) : State :=
  match s.startup with
  | .scanning _ scanEnded => { s with startup := .scanning true scanEnded }
  | _ => s

/-- A completed raise (R52): k takes the target, the flag and the mark clear. The target is the one the write recorded: an entry's flag
stays set, with its target, from the request to the end of the write that carries it (R50, R51). -/
def State.raiseDone (s : State) (p : SlotIx × TillIx) : State :=
  let e := s.ctr p.1 p.2
  s.setCtr p.1 p.2 { e with k := e.raise.getD e.k, raise := none, failed := false }

/-- The raises of a slot that are still pending end without a write: they leave the pending set, and an ENABLE-TILL whose retry is among
them waits for no write any more (DESIGN CHOICE, log 52). -/
def State.endPending (s : State) (k : SlotIx) : State :=
  let ended : List TillIx := (s.counters.pending.filter (fun p => p.1 == k)).map (·.2)
  State.mapJobs { s with counters := { s.counters with pending := s.counters.pending.filter (fun p => p.1 != k) } }
    (fun j => if j.s3 == .queued && ended.any (fun i => j.cmd == some (.enableTill i.val)) then { j with s3 := .no } else j)

/-- A completed activation's sector 3 write (R60, R76): the column takes its fresh values, the busy mark clears, KEY-ACTIVATED. A raise
requested while this write was in flight loses its flag with the column, and so has ended (DESIGN CHOICE, log 52). -/
def State.activationDone (s : State) (k : SlotIx) : State :=
  let s := s.endPending k
  let s := { s with counters := { s.counters with entries := s.counters.entries.set k (Vector.replicate 128 freshEntry) } }
  (s.setSlot k { s.slot k with busy := false }).raise .keyActivated (slot := some k)

/-- A sector 3 write completes (R52, R60, R76). One that DECOMMISSION has passed by, and its erase, change no entry (R185). -/
def State.completeWrite3 (s : State) (w : Write3) : State :=
  let s := { s with store := { s.store with sec3 := if w.erase then .blank else .good w.contents } }
  if w.void ∨ w.erase then s else w.activations.foldl State.activationDone (w.raises.foldl State.raiseDone s)

/-- CHECKPOINT_WRITE_COMPLETE (R52). -/
def execCheckpointWriteComplete (s : State) : Host.Outcome State Fault Refusal :=
  .next
    (match s.counters.inFlight with
    | none => s
    | some w => (s.completeWrite3 w).endRaise.end3.settle)

/-- A failed raise (R53): the flag clears, the entry takes a failure mark and keeps its checkpoint. -/
def State.raiseFailed (s : State) (p : SlotIx × TillIx) : State := s.setCtr p.1 p.2 { s.ctr p.1 p.2 with raise := none, failed := true }

/-- A failed activation's sector 3 write (R60, R76): the raises it had replaced fail with it (a raise requested since waits for the next
write), every other entry keeps its values, the busy mark clears. -/
def State.activationFailed (s : State) (k : SlotIx) : State :=
  let column := Vector.ofFn (fun i : TillIx =>
    let e := s.ctr k i
    if e.raise.isSome && !s.counters.pending.contains (k, i) then { e with raise := none, failed := true } else e)
  let s := { s with counters := { s.counters with entries := s.counters.entries.set k column } }
  s.setSlot k { s.slot k with busy := false }

/-- Lower slot, and within it lower till index (R53). -/
def pairBefore (p q : SlotIx × TillIx) : Bool := p.1 < q.1 || (p.1 == q.1 && p.2 < q.2)

/-- The lower of two pairs (R53). -/
def lowerPair (best : Option (SlotIx × TillIx)) (p : SlotIx × TillIx) : Option (SlotIx × TillIx) :=
  match best with
  | none => some p
  | some q => if pairBefore p q then some p else some q

/-- What CHECKPOINT-FAIL names (R53): the lowest pair among the carried raises. For a write that carried activations alone, the lowest of
their slots and no till (DESIGN CHOICE, log 28). -/
def Write3.named (w : Write3) : Option SlotIx × Option TillIx :=
  match w.raises.foldl lowerPair none with
  | some p => (some p.1, some p.2)
  | none => (((w.activations.map (fun k => (k, (0 : TillIx)))).foldl lowerPair none).map (·.1), none)

/-- The tills whose queue a failed write's marks bar: those whose current counter entry it marked, in order of till index (R112). -/
def State.refuseHalted (s : State) : State := allTills.foldl (fun s i => if s.entryState i = .halted then s.refuseIfBarred i else s) s

/-- A sector 3 write fails (R53, R60, R185; log 38): NV-WRITE-FAIL for DECOMMISSION's erase, CHECKPOINT-FAIL once otherwise; marks,
HALTED tills' queues refused, and containment. -/
def State.failWrite3 (s : State) (w : Write3) : State :=
  if w.erase then (s.raise .nvWriteFail (location := some (.sector 3))).contain
  else
    let s := s.raise .checkpointFail (till := w.named.2) (slot := w.named.1)
    let s := if w.void then s else (w.activations.foldl State.activationFailed (w.raises.foldl State.raiseFailed s)).refuseHalted
    s.contain

/-- CHECKPOINT_WRITE_FAIL (R53). -/
def execCheckpointWriteFail (s : State) : Host.Outcome State Fault Refusal :=
  .next
    (match s.counters.inFlight with
    | none => s
    | some w => (s.failWrite3 w).endRaise.end3.settle)

/-! ### Sector 1 -/

/-- The sector 1 write in flight ends (R68): the commands it carried end with it, and a wanted write begins. -/
def State.end1 (s : State) : State :=
  (State.mapJobs { s with writer1 := { s.writer1 with inFlight := none } } (fun j => { j with s1 := j.s1.ended })).kick1

/-- A sector's contents when a write of it completes: blank for an erase (R68, R185). -/
def writtenSector {α : Type} : Option α → Sector α
  | none => .blank
  | some c => .good c

/-! ### Sector 2 -/

/-- The sector 2 write in flight ends (R68). -/
def State.end2 (s : State) : State :=
  (State.mapJobs { s with writer2 := { s.writer2 with inFlight := none } } (fun j => { j with s2 := j.s2.ended })).kick2

/-- Some Outstanding entry names a slot and a generation (R65, R75). -/
def State.named (s : State) (k : SlotIx) (gen : Nat) : Bool := s.outstanding.any (fun e => e.slot == k && e.gen == gen)

/-- The switch of an activation (R75): the outgoing record becomes previous when an Outstanding entry names it, the staged record becomes
current, the floor takes its generation, and the slot is ACTIVE, or FAULTED still where R84 has faulted it meanwhile (R64; log 53). -/
def State.switched (s : State) (k : SlotIx) : KeySlot :=
  let x := s.slot k
  { x with
    previous := x.current.filter (fun r => s.named k r.gen), current := x.staged, staged := none, state := x.state.switched,
    floor := (x.staged.map (·.gen)).getD x.floor }

/-- The activation requests the sector 3 write of its fresh column (R60, R75): the slot's raises still pending are replaced by it. -/
def State.requestColumn (s : State) (k : SlotIx) : State :=
  let s := s.mapJobs (fun j => if j.cmd = some (.activateKey k.val) ∧ j.isWaiting then { j with s3 := .queued } else j)
  State.kick3
    { s with counters :=
      { s.counters with pending := s.counters.pending.filter (fun p => p.1 != k), activations := s.counters.activations ++ [k] } }

/-- An addition takes effect when its write completes (R72, R73, R75). One of a write that DECOMMISSION has passed by is not installed
(R185). -/
def State.addition (void : Bool) (s : State) : KeyAddition → State
  | .load k r =>
    let s := if void then s else s.setSlot k { s.slot k with staged := some r, busy := false }
    s.raise .keyLoaded (slot := some k)
  | .loadFp r =>
    let s := if void then s else { s with keys := { s.keys with fp := some r, fpFloor := r.gen } }
    s.raise .keyLoaded
  | .activate k => if void then s else (s.setSlot k (s.switched k)).requestColumn k

/-- DECOMMISSION's erase of sector 2 has completed: the erase of sector 3 is requested (R185). -/
def State.requestErase3 (s : State) : State :=
  let s := s.mapJobs (fun j => if j.isWaiting then { j with s3 := .queued } else j)
  State.kick3 { s with counters := { s.counters with eraseWanted := true } }

/-- The addition of a failed write is not made (R72, R73, R75): the busy mark clears. -/
def State.additionFails (s : State) : KeyAddition → State
  | .load k _ => s.setSlot k { s.slot k with busy := false }
  | .loadFp _ => s
  | .activate k => s.setSlot k { s.slot k with busy := false }

/-- The additions of a write end without being made: those of one that fails, and those DECOMMISSION's erase carries (R185, log 37). What a
write that DECOMMISSION has passed by carried has no busy mark left to clear (R184). -/
def State.dropAdditions (s : State) (w : Write2) : State := if w.void then s else w.additions.foldl State.additionFails s

/-- A sector 2 write completes (R68, R72, R73, R75, R185, R193). DECOMMISSION's erase ends what it carries without making it: the sector is
blank, and the busy marks clear (R72). -/
def State.completeWrite2 (s : State) (w : Write2) : State :=
  let s := { s with store := { s.store with sec2 := writtenSector w.contents } }
  let s := if w.contents.isNone then s.dropAdditions w else w.additions.foldl (State.addition w.void) s
  if w.thenErase3 then s.requestErase3 else s

/-- The slot NV-WRITE-FAIL names (R69): that of a write that carried an activation or a LOAD-KEY for one slot; none when it carried more
(DESIGN CHOICE, log 55). -/
def Write2.slot? (w : Write2) : Option SlotIx :=
  match w.additions.filterMap KeyAddition.slot? with
  | [k] => some k
  | _ => none

/-- A sector 2 write fails (R69, R193): NV-WRITE-FAIL, its additions not made, containment. -/
def State.failWrite2 (s : State) (w : Write2) : State :=
  ((s.dropAdditions w).raise .nvWriteFail (slot := w.slot?) (location := some (.sector 2))).contain

/-- SECTOR_WRITE_COMPLETE (R68). -/
def execSectorWriteComplete (x : WSector) (s : State) : Host.Outcome State Fault Refusal :=
  .next
    (match x with
    | .settings =>
      match s.writer1.inFlight with
      | none => s
      | some c => (State.end1 { s with store := { s.store with sec1 := writtenSector c } }).settle
    | .keys =>
      match s.writer2.inFlight with
      | none => s
      | some w => (s.completeWrite2 w).end2.settle)

/-- SECTOR_WRITE_FAIL (R69). A failed zeroisation erase is repeated at once (R193, log 34). -/
def execSectorWriteFail (x : WSector) (s : State) : Host.Outcome State Fault Refusal :=
  .next
    (match x with
    | .settings =>
      match s.writer1.inFlight with
      | none => s
      | some _ => ((s.raise .nvWriteFail (location := some (.sector 1))).contain).end1.settle
    | .keys =>
      match s.writer2.inFlight with
      | none => s
      | some w => if w.zeroise then (s.failWrite2 w).settle else (s.failWrite2 w).end2.settle)

end Sys2Proof.Machine
end

