-- ==== Sys2Proof/Machine/HoldingRows.lean ====
section
/-! DEFINITION. The ends of Holding Store operations and of a format: RECORD_WRITE_COMPLETE and RECORD_WRITE_FAIL (R105, R130, R157, R158),
RECORD_FREE_COMPLETE and RECORD_FREE_FAIL (R100, R159, R170), FORMAT_END (R162). An end with no such operation in flight finds nothing
(log 10). -/

namespace Sys2Proof.Machine

/-- The till's stood in count advances (R46). -/
def State.countStoodIn (s : State) (i : TillIx) : State := s.setTill i { s.till i with stoodIn := saturate (s.till i).stoodIn }

/-- A completed record write in the non-volatile store (R157): the record with its commit mark, and the header, written afresh with the
values in force. -/
def HoldingStore.commit (h : HoldingStore) (slot : Nat) (r : HeldRecord) : HoldingStore :=
  { h with
    nv := putSlot { slot := slot, contents := some r, commit := some r.head.seq, headPasses := true } h.nv
    header := { passes := true, last := r.head.seq, bad := h.bad }
    last := r.head.seq }

/-- A record write completes (R105, R130, R157): the record is HELD, the till's stood in count advances, the requester answers HELD. -/
def State.writeDone (s : State) (slot : Nat) (by_ : Requester) (r : HeldRecord) : State :=
  let s := { s with holding := (s.holding.commit slot r).mapLine slot (fun l => { l with held := true }) }
  let s := s.countStoodIn r.head.till
  match by_ with
  | .ctx i => s.endHolding i .held
  | .matcher => s.answerNote r.head.seq .held
  | .drain => s
  | .nobody => s

/-- RECORD_WRITE_COMPLETE (R157). -/
def execRecordWriteComplete (s : State) : Host.Outcome State Fault Refusal :=
  .next
    (match s.opInFlight with
    | some (.write slot by_ r) => ((s.endOp.writeDone slot by_ r).afterOp).settle
    | some (.free _ _) => s
    | none => s)

/-- A slot made BAD (R158): off the index, on the bad-slot list of the store header. A header that fails its check goes on failing (DESIGN
CHOICE, log 64). -/
def HoldingStore.makeBad (h : HoldingStore) (slot : Nat) (left : Option NvSlot) : HoldingStore :=
  let h := ((h.dropLine slot).eraseSlot slot).leave left
  { h with
    bad := h.bad ++ [slot]
    header := { h.header with bad := h.header.bad ++ [slot] } }

/-- A record write fails (R105, R130, R158): the slot is BAD, NV-WRITE-FAIL, the charge released, the requester told; a context answers
STORE-FAULT under LENIENT and is abandoned by the LOCKDOWN entry under STRICT, a hold note answers under either. -/
def State.writeFailed (s : State) (slot : Nat) (by_ : Requester) (r : HeldRecord) : State :=
  let n := s.takeFree
  let s : State := { n.2 with holding := n.2.holding.makeBad slot (failedSlot slot r n.1) }
  let s : State := (s.raise .nvWriteFail (location := some (.holding slot))).release r.head
  let s :=
    match by_ with
    | .ctx i => if s.settings.store.policy = Containment.lenient then s.endHolding i (.declined .storeFault) else s
    | .matcher => s.answerNote r.head.seq (.declined .storeFault)
    | .drain => s
    | .nobody => s
  s.contain

/-- RECORD_WRITE_FAIL (R158). -/
def execRecordWriteFail (s : State) : Host.Outcome State Fault Refusal :=
  .next
    (match s.opInFlight with
    | some (.write slot by_ r) => ((s.endOp.writeFailed slot by_ r).afterOp).settle
    | some (.free _ _) => s
    | none => s)

/-- A free completes (R100, R159, R170): the slot is FREE, the charge released; a context answers VOIDED-LOCAL, the Drain Controller counts
the record; the drain is checked for completion. -/
def State.freeDone (s : State) (slot : Nat) (by_ : Requester) : State :=
  match s.holding.lines.find? (fun l => l.slot == slot) with
  | none => s
  | some l =>
    let s := State.release { s with holding := (s.holding.dropLine slot).eraseSlot slot } l.head
    let s :=
      match by_ with
      | .ctx i => s.endHolding i .voidedLocal
      | .matcher => s
      | .drain => { s with drain := { s.drain with tally := s.drain.tally.add l } }
      | .nobody => s
    s.checkDrain

/-- RECORD_FREE_COMPLETE (R159). -/
def execRecordFreeComplete (s : State) : Host.Outcome State Fault Refusal :=
  .next
    (match s.opInFlight with
    | some (.free slot by_) => ((s.endOp.freeDone slot by_).afterOp).settle
    | some (.write _ _ _) => s
    | none => s)

/-- A free fails (R100, R159; log 35): NV-WRITE-FAIL, the record stays HELD with its charge and is taken for freeing no more, a context
answers REFUSED / BUSY; containment. The slot keeps its record and commit mark (DESIGN CHOICE, log 59). -/
def State.freeFailed (s : State) (slot : Nat) (by_ : Requester) : State :=
  let s := { s with holding := s.holding.mapLine slot (fun l => { l with freeing := false }) }
  let s := s.raise .nvWriteFail (location := some (.holding slot))
  let s :=
    match by_ with
    | .ctx i => s.endHolding i (.refused .busy)
    | .matcher => s
    | .drain => s
    | .nobody => s
  (s.checkDrain).contain

/-- RECORD_FREE_FAIL (R159). -/
def execRecordFreeFail (s : State) : Host.Outcome State Fault Refusal :=
  .next
    (match s.opInFlight with
    | some (.free slot by_) => ((s.endOp.freeFailed slot by_).afterOp).settle
    | some (.write _ _ _) => s
    | none => s)

/-- The format ends (R153, R162, R163): every slot FREE, the totals 0, the Drain Controller at its values after format. A free asked for
while the format ran is dropped with its record (DESIGN CHOICE, log 60). -/
def State.formatDone (s : State) : State :=
  State.mapJobs
    { (s.leaveQueue .drain) with holding := formattedStore, standIn := emptyStandIn, drain := resetDrain }
    (fun j => { j with format := false })

/-- FORMAT_END (R162): the end of the format DECOMMISSION began; that of FULL-ERASE is within its own sequence (R190). -/
def execFormatEnd (s : State) : Host.Outcome State Fault Refusal :=
  .next (if s.holding.format = .running ∧ !s.erasing then s.formatDone.settle else s)

end Sys2Proof.Machine
end

