-- ==== Sys2Proof/Machine/Faults.lean ====
section
/-! DEFINITION. The tamper input (R189, R193): TAMPER_ASSERT and TAMPER_DEASSERT. -/

namespace Sys2Proof.Machine

/-- TAMPER_ASSERT (R193). While the part is held in reset the input is not watched (R188); it is read at the end of start-up (R189). -/
def execTamperAssert (s : State) : Host.Outcome State Fault Refusal :=
  .next
    (let s := { s with tamperIn := true }
    if s.startup = .held then s else s.tamper.settle)

/-- TAMPER_DEASSERT (R193): no state but the input itself changes. -/
def execTamperDeassert (s : State) : Host.Outcome State Fault Refusal := .next { s with tamperIn := false }

end Sys2Proof.Machine
end

