-- ==== Sys2Proof/Machine/Management.lean ====
section
/-! DEFINITION. The Management Unit takes a frame (MGMT_FRAME_TAKE: R14, R172 to R176), and the reading commands (R181): READ_STATUS,
READ_TILL, READ_COUNTERS, READ_EVENTS, READ_DRAIN_SUMMARY. -/

namespace Sys2Proof.Machine

/-! ### MGMT_FRAME_TAKE -/

/-- A frame that is not authentic, or taken in FACTORY, is dropped without a response (R172, R173). -/
def State.dropCommand (s : State) : State := s.raise .mgmtAuthFail

/-- A command answered STALE (R173): no number is accepted, nothing is written, nothing else changes. -/
def State.answerStale (s : State) (e : EthFrame) (number code : Nat) : State :=
  let s := s.raise .stale
  s.respond { frame := s.responseFrame e.src e.tags.head? number code .stale [], keepsUnit := true, isReset := false }

/-- An accepted command that its own row does not carry out: FORMAT or NOT-READY, answered when the write of its number has ended (R173,
R174, R176). -/
def State.answerUncarried (s : State) (e : EthFrame) (number code : Nat) (status : Status) : State :=
  (s.addJob
    { cmd := none, number := number, code := code, src := e.src, vlan := e.tags.head?, status := status, results := .bytes [],
      s1 := .queued, s2 := .no, s3 := .no, format := false, role := .current }).request1

/-- A command is accepted (R173, R174): the last accepted command number takes its number; then the format and the operating state are
checked; a command that passes is taken, and its own row carries it out. -/
def State.acceptCommand (s : State) (e : EthFrame) (number code : Nat) (operands : Bytes) : State :=
  let s := { s with mgmt := { s.mgmt with last := number } }
  match decodeCommand code operands with
  | none => (s.raise .mgmtFormat).answerUncarried e number code .format
  | some cmd =>
    if s.opState = .starting ∧ code ≠ 1 then s.answerUncarried e number code .notReady
    else
      { s with mgmt := { s.mgmt with taken := some { cmd := cmd, number := number, code := code, src := e.src, vlan := e.tags.head? } } }

/-- The Unit takes the head frame of its arrival list (R172, R173). -/
def State.takeFrame (s : State) (f : Bytes) : State :=
  let e := readEth f
  if s.opState = .factory then s.dropCommand
  else
    match readCommand s.mgmtKey e.payload with
    | none => s.dropCommand
    | some (number, code, operands) =>
      if number ≤ s.mgmt.last then s.answerStale e number code else s.acceptCommand e number code operands

/-- MGMT_FRAME_TAKE (R173): taken while the Unit carries out no command and its arrival list holds a frame (R172, R175). -/
def execMgmtFrameTake (s : State) : Host.Outcome State Fault Refusal :=
  .next
    (match s.mgmt.arrivals with
    | [] => s
    | f :: rest => if s.unitBusy then s else (State.takeFrame { s with mgmt := { s.mgmt with arrivals := rest } } f).settle)

/-! ### Reading commands (R181) -/

/-- READ_STATUS (R181). -/
def execReadStatus (s : State) : Host.Outcome State Fault Refusal := .next (s.carry .readStatus (fun t s => s.answer t .ok .status))

/-- READ_TILL (R181). -/
def execReadTill (index : Nat) (s : State) : Host.Outcome State Fault Refusal :=
  .next
    (s.carry (.readTill index) (fun t s =>
      match tillOf index with
      | none => s.refuse t .range
      | some i => s.answer t .ok (.till i)))

/-- READ_COUNTERS (R181): RANGE when the number of codes is outside 1 to 64. -/
def execReadCounters (first count : Nat) (s : State) : Host.Outcome State Fault Refusal :=
  .next
    (s.carry (.readCounters first count) (fun t s =>
      if 1 ≤ count ∧ count ≤ 64 then s.answer t .ok (.counters first count) else s.refuse t .range))

/-- READ_EVENTS (R181, R195): the results are built, then the named classes are cleared, in one step. -/
def execReadEvents (clear : BitVec 8) (s : State) : Host.Outcome State Fault Refusal :=
  .next
    (s.carry (.readEvents clear) (fun t s =>
      State.answer { s with events := s.events.clear clear } t .ok (.bytes s.eventBytes)))

/-- READ_DRAIN_SUMMARY (R170, R181): the summary is reported, then its unread mark is cleared. -/
def execReadDrainSummary (s : State) : Host.Outcome State Fault Refusal :=
  .next
    (s.carry .readDrainSummary (fun t s =>
      State.answer
        { s with drain := { s.drain with summary := s.drain.summary.map (fun x : DrainSummary => { x with unread := false }) } } t .ok
        (.bytes (summaryBytes s.drain.summary))))

end Sys2Proof.Machine
end

