-- ==== Sys2Proof/Machine/Settings.lean ====
section
/-! DEFINITION. The commands that change tills and settings: WRITE_TILL (R40 to R43, R56, R57, R112), ENABLE_TILL (R44), DISABLE_TILL
(R45), WRITE_PROFILE (R88), WRITE_FIELD_MAP (R91), SET_LIMITS (R151), SET_LINK (R138), SET_STORE (R182). -/

namespace Sys2Proof.Machine

/-! ### Tills -/

/-- The lowest index of another entry that is not VACANT with the same Ethernet address or till number (check 3 of R40). -/
def State.conflict (s : State) (i : TillIx) (mac : Mac) (number : Nat) : Option TillIx :=
  allTills.find? (fun j =>
    j != i && (match (s.till j).binding with | none => false | some b => b.mac == mac || b.number == number))

/-- The Ethernet address can be a till's (check 2 of R40). -/
def State.macFits (s : State) (mac : Mac) : Bool := mac != 0 && !isGroup mac && (s.identity.map (·.mac)) != some mac

/-- A context's wrap of an index at which another till is created (R41, log 19). -/
def Ctx.leftBehind (i : TillIx) (c : Ctx) : Ctx :=
  { c with wrap := c.wrap.map (fun w => if w.till = i then { w with formerTill := true } else w) }

/-- A new till at a VACANT index (R41): DISABLED, its counts 0, its wrap in flight flag clear. -/
def State.createTill (s : State) (i : TillIx) (b : Binding) : State :=
  State.setTill { s with ctxs := s.ctxs.map (Ctx.leftBehind i) } i { vacantTill with binding := some b }

/-- The tail of a queue of three is refused BUSY (R57). -/
def State.displaceTail (s : State) (i : TillIx) : State :=
  match (s.till i).queue with
  | a :: b :: c :: _ => (s.setTill i { s.till i with queue := [a, b] }).replyTo i c (.refused .busy)
  | _ => s

/-- A wrap's message returns to the head of its till's queue (R57), unless the same command bars the till, whose queue is then refused
(R112). -/
def State.returnMessage (s : State) (i : TillIx) (m : TillMsg) : State :=
  let s := s.setTill i { s.till i with queue := m :: (s.till i).queue }
  if (s.completionRefusal i).isSome then s else s.displaceTail i

/-- An entry that is not VACANT is rewritten (R42): a change of address or number discards the record, one of address, number or slot loses
the reservation of a wrap in flight. A till that stands barred after the rewriting has its queue refused, the returned message with it, also
where it was barred before (DESIGN CHOICE, log 61). -/
def State.rewriteTill (s : State) (i : TillIx) (old new : Binding) : State :=
  let named := old.mac ≠ new.mac ∨ old.number ≠ new.number
  let s := s.setTill i
    { s.till i with binding := some new, record := if named then none else (s.till i).record }
  let s :=
    if named ∨ old.slot ≠ new.slot then
      let r := s.loseReservation i
      match r.2 with
      | none => r.1
      | some m => r.1.returnMessage i m
    else s
  s.refuseIfBarred i

/-- WRITE-TILL that has passed its checks (R41 to R43). -/
def State.writeEntry (s : State) (i : TillIx) (mac : Mac) (number : Nat) (p : ProfIx) (k : SlotIx) : State :=
  match (s.till i).binding with
  | none =>
    if number = 0 then s else s.createTill i { enabled := false, mac := mac, number := number, profile := p, slot := k }
  | some old =>
    if number = 0 then s.emptyTill i
    else s.rewriteTill i old { enabled := old.enabled, mac := mac, number := number, profile := p, slot := k }

/-- WRITE_TILL (R40 to R43). -/
def execWriteTill (index : Nat) (mac : Mac) (number profile slot : Nat) (s : State) : Host.Outcome State Fault Refusal :=
  .next
    (s.carry (.writeTill index mac number profile slot) (fun t s =>
      match tillOf index, profOf profile, slotOf slot with
      | some i, some p, some k =>
        if 9999 < number then s.refuse t .range
        else if number ≠ 0 ∧ !s.macFits mac then s.refuse t .range
        else
          match (if number = 0 then none else s.conflict i mac number) with
          | some j => s.answer t .addressInUse (.bytes (be 1 j.val))
          | none => ((s.writeEntry i mac number p k).answer t .ok (.till i)).settle
      | _, _, _ => s.refuse t .range))

/-- The sector 3 write in flight carries the raise of a pair, or the activation that replaced it (R51, R60). -/
def State.raiseCarried (s : State) (k : SlotIx) (i : TillIx) : Bool :=
  match s.counters.inFlight with
  | none => false
  | some w => !s.counters.pending.contains (k, i) && (w.raises.contains (k, i) || w.activations.contains k)

/-- The answer of an ENABLE-TILL that retries the checkpoint waits for the write that carries the raise (R44, R60). -/
def State.retryRaise (s : State) (t : Taken) (k : SlotIx) (i : TillIx) : State :=
  let s := if (s.ctr k i).raise.isNone then s.requestRaise k i else s
  let wait : Wait := if s.raiseCarried k i then .inFlight else .queued
  ((s.addJob { t.job .ok (.till i) with s3 := wait }).request1).kick3

/-- ENABLE_TILL (R44). -/
def execEnableTill (index : Nat) (s : State) : Host.Outcome State Fault Refusal :=
  .next
    (s.carry (.enableTill index) (fun t s =>
      match tillOf index with
      | none => s.refuse t .range
      | some i =>
        match (s.till i).binding with
        | none => s.refuse t .range
        | some b =>
          let s := s.setTill i { s.till i with binding := some { b with enabled := true } }
          (if (s.ctr b.slot i).failed then s.retryRaise t b.slot i else s.answer t .ok (.till i)).settle))

/-- DISABLE-TILL for an entry that is not VACANT (R45): DISABLED, a wrap in flight loses its reservation, its message and every pending
message are refused TILL-DISABLED. -/
def State.disableEntry (s : State) (i : TillIx) (b : Binding) : State :=
  let s := s.setTill i { s.till i with binding := some { b with enabled := false } }
  let r := s.loseReservation i
  let s := match r.2 with
    | none => r.1
    | some m => r.1.replyTo i m (.refused .tillDisabled)
  s.refuseQueue i (.refused .tillDisabled)

/-- DISABLE_TILL (R45). -/
def execDisableTill (index : Nat) (s : State) : Host.Outcome State Fault Refusal :=
  .next
    (s.carry (.disableTill index) (fun t s =>
      match tillOf index with
      | none => s.refuse t .range
      | some i =>
        match (s.till i).binding with
        | none => s.refuse t .range
        | some b => ((s.disableEntry i b).answer t .ok (.till i)).settle))

/-! ### Profiles and Field Maps -/

/-- A profile replaced. -/
def State.setProfile (s : State) (i : ProfIx) (p : Profile) : State :=
  { s with settings := { s.settings with profiles := s.settings.profiles.set i p } }

/-- CLAMPED when a clamped operand differs from the one carried, OK otherwise (R15, R177). -/
def clampStatus (same : Bool) : Status := if same then .ok else .clamped

/-- The written fields of a profile, the reply window clamped, its limits kept (R88); none when check 1 or 2 fails. -/
def writtenProfile (o : ProfileOperands) (old : Profile) : Option Profile :=
  match classOf o.cls, policyOf o.policy, refundsOf o.refunds, defaultOf o.dflt with
  | some c, some p, some r, some d =>
    if 50 ≤ o.risk ∧ o.risk ≤ 400 ∧ gatewayFits o.gateway then
      some { old with cls := c, policy := p, refundsAllowed := r, risk := o.risk, window := clampTo 2 60 o.window, gateway := o.gateway,
                      dflt := d }
    else none
  | _, _, _, _ => none

/-- WRITE_PROFILE (R88). -/
def execWriteProfile (o : ProfileOperands) (s : State) : Host.Outcome State Fault Refusal :=
  .next
    (s.carry (.writeProfile o) (fun t s =>
      match profOf o.index with
      | none => s.refuse t .range
      | some i =>
        match writtenProfile o (s.profile i) with
        | none => s.refuse t .range
        | some p =>
          if mapSafe (s.fieldMap i) p.dflt then
            (s.setProfile i p).answer t (clampStatus (p.window == o.window)) (.profile i)
          else s.refuse t .mapUnsafe))

/-- A Field Map replaced. -/
def State.setFieldMap (s : State) (i : ProfIx) (m : FieldMap) : State :=
  { s with settings := { s.settings with maps := s.settings.maps.set i m } }

/-- WRITE_FIELD_MAP (R91): of the carried rules the first `count` are read. -/
def execWriteFieldMap (index count : Nat) (rules : List (Nat × Nat)) (s : State) : Host.Outcome State Fault Refusal :=
  .next
    (s.carry (.writeFieldMap index count rules) (fun t s =>
      match profOf index, readRules (rules.take count) with
      | some i, some m =>
        if 16 < count then s.refuse t .range
        else if !rulesFit m then s.refuse t .range
        else if mapSafe m (s.profile i).dflt then (s.setFieldMap i m).answer t .ok (.map i)
        else s.refuse t .mapUnsafe
      | _, _ => s.refuse t .range))

/-! ### Limits -/

/-- Some total stands above the new limits of a profile (R151, R154, log 18): a bound till's total above Lt, or a card entry above Nc or
Lc. -/
def State.overProfile (s : State) (i : ProfIx) (lt nc lc : Nat) : Bool :=
  allTills.any (fun j => ((s.till j).binding.map (·.profile)) == some i && decide (lt < s.standIn.tillTotals[j]))
    || s.standIn.cards.any (fun c => decide (nc < c.count) || decide (lc < c.total))

/-- OVER-LIMIT-STANDING where a total stands above a new limit (R154). -/
def State.noteStanding (s : State) (above : Bool) : State := if above then s.raise .overLimitStanding else s

/-- SET_LIMITS (R151). With target 255 the L1 field carries Ls, and the other fields are not read (R180). -/
def execSetLimits (target l1 lt nc lc : Nat) (s : State) : Host.Outcome State Fault Refusal :=
  .next
    (s.carry (.setLimits target l1 lt nc lc) (fun t s =>
      if target = 255 then
        if Config.moneyMax < l1 then s.refuse t .range
        else
          (State.noteStanding { s with settings := { s.settings with storeLimit := l1 } } (decide (l1 < s.standIn.storeTotal))).answer t
            .ok (.limits none)
      else
        match profOf target with
        | none => s.refuse t .range
        | some i =>
          if Config.moneyMax < l1 ∨ Config.moneyMax < lt ∨ 255 < nc ∨ Config.moneyMax < lc then s.refuse t .range
          else
            ((s.setProfile i { s.profile i with l1 := l1, lt := lt, nc := nc, lc := lc }).noteStanding (s.overProfile i lt nc lc)).answer t
              .ok (.limits (some i))))

/-! ### Link parameters and store settings -/

/-- The link parameters brought into their ranges (R138). -/
def clampedLink (interval nDown nUp settle : Nat) : LinkParams :=
  { interval := clampTo 1 30 interval, nDown := clampTo 1 8 nDown, nUp := clampTo 1 16 nUp, settle := clampTo 0 60 settle }

/-- SET_LINK (R138). -/
def execSetLink (interval nDown nUp settle : Nat) (s : State) : Host.Outcome State Fault Refusal :=
  .next
    (s.carry (.setLink interval nDown nUp settle) (fun t s =>
      let x := clampedLink interval nDown nUp settle
      State.answer { s with settings := { s.settings with link := x } } t
        (clampStatus (x == { interval := interval, nDown := nDown, nUp := nUp, settle := settle })) .link))

/-- The store settings SET-STORE writes, timeouts clamped; none when an operand is refused (R88, R177, R182). -/
def writtenStore (o : StoreOperands) : Option StoreSettings :=
  match modeOf o.mode, containmentOf o.policy with
  | some mode, some policy =>
    if 1 ≤ o.window ∧ o.window ≤ 8 ∧ 1 ≤ o.share ∧ o.share ≤ 8 ∧ o.portCount ≤ 4 ∧ (o.ports.take o.portCount).all (· != 0)
        ∧ gatewayFits o.drainGw ∧ gatewayFits o.probeGw then
      some
        { mode := mode, window := o.window, ackTimeout := clampTo 2 60 o.ackTimeout, share := o.share, policy := policy,
          asmTimeout := clampTo 100 2000 o.asmTimeout, ports := o.ports.take o.portCount, ownIp := o.ownIp, drainGw := o.drainGw,
          probeGw := o.probeGw, enabled := o.classes }
    else none
  | _, _ => none

/-- The store settings replaced, with what the drain does about its gateway (R164, R168). -/
def State.setStore (s : State) (x : StoreSettings) : State :=
  let s := { s with settings := { s.settings with store := x } }
  if s.hasDrainGateway then s.tryRun else s.leaveRunning

/-- SET_STORE (R182). -/
def execSetStore (o : StoreOperands) (s : State) : Host.Outcome State Fault Refusal :=
  .next
    (s.carry (.setStore o) (fun t s =>
      match writtenStore o with
      | none => s.refuse t .range
      | some x =>
        ((s.setStore x).answer t (clampStatus (x.ackTimeout == o.ackTimeout && x.asmTimeout == o.asmTimeout)) .store).settle))

end Sys2Proof.Machine
end

