-- ==== Sys2Proof/Machine/Commands.lean ====
section
/-! DEFINITION. LOAD_KEY (R71 to R73), START_DRAIN and STOP_DRAIN (R163, R164, R168, R169), RELEASE_LOCKDOWN (R194), RESET (R183), and the
quiet-class commands as they are taken: ACTIVATE_KEY, ERASE_KEY, DECOMMISSION (R178, R183, R184). -/

namespace Sys2Proof.Machine

/-! ### LOAD_KEY -/

/-- The decrypted base key, when the verification block is the one the operands require (check 2 of R71). -/
def State.decryptKey (s : State) (target ksid gen : Nat) (enc : BitVec 384) : Option Key :=
  let p := plainBlocks s.transportKey enc
  if p.2.2 = verificationBlock target ksid gen then some (p.1 ++ p.2.1 : BitVec 256) else none

/-- LOAD-KEY goes on (R72, R73): the sector 2 write carrying the record is requested, and the answer waits for it. -/
def State.loadRecord (s : State) (t : Taken) (target : Option SlotIx) (r : KeyRecord) : State :=
  let s := (s.addJob { t.job .ok (.loadKey r.checkValue target) with s2 := .queued }).request1
  match target with
  | some k => (s.setSlot k { s.slot k with busy := true }).request2 [.load k r]
  | none => s.request2 [.loadFp r]

/-- The target of LOAD-KEY (R71): a slot, or none for the fingerprint key. -/
def targetOf (n : Nat) : Option (Option SlotIx) := if n = 255 then some none else (slotOf n).map some

/-- The generation floor of a target (R64, R66). -/
def State.floorOf (s : State) : Option SlotIx → Nat
  | some k => (s.slot k).floor
  | none => s.keys.fpFloor

/-- LOAD_KEY (R71): the checks in their order. -/
def execLoadKey (target ksid gen : Nat) (enc : BitVec 384) (s : State) : Host.Outcome State Fault Refusal :=
  .next
    (s.carry (.loadKey target ksid gen enc) (fun t s =>
      match targetOf target with
      | none => s.refuse t .range
      | some x =>
        if gen < 1 ∨ 65535 < gen then s.refuse t .range
        else
          match s.decryptKey target ksid gen enc with
          | none => s.refuse t .range
          | some base =>
            if x = none ∧ s.holding.anyRecord then s.refuse t .holdingNotEmpty
            else if gen ≤ s.floorOf x then s.refuse t .generationOrder
            else if (x.map (fun k => (s.slot k).busy)).getD false then s.refuse t .busy
            else s.loadRecord t x (newRecord s.transportKey target ksid gen base)))

/-! ### The drain -/

/-- START-DRAIN's effect (R164): the suspended flag clears; in COMMAND mode an IDLE drain is armed while the part is SERVING and a record is
HELD (in AUTO mode the flag's clearing arms it, at the end of the step). -/
def State.startDrain (s : State) : State :=
  let s := { s with settings := { s.settings with suspended := false } }
  if s.settings.store.mode = .command ∧ s.opState = .serving ∧ s.drain.state = .idle ∧ s.anyHeld then s.armDrain else s

/-- START_DRAIN (R164, R169). -/
def execStartDrain (s : State) : Host.Outcome State Fault Refusal :=
  .next (s.carry .startDrain (fun t s => (s.startDrain.answer t .ok .drain).settle))

/-- STOP_DRAIN (R168). -/
def execStopDrain (s : State) : Host.Outcome State Fault Refusal :=
  .next
    (s.carry .stopDrain (fun t s =>
      (State.drainToIdle { s with settings := { s.settings with suspended := true } }).answer t .ok .drain))

/-! ### RELEASE_LOCKDOWN and RESET -/

/-- A zeroisation erase of sector 2 is in progress (R194). -/
def State.zeroising (s : State) : Bool := (s.writer2.inFlight.map (·.zeroise)).getD false

/-- RELEASE_LOCKDOWN (R194): nothing changes while the part is SERVING (R183). A release reports SERVING, whatever follows before its
response is built. -/
def execReleaseLockdown (s : State) : Host.Outcome State Fault Refusal :=
  .next
    (s.carry .releaseLockdown (fun t s =>
      if s.opState ≠ .lockdown then s.answer t .ok .opState
      else if s.tamperIn then s.refuse t .tamperAsserted
      else if s.zeroising then s.refuse t .busy
      else
        ((State.raise { s with opState := .serving } .lockdownReleased).answer t .ok (.bytes (be 1 OpState.serving.code))).settle))

/-- The waiting command ends without a response (R183). -/
def Job.stop (j : Job) : Job :=
  match j.role with
  | .waiting h _ => { j with role := .stopped h }
  | .current => j
  | .late => j
  | .stopped _ => j

/-- RESET (R183): a waiting command ends without a response, the Unit takes no further frame, and the reset follows the response. -/
def execReset (s : State) : Host.Outcome State Fault Refusal :=
  .next
    (s.carry .reset (fun t s =>
      (State.answer { s with mgmt := { s.mgmt with reset := .accepted, jobs := s.mgmt.jobs.map Job.stop } } t .ok
        (.bytes [])).settle))

/-! ### Quiet-class commands -/

/-- ACTIVATE_KEY (R74, R178): RANGE for a slot above 15; the wait otherwise, ended at once where the slot is quiet. -/
def execActivateKey (slot : Nat) (s : State) : Host.Outcome State Fault Refusal :=
  .next
    (s.carry (.activateKey slot) (fun t s =>
      match slotOf slot with
      | none => s.refuse t .range
      | some k => (s.beginWait t (.slot k)).settle))

/-- ERASE_KEY (R78, R178). -/
def execEraseKey (slot : Nat) (s : State) : Host.Outcome State Fault Refusal :=
  .next
    (s.carry (.eraseKey slot) (fun t s =>
      match slotOf slot with
      | none => s.refuse t .range
      | some k => (s.beginWait t (.slot k)).settle))

/-- DECOMMISSION (R178, R184): RANGE for a FORCE other than 0 or 1. -/
def execDecommission (force : Nat) (s : State) : Host.Outcome State Fault Refusal :=
  .next
    (s.carry (.decommission force) (fun t s =>
      if 1 < force then s.refuse t .range else (s.beginWait t .engine).settle))

end Sys2Proof.Machine
end

