-- ==== Sys2Proof/Machine/Dispatch.lean ====
section
/-! DEFINITION. The meaning of each command of the opcode table, one arm per constructor of Instr. -/

namespace Sys2Proof.Machine

/-- The effect of a command on everything but the queue of commands. -/
def exec (i : Instr) (s : State) : Host.Outcome State Fault Refusal :=
  match i with
  | .powerOn => Sys2Proof.Machine.execPowerOn s
  | .resetPinAssert => Sys2Proof.Machine.execResetPinAssert s
  | .resetPinRelease => Sys2Proof.Machine.execResetPinRelease s
  | .sectorReadsEnd bad0 bad1 bad2 bad3 => Sys2Proof.Machine.execSectorReadsEnd bad0 bad1 bad2 bad3 s
  | .holdingScanEnd headerBad badHeads badMessages => Sys2Proof.Machine.execHoldingScanEnd headerBad badHeads badMessages s
  | .startupEnd => Sys2Proof.Machine.execStartupEnd s
  | .rxFrame port frame => Sys2Proof.Machine.execRxFrame port frame s
  | .transmitStart port => Sys2Proof.Machine.execTransmitStart port s
  | .transmitEnd port => Sys2Proof.Machine.execTransmitEnd port s
  | .physicalLinkLost port => Sys2Proof.Machine.execPhysicalLinkLost port s
  | .physicalLinkRestored port => Sys2Proof.Machine.execPhysicalLinkRestored port s
  | .assemblyTimeout till => Sys2Proof.Machine.execAssemblyTimeout till s
  | .derivingKeys ctx => Sys2Proof.Machine.execDeriving ctx s
  | .wrapping ctx => Sys2Proof.Machine.execWrapping ctx s
  | .authenticating ctx => Sys2Proof.Machine.execAuthenticating ctx s
  | .deciding ctx => Sys2Proof.Machine.execDeciding ctx s
  | .replyWindowExpiry till reference => Sys2Proof.Machine.execReplyWindowExpiry till reference s
  | .probeTimerExpiry => Sys2Proof.Machine.execProbeTimerExpiry s
  | .probeDeadlineExpiry number => Sys2Proof.Machine.execProbeDeadlineExpiry number s
  | .settleTimerExpiry => Sys2Proof.Machine.execSettleTimerExpiry s
  | .drainTimeout sequence => Sys2Proof.Machine.execDrainTimeout sequence s
  | .quietWaitLimitExpiry => Sys2Proof.Machine.execQuietWaitLimitExpiry s
  | .checkpointWriteComplete => Sys2Proof.Machine.execCheckpointWriteComplete s
  | .checkpointWriteFail => Sys2Proof.Machine.execCheckpointWriteFail s
  | .sectorWriteComplete sector => Sys2Proof.Machine.execSectorWriteComplete sector s
  | .sectorWriteFail sector => Sys2Proof.Machine.execSectorWriteFail sector s
  | .recordWriteComplete => Sys2Proof.Machine.execRecordWriteComplete s
  | .recordWriteFail => Sys2Proof.Machine.execRecordWriteFail s
  | .recordFreeComplete => Sys2Proof.Machine.execRecordFreeComplete s
  | .recordFreeFail => Sys2Proof.Machine.execRecordFreeFail s
  | .formatEnd => Sys2Proof.Machine.execFormatEnd s
  | .tamperAssert => Sys2Proof.Machine.execTamperAssert s
  | .tamperDeassert => Sys2Proof.Machine.execTamperDeassert s
  | .mgmtFrameTake => Sys2Proof.Machine.execMgmtFrameTake s
  | .readStatus => Sys2Proof.Machine.execReadStatus s
  | .readTill index => Sys2Proof.Machine.execReadTill index s
  | .readCounters first count => Sys2Proof.Machine.execReadCounters first count s
  | .readEvents clear => Sys2Proof.Machine.execReadEvents clear s
  | .readDrainSummary => Sys2Proof.Machine.execReadDrainSummary s
  | .writeTill index mac number profile slot => Sys2Proof.Machine.execWriteTill index mac number profile slot s
  | .enableTill index => Sys2Proof.Machine.execEnableTill index s
  | .disableTill index => Sys2Proof.Machine.execDisableTill index s
  | .writeProfile ops => Sys2Proof.Machine.execWriteProfile ops s
  | .writeFieldMap index count rules => Sys2Proof.Machine.execWriteFieldMap index count rules s
  | .setLimits target l1 lt nc lc => Sys2Proof.Machine.execSetLimits target l1 lt nc lc s
  | .setLink interval nDown nUp settle => Sys2Proof.Machine.execSetLink interval nDown nUp settle s
  | .setStore ops => Sys2Proof.Machine.execSetStore ops s
  | .loadKey target ksid gen encrypted => Sys2Proof.Machine.execLoadKey target ksid gen encrypted s
  | .startDrain => Sys2Proof.Machine.execStartDrain s
  | .stopDrain => Sys2Proof.Machine.execStopDrain s
  | .releaseLockdown => Sys2Proof.Machine.execReleaseLockdown s
  | .reset => Sys2Proof.Machine.execReset s
  | .activateKey slot => Sys2Proof.Machine.execActivateKey slot s
  | .eraseKey slot => Sys2Proof.Machine.execEraseKey slot s
  | .decommission force => Sys2Proof.Machine.execDecommission force s
  | .writeIdentity serial mac etype mgmtKey transportKey => Sys2Proof.Machine.execWriteIdentity serial mac etype mgmtKey transportKey s
  | .closeFactory => Sys2Proof.Machine.execCloseFactory s
  | .fullErase => Sys2Proof.Machine.execFullErase s
  | .factoryWriteEnd ok0 ok1 ok2 ok3 => Sys2Proof.Machine.execFactoryWriteEnd ok0 ok1 ok2 ok3 s

end Sys2Proof.Machine
end

