-- ==== Sys2Proof/Machine/Step.lean ====
section
/-! DEFINITION. One step: the command at the front of the queue is carried out; on an empty queue the part idles while its clock goes on. -/

namespace Sys2Proof.Machine

/-- One step of the part. With no command waiting, the model's clock advances by a millisecond and nothing else changes (log 3). -/
def step (s : State) : Host.Outcome State Fault Refusal :=
  match s.pending with
  | [] => .next { s with now := s.now + 1 }
  | i :: rest => exec i { s with pending := rest }

/-- The state with the command a word spells put at the front of its queue. No word spells one (log 6). -/
def State.withFetchWord (s : State) (nbits w : Nat) : State :=
  match decodeTableWord nbits w with
  | none => s
  | some i => { s with pending := i :: s.pending }

end Sys2Proof.Machine
end

