-- ==== Sys2Proof/Safety.lean ====
section
/-! DEFINITION. What a sound state of the part is, in the terms the statements use: bounds of the Counter Table (R48), safe Field Maps (R92),
Wrap Contexts without stray keys (R93), queues within their depths (R18, R19, R28, R109, R172), Outstanding places and
cards within their numbers (R101, R122, R152), totals and card entries that are the sums of the records (R145), Till Entries that share
neither address nor number (R40), Outstanding pairs and sequences that no two share (R122, R156), and previous records that an entry needs
(R65). -/

namespace Sys2Proof.Machine

/-! ### The Counter Table (R48, R50) -/

/-- The next value never exceeds the checkpoint, the checkpoint never exceeds 1,048,576, and a raise in flight never lowers it (R48, R50). -/
def CounterEntry.ok (e : CounterEntry) : Prop :=
  e.c ≤ e.k ∧ e.k ≤ Config.spent ∧ ∀ t, e.raise = some t → e.k ≤ t ∧ t ≤ Config.spent

/-- Every checkpoint a sector holds is at most 1,048,576 (R48). -/
def sectorBounded (x : Sector3) : Prop := ∀ (k : SlotIx) (i : TillIx), (x[k])[i] ≤ Config.spent

/-- The Counter Table within its bounds, in sector 3 and in a write of it too (R48). -/
def State.countersBounded (s : State) : Prop :=
  (∀ k i, (s.ctr k i).ok) ∧ (∀ x, s.store.sec3 = .good x → sectorBounded x)
    ∧ ∀ w, s.counters.inFlight = some w → sectorBounded w.contents

/-! ### Field Maps (R92) -/

/-- Every profile's Field Map and default treatment are safe (R92). -/
def Settings.mapsSafe (x : Settings) : Prop := ∀ i : ProfIx, mapSafe x.maps[i] (x.profiles[i]).dflt = true

/-- Field Maps and default treatments are safe in the volatile settings, in sector 1, in a write of it, and in every context's copy (R92). -/
def State.mapsSafe (s : State) : Prop :=
  s.settings.mapsSafe ∧ (∀ c, s.store.sec1 = .good c → c.settings.mapsSafe)
    ∧ (∀ c, s.writer1.inFlight = some (some c) → c.settings.mapsSafe)
    ∧ ∀ i w, (s.ctx i).wrap = some w → mapSafe w.map w.profile.dflt = true

/-! ### Wrap Contexts (R93) -/

/-- A context holds nothing exactly while it is IDLE, its data key only in DERIVING, its authentication key only in DERIVING and WRAPPING
(R93). -/
def Ctx.clean (x : Ctx) : Prop :=
  (x.phase = .idle ↔ x.wrap = none)
    ∧ ∀ w, x.wrap = some w →
      (x.phase ≠ .derivingKeys → w.dataKey = none) ∧ (x.phase ≠ .derivingKeys → x.phase ≠ .wrapping → w.authKey = none)

/-- Every Wrap Context is clean. -/
def State.ctxsClean (s : State) : Prop := ∀ i, (s.ctx i).clean

/-! ### Queues and lists (R18, R19, R28, R109, R172) -/

/-- The queues and lists are within the depths the rules give them. -/
def State.withinDepths (s : State) : Prop :=
  (∀ i, (s.till i).queue.length ≤ Config.pendingDepth)
    ∧ (∀ i r, (s.till i).record = some r → r.items.length ≤ Config.itemBytesMax)
    ∧ (∀ p, (s.port p).priority.length ≤ Config.priorityDepth) ∧ (∀ p, (s.port p).bridge.length ≤ Config.bridgeDepth)
    ∧ s.mgmt.arrivals.length ≤ Config.arrivalDepth

/-! ### Places (R101, R122) and cards (R152) -/

/-- Filled and taken Outstanding places together are within 256 (R101, R122), and what keeps them so: a context holds a place only in
EMITTING, and an outcome in hand only in HOLDING; a context that waits for a place is in EMITTING without one, and waits once; one that waits
for the Uplink Priority Queue holds its place, and waits once (R19). -/
def State.placesSound (s : State) : Prop :=
  s.usedPlaces ≤ Config.outstandingPlaces
    ∧ (∀ i w, (s.ctx i).wrap = some w →
        (w.place = true → (s.ctx i).phase = .emitting) ∧ (w.inHand.isSome = true → (s.ctx i).phase = .holding))
    ∧ s.placeWait.Nodup
    ∧ (∀ i ∈ s.placeWait, (s.ctx i).phase = .emitting ∧ ∃ w, (s.ctx i).wrap = some w ∧ w.place = false)
    ∧ (∀ i w, (s.ctx i).wrap = some w → (s.waitOrder.filter (fun x => x.1 == .ctx i)).length ≤ (if w.place then 1 else 0))
    ∧ ∀ i, (s.ctx i).wrap = none → ∀ x ∈ s.waitOrder, x.1 ≠ .ctx i

/-- The Offline Card List is within the entries it can hold (R145, R152). -/
def State.cardsBounded (s : State) : Prop := s.standIn.cards.length ≤ Config.cardEntries

/-! ### Held records and totals (R145, R155, R157) -/

/-- The weighted amounts of records together. -/
def weightSum (l : List IndexLine) : Nat := (l.map (·.head.weight)).sum

/-- The store total and every till's total are the sums over the records in WRITING or HELD (R145). -/
def State.totalsMatch (s : State) : Prop :=
  s.standIn.storeTotal = weightSum s.holding.lines
    ∧ ∀ i : TillIx, s.standIn.tillTotals[i] = weightSum (s.holding.lines.filter (fun l => l.head.till == i))

/-- Every card entry's count, at least 1, and total are the number and the weighted amounts of the records in WRITING or HELD that carry its
fingerprint; no two entries share a fingerprint, and every fingerprint a record carries has its entry (R145, R152). -/
def State.cardsMatch (s : State) : Prop :=
  (s.standIn.cards.map (·.fp)).Nodup
    ∧ (∀ c ∈ s.standIn.cards, 0 < c.count ∧ c.count = (s.holding.lines.filter (fun l => l.head.fp == some c.fp)).length
        ∧ c.total = weightSum (s.holding.lines.filter (fun l => l.head.fp == some c.fp)))
    ∧ ∀ l ∈ s.holding.lines, ∀ f, l.head.fp = some f → ∃ c ∈ s.standIn.cards, c.fp = f

/-- The slot an operation works on. -/
def StoreOp.target : StoreOp → Nat
  | .write n _ _ => n
  | .free n _ => n

/-- The line an operation works on: WRITING with the record's head for a write, HELD and taken for freeing for a free (R157, R159). -/
def StoreOp.fits (o : StoreOp) (l : IndexLine) : Prop :=
  match o with
  | .write n _ r => l.slot = n ∧ l.held = false ∧ l.head = r.head
  | .free n _ => l.slot = n ∧ l.held = true ∧ l.freeing = true

/-- The scan has ended, so that the index answers for the records (R161, R189). -/
def Startup.scanned : Startup → Bool
  | .held => false
  | .reading => false
  | .scanning _ scanEnded => scanEnded
  | .over => true

/-- The Holding Store's volatile side is sound: one line a slot in slot order, every operation with its line, no claim left between steps,
nothing in the engine before start-up ends, nothing in the index before the scan ends (R155, R157, R160, R189). -/
def State.holdingSound (s : State) : Prop :=
  (s.holding.lines.map (·.slot)).Pairwise (· < ·) ∧ (s.holding.nv.map (·.slot)).Pairwise (· < ·) ∧ s.holding.claimed = []
    ∧ (s.holding.ops.map StoreOp.target).Nodup ∧ (∀ o ∈ s.holding.ops, ∃ l ∈ s.holding.lines, o.fits l)
    ∧ (s.startup ≠ .over → s.opState = .starting ∧ (∀ i, (s.ctx i).wrap = none) ∧ s.outstanding = [])
    ∧ (s.startup.scanned = false → s.holding.lines = [] ∧ s.holding.ops = [])

/-- The offline money is accounted for: the Holding Store is sound, and the totals and the Offline Card List match its records (R145). -/
def State.moneySound (s : State) : Prop := s.holdingSound ∧ s.totalsMatch ∧ s.cardsMatch

/-! ### Till Entries (R38, R40) -/

/-- Entries that are not VACANT have an individual address that is not all zeros and a number of 1 to 9,999 (R38, R40), and no two of them
share an address or a number (R40). -/
def bindingsSound (b : TillIx → Option Binding) : Prop :=
  (∀ i x, b i = some x → x.mac ≠ 0 ∧ isGroup x.mac = false ∧ 1 ≤ x.number ∧ x.number ≤ 9999)
    ∧ ∀ i j x y, b i = some x → b j = some y → i ≠ j → x.mac ≠ y.mac ∧ x.number ≠ y.number

/-- The Till Table's entries are sound, and so are those that sector 1 and a write of it hold (R40, R47). -/
def State.tillsSound (s : State) : Prop :=
  bindingsSound (fun i => (s.till i).binding) ∧ (∀ c, s.store.sec1 = .good c → bindingsSound (fun i => c.bindings[i]))
    ∧ ∀ c, s.writer1.inFlight = some (some c) → bindingsSound (fun i => c.bindings[i])

/-! ### Pairs and the previous record (R65, R110, R122) -/

/-- The reference of a till's wrap that has not reached its outcome (R56). -/
def Ctx.openReference (x : Ctx) (i : TillIx) : Option Nat :=
  x.wrap.bind (fun w => if w.till = i ∧ x.phase.unsettled then w.msg.map (·.reference) else none)

/-- The references of a till's pairs: of its Pending Queue, of its wraps that have not reached their outcome, of its Outstanding entries
(R110). -/
def State.references (s : State) (i : TillIx) : List Nat :=
  (s.till i).queue.map (·.reference) ++ allCtxs.filterMap (fun c => (s.ctx c).openReference i)
    ++ (s.outstanding.filter (fun e => e.till == i)).map (·.reference)

/-- No pair stands twice in the Pending Queues, the wraps under way and the Outstanding List (R122), and what keeps it so: the wraps that are
a present till's are of different tills, each with its till's wrap in flight flag set, and a wrap under way is one of them, of a till that is
not VACANT (R38, R41, R56). -/
def State.pairsSound (s : State) : Prop :=
  (∀ i, (s.references i).Nodup)
    ∧ (∀ i w, (s.ctx i).wrap = some w → w.formerTill = false → (s.till w.till).wrapInFlight = true)
    ∧ (∀ i j v w, (s.ctx i).wrap = some v → (s.ctx j).wrap = some w → v.formerTill = false → w.formerTill = false → v.till = w.till → i = j)
    ∧ ∀ i w, (s.ctx i).wrap = some w → (s.ctx i).phase.unsettled = true →
        w.formerTill = false ∧ (s.till w.till).binding.isSome = true

/-- A slot has a previous record only while an Outstanding entry names the slot and that record's generation (R65). -/
def State.previousNeeded (s : State) : Prop :=
  ∀ k r, (s.slot k).previous = some r → ∃ e ∈ s.outstanding, e.slot = k ∧ e.gen = r.gen

/-! ### Sequence numbers (R156) -/

/-- The index stands for the non-volatile records: the scan has ended, outside FACTORY, and no format runs (R161, R162). -/
def State.indexed (s : State) : Prop := s.startup.scanned = true ∧ s.opState ≠ .factory ∧ s.holding.format ≠ .running

/-- The commit marks of slots that a bad-slot list does not name. -/
def HoldingStore.marks (h : HoldingStore) (listed : List Nat) : List Nat :=
  (h.nv.filter (fun x => !listed.contains x.slot)).filterMap (·.commit)

/-- Sequence numbers are distinct across the records in the store, those that a reset would find there too, and lie below the next sequence
number (R156); a commit mark carries its record's sequence (R157). While the index stands for the non-volatile records, each commit mark of
a slot that is not BAD has its HELD line, and the header's bad-slot list is the volatile one unless the header fails its check; at other
times the marks that the next scan can keep are distinct. In FACTORY there is no record, and nothing that could become one. -/
def State.sequencesSound (s : State) : Prop :=
  (s.holding.lines.map (·.head.seq)).Nodup ∧ (∀ l ∈ s.holding.lines, 1 ≤ l.head.seq ∧ l.head.seq < s.holding.next)
    ∧ s.holding.last < s.holding.next
    ∧ (∀ x ∈ s.holding.nv, ∀ q, x.commit = some q → 1 ≤ q ∧ ∀ r, x.contents = some r → r.head.seq = q)
    ∧ (s.indexed → (s.holding.header.passes = true → s.holding.header.bad = s.holding.bad)
        ∧ ∀ x ∈ s.holding.nv, ∀ q, x.commit = some q → x.slot ∉ s.holding.bad →
            ∃ l ∈ s.holding.lines, l.slot = x.slot ∧ l.held = true ∧ l.head.seq = q)
    ∧ (¬ s.indexed → s.holding.header.passes = true →
        ((s.holding.marks s.holding.header.bad).filter (fun q => decide (q ≤ s.holding.header.last))).Nodup)
    ∧ (s.opState = .factory → s.holding.lines = [] ∧ s.holding.ops = [] ∧ (∀ i, (s.ctx i).wrap = none) ∧ s.outstanding = [])

/-! ### The end of a step -/

/-- No RESET is under way: none is accepted, and no command or response in hand is one (R183). -/
def State.noReset (s : State) : Prop :=
  s.mgmt.reset = .none ∧ (∀ r ∈ s.mgmt.responses, r.isReset = false) ∧ ∀ j ∈ s.mgmt.jobs, j.code ≠ 18

/-- Nothing is due at the end of a step: no command is unanswered, no response waits, the drain is IDLE with nothing to arm it, no till is
eligible. -/
def State.calm (s : State) : Prop :=
  s.mgmt.jobs = [] ∧ s.mgmt.responses = [] ∧ s.mgmt.reset ≠ .gone ∧ s.drain.state = .idle
    ∧ (s.settings.store.mode = .command ∨ s.opState ≠ .serving ∨ s.settings.suspended = true ∨ s.anyHeld = false)
    ∧ ∀ i, s.eligible i = false

/-- The Uplink Priority Queue takes a frame offered now at once, and the port's link is up (R19, R20). -/
def State.uplinkOpen (s : State) : Prop :=
  s.waitOrder = [] ∧ s.uplink.priority.length < Config.priorityDepth ∧ s.uplink.linkUp = true

/-- The Lane Priority Queue takes a frame offered now, and the port's link is up (R19, R20). -/
def State.laneOpen (s : State) : Prop := s.lane.priority.length < Config.priorityDepth ∧ s.lane.linkUp = true

/-- The state once the taken command is no longer waiting for its row (R173). -/
def State.untaken (s : State) : State := { s with mgmt := { s.mgmt with taken := none } }

/-- The event counter of a code (R197). -/
def State.count (s : State) (e : EventCode) : Nat := s.events.counters[e.number]?.getD 0

end Sys2Proof.Machine
end

