-- ==== Sys2Proof/Certificates/Slice0/Obligations.lean ====
section
/-! DEFINITION. The statements for the provers. A statement about a command whose step ends with what follows at the end of a step
(`State.settle`, or `State.finish` once the waiting command has been carried out) gives the state `u` before that end, and the statement
`SettleIsBounded` says what the end can change. -/

open Sys2Proof Sys2Proof.Machine

/-! ### The machine -/

/-- Step takes the command at the front of the queue and carries it out on the state with the queue's rest. The model's choices (log 3,
log 6, log 11): on an empty queue only the model's clock moves; no row of the table gives bits, so no word spells a command; and the row of a
management command changes nothing unless it is the command the Unit has taken. -/
def Obligations.StepTakesFrontCommand : Prop :=
  (∀ (c : Instr) (rest : List Instr) (s : State), s.pending = c :: rest → step s = exec c { s with pending := rest })
    ∧ (∀ s : State, s.pending = [] → step s = .next { s with now := s.now + 1 })
    ∧ (∀ (nbits w : Nat) (s : State), decodeTableWord nbits w = none ∧ s.withFetchWord nbits w = s)
    ∧ ∀ (c : Instr) (s : State), (encodeCommand c).isSome = true → (∀ t, s.mgmt.taken = some t → t.cmd ≠ c) → exec c s = .next s

/-- No command stops the part, and no command touches the queue of those that wait. -/
def Obligations.EveryCommandAnswersAndKeepsQueue : Prop :=
  ∀ (c : Instr) (s : State), ∃ t : State, exec c s = .next t ∧ t.pending = s.pending

/-- R14, R180, R182: reading the code and operands that carry a well-formed command gives the command back, whatever its operands; and a
command that is read is well-formed, and is carried by exactly the code and operands it was read from. -/
def Obligations.CommandEncodingRoundTrip : Prop :=
  (∀ (c : Instr) (code : Nat) (b : Bytes), c.wf = true → encodeCommand c = some (code, b) → decodeCommand code b = some c)
    ∧ ∀ (c : Instr) (code : Nat) (b : Bytes), decodeCommand code b = some c → encodeCommand c = some (code, b) ∧ c.wf = true

/-! ### Invariants that every step keeps -/

/-- R48, R50: counters stay within their checkpoints, and checkpoints within 1,048,576. -/
def Obligations.StepKeepsCountersBounded : Prop :=
  ∀ s t : State, s.countersBounded → step s = .next t → t.countersBounded

/-- R92: Field Maps and default treatments stay safe, and so does every context's copy. -/
def Obligations.StepKeepsFieldMapsSafe : Prop :=
  ∀ s t : State, s.mapsSafe → step s = .next t → t.mapsSafe

/-- R93: a context that is IDLE holds nothing, and no context keeps a transaction key past the phase that uses it. Which row does a phase's
work, and so in which phase a key stands between two rows, is the model's reading (log 12): a context's phase is that of the work last
done, so the data key stands in DERIVING alone, and the authentication key in DERIVING and WRAPPING. -/
def Obligations.StepKeepsContextsClean : Prop :=
  ∀ s t : State, s.ctxsClean → step s = .next t → t.ctxsClean

/-- R18, R19, R32, R57, R109, R172: the Pending Queues, the item bytes an Assembly Record holds, both ports' Priority and Bridge Queues and
the Management Unit's arrival list stay within their depths. -/
def Obligations.StepKeepsQueuesWithinDepth : Prop :=
  ∀ s t : State, s.withinDepths → step s = .next t → t.withinDepths

/-- R145, R152: the store total and each till's total are, after every step, the sums of the weighted amounts of the records in WRITING or
HELD; and each card entry's count, which is at least 1, and total are the number and the summed weighted amounts of those records that carry
its fingerprint, with one entry for each fingerprint that a record carries. -/
def Obligations.StepKeepsMoneySound : Prop :=
  ∀ s t : State, s.moneySound → step s = .next t → t.moneySound

/-- R101, R122: filled and taken Outstanding places together stay within 256, with what keeps them so: only a context in EMITTING holds a
place, and each context waits at most once for a place and, holding one, for the Uplink Priority Queue. R152: the Offline Card List stays
within 512 entries; the rebuilding at start-up makes no check (R153), so the step of HOLDING_SCAN_END is left out of this clause. -/
def Obligations.StepKeepsPlacesAndCardsBounded : Prop :=
  (∀ s t : State, s.placesSound → step s = .next t → t.placesSound)
    ∧ ∀ s t : State, s.cardsBounded → (∀ bad heads messages, s.pending.head? ≠ some (.holdingScanEnd bad heads messages)) →
        step s = .next t → t.cardsBounded

/-- R38, R40: no two entries that are not VACANT share an Ethernet address or a till number, and each has an individual address that is not
all zeros and a number of 1 to 9,999; the entries that sector 1 and a write of it hold are as sound, since start-up restores them (R47). -/
def Obligations.StepKeepsTillsSound : Prop :=
  ∀ s t : State, s.tillsSound → step s = .next t → t.tillsSound

/-- R65, R110, R122, R156: from a state whose places and Holding Store are sound (the invariants above), every step keeps the Outstanding
pairs distinct, with the Pending Queues and the wraps under way that make them, and keeps a previous record only while an Outstanding entry
names its slot and generation. It keeps the sequence numbers distinct across the records in the store and below the next sequence number,
through resets and scans too; but a scan that finds the header failing has lost the bad-slot list (R161), and may meet in a slot that was BAD
the commit mark of a write that failed, whose sequence has been given again since (R156): for that scan the marks are taken to be distinct. -/
def Obligations.StepKeepsPairsPreviousRecordsAndSequences : Prop :=
  (∀ s t : State, s.placesSound → s.holdingSound → s.pairsSound → s.previousNeeded → step s = .next t → t.pairsSound ∧ t.previousNeeded)
    ∧ ∀ s t : State, s.holdingSound → s.sequencesSound →
        (∀ bad heads messages, s.pending.head? = some (.holdingScanEnd bad heads messages) →
          (bad = true ∨ s.holding.header.passes = false) → (s.holding.marks []).Nodup) →
        step s = .next t → t.sequencesSound

/-- The state after reset meets every invariant above. -/
def Obligations.ResetMeetsEveryInvariant : Prop :=
  State.reset.countersBounded ∧ State.reset.mapsSafe ∧ State.reset.ctxsClean ∧ State.reset.withinDepths ∧ State.reset.moneySound
    ∧ State.reset.placesSound ∧ State.reset.cardsBounded ∧ State.reset.tillsSound ∧ State.reset.pairsSound ∧ State.reset.previousNeeded
    ∧ State.reset.sequencesSound

/-! ### The end of a step and events -/

/-- R74, R75, R78, R79, R114, R178, R184: the waiting command whose quiet condition the step has met is carried out at its end: its limit is
cancelled, its hold stays, and it is refused, is answered with nothing to do, or has its effect (which `KeyAndQuietCommands` says in full for
a condition met as the command is taken); while the condition is not met, or no command waits, nothing is carried out. That a step's end looks
at the waiting command first is the model's choice (log 50). -/
def Obligations.WaitingCommandIsCarriedOutWhenQuiet : Prop :=
  (∀ u : State, (∀ j ∈ u.mgmt.jobs, ∀ h l, j.role ≠ .waiting h (some l)) → u.settle = u.finish)
    ∧ ∀ (u : State) (before after : List Job) (j : Job) (h : Hold) (limit : Nat), u.mgmt.jobs = before ++ j :: after →
        j.role = .waiting h (some limit) → (∀ x ∈ before ++ after, ∀ g l, x.role ≠ .waiting g l) →
        let ends := fun (x : Status) (r : Results) =>
          u.settle = State.finish { u with mgmt := { u.mgmt with
            jobs := before ++ { j with status := x, results := r, role := .waiting h none } :: after } }
        let carried := fun (v : State) (y : Job) =>
          u.settle = v.finish ∧ v.mgmt.jobs.length = u.mgmt.jobs.length ∧ v.mgmt.jobs[before.length]? = some y
            ∧ y.cmd = j.cmd ∧ y.number = j.number ∧ y.code = j.code ∧ y.src = j.src ∧ y.vlan = j.vlan ∧ y.role = .waiting h none
            ∧ y.status = .ok
        (∀ (k : SlotIx) (n : Nat), h = .slot k →
            ((∃ i w, (u.ctx i).wrap = some w ∧ w.slot = k) → u.settle = u.finish)
              ∧ ((∀ i w, (u.ctx i).wrap = some w → w.slot ≠ k) →
                  let x := u.slot k
                  (j.cmd = some (.activateKey n) →
                      (x.state = .faulted → ends .range (.bytes []))
                        ∧ (x.state ≠ .faulted → x.busy = true → ends .busy (.bytes []))
                        ∧ (x.state ≠ .faulted → x.busy = false → x.staged = none → ends .noStaged (.bytes []))
                        ∧ (x.state ≠ .faulted → x.busy = false → x.staged.isSome = true → x.previous.isSome = true →
                            ends .previousInUse (.bytes []))
                        ∧ (x.state ≠ .faulted → x.busy = false → x.staged.isSome = true → x.previous = none →
                            ∃ (v : State) (y : Job), carried v y ∧ y.results = .activation k ∧ v.slot k = { x with busy := true }
                              ∧ (∀ l, l ≠ k → v.slot l = u.slot l)
                              ∧ (u.writer2.inFlight.isSome = true → y.s2 = .queued
                                  ∧ v.writer2 = { u.writer2 with waiting := u.writer2.waiting ++ [.activate k], wanted := true })
                              ∧ (u.writer2.inFlight = none → u.writer2.waiting = [] → u.writer2.eraseWanted = false →
                                  u.erasing = false → y.s2 = .inFlight ∧ ∃ w, v.writer2.inFlight = some w ∧ w.additions = [.activate k])
                              ∧ v = { u with keys := v.keys, writer2 := v.writer2, mgmt := v.mgmt }))
                    ∧ (j.cmd = some (.eraseKey n) →
                        (x.busy = true → ends .busy (.bytes []))
                          ∧ (x.busy = false → x.state = .empty → x.staged = none → ends .ok (.erasure k))
                          ∧ (x.busy = false → (x.state ≠ .empty ∨ x.staged.isSome = true) →
                              ∃ (v : State) (y : Job), carried v y ∧ y.results = .erasure k
                                ∧ v.slot k = { emptySlot with floor := x.floor } ∧ (∀ l, l ≠ k → v.slot l = u.slot l)
                                ∧ (∀ i b, (u.till i).binding = some b → b.slot = k → (v.till i).queue = [])
                                ∧ v.count .keyErased = min (u.count .keyErased + 1) 65535
                                ∧ (u.placeWait = [] → (u.outstanding.map (fun e => (e.till, e.reference))).Nodup →
                                    v.outstanding = u.outstanding.filter (fun e => e.slot != k))
                                ∧ (u.writer2.inFlight.isSome = true → y.s2 = .queued)
                                ∧ (u.writer2.inFlight = none → u.writer2.waiting = [] → u.writer2.eraseWanted = false →
                                    u.erasing = false → y.s2 = .inFlight)
                                ∧ (u.placeWait = [] → v = { u with
                                    keys := v.keys, tills := v.tills, outstanding := v.outstanding, events := v.events, lane := v.lane
                                    ipId := v.ipId, writer2 := v.writer2, mgmt := v.mgmt })))))
          ∧ ∀ force : Nat, h = .engine → j.cmd = some (.decommission force) →
              ((∃ i, (u.ctx i).phase ≠ .idle) → u.settle = u.finish)
                ∧ ((∀ i, (u.ctx i).phase = .idle) → force = 0 → u.holding.lines ≠ [] → ends .holdingNotEmpty (.bytes []))
                ∧ ((∀ i, (u.ctx i).phase = .idle) → (force ≠ 0 ∨ u.holding.lines = []) → u.placeWait = [] →
                    ∃ (v : State) (y : Job), carried v y
                      ∧ y.results = .bytes (be 2 (u.holding.lines.filter (·.held)).length ++ be 2 u.outstanding.length)
                      ∧ y.s1 ≠ .no ∧ y.s2 ≠ .no ∧ y.format = true ∧ v.keys = blankKeys ∧ v.outstanding = []
                      ∧ (∀ i, (v.till i).binding = none) ∧ (∀ i, (u.till i).binding.isSome = true → (v.till i).queue = [])
                      ∧ v.settings = blankSettings ∧ v.count .decommissioned = min (u.count .decommissioned + 1) 65535
                      ∧ v.holding.format = (if u.holding.ops = [] then .running else .waiting)
                      ∧ v = { u with
                          keys := v.keys, outstanding := v.outstanding, tills := v.tills, counters := v.counters, settings := v.settings
                          holding := v.holding, drain := v.drain, waitOrder := v.waitOrder, events := v.events, lane := v.lane
                          ipId := v.ipId, writer1 := v.writer1, writer2 := v.writer2, mgmt := v.mgmt })

/-- The model's choice (log 50): what the rules make follow from a state (R114, R118, R164, R165, R174, R175, R178) follows at the end of a
step, in one fixed order. While no RESET is under way, that end changes neither the operating state, the identity, the non-volatile
sectors, the Link Monitor, the factory port nor the clock, and leaves every context from RESERVED to DECIDING as it stands; where nothing
is due it changes nothing. -/
def Obligations.SettleIsBounded : Prop :=
  (∀ u : State, u.noReset →
    u.settle.opState = u.opState ∧ u.settle.startup = u.startup ∧ u.settle.cause = u.cause ∧ u.settle.tamperIn = u.tamperIn
      ∧ u.settle.rxOpen = u.rxOpen ∧ u.settle.identity = u.identity ∧ u.settle.store = u.store ∧ u.settle.link = u.link
      ∧ u.settle.factory = u.factory ∧ u.settle.now = u.now
      ∧ u.settle.free = u.free ∧ u.settle.pending = u.pending
      ∧ ∀ i : CtxIx, (u.ctx i).phase ∈ [Phase.reserved, .derivingKeys, .wrapping, .authenticating, .deciding] →
          (u.ctx i).wrap.isSome = true → i ∉ u.placeWait → u.settle.ctx i = u.ctx i)
    ∧ ∀ u : State, u.calm → u.settle = u

/-- R195, R196, R197: an event advances its own counter, to 65,535, latches its own class and no other, fills or counts on in the Fault
Record when it is of class FAULT, and changes nothing else. R179: the attention flag is set exactly while some class is both latched and
enabled. -/
def Obligations.EventAdvancesItsCounterAndLatch : Prop :=
  (∀ (s : State) (e : EventCode) (till : Option TillIx) (slot : Option SlotIx) (location : Option Location),
    let t := s.raise e till slot location
    t.count e = min (s.count e + 1) 65535
      ∧ (∀ f : EventCode, f ≠ e → t.count f = s.count f)
      ∧ (∀ k : EventClass, t.events.latched.getLsbD k.bit = (s.events.latched.getLsbD k.bit || e.eventClass == some k))
      ∧ (e.eventClass ≠ some .fault → t.events.fault = s.events.fault)
      ∧ (e.eventClass = some .fault → s.events.fault = none →
          t.events.fault = some { code := e, till := till, slot := slot, location := location, further := 0 })
      ∧ (∀ r, e.eventClass = some .fault → s.events.fault = some r →
          t.events.fault = some { r with further := min (r.further + 1) 255 })
      ∧ t = { s with events := t.events })
    ∧ ∀ s : State, s.attention = true ↔
        ∃ k : EventClass, s.events.latched.getLsbD k.bit = true ∧ s.settings.store.enabled.getLsbD k.bit = true

/-! ### Resets and start-up -/

/-- R188: POWER_ON and the RESET pin put every volatile piece at its value after a reset, keep the Key Store (with the zeroisation of R193
completed) and, with no Holding Store operation to cut short, the Holding Store; the release of the pin begins the sector reads. R158, R159,
R162: a format that a reset cuts short leaves the store as it was, or the new header with some slots cleared; a record write leaves the slot
as it was, record contents without a commit mark, the whole record with the new header, which R161 has written afresh with the rebuilt
bad-slot list, or a slot on the bad-slot list, in a header that goes on failing where it failed (the model's choice, log 64); a free leaves
the record whole, without its commit mark, or gone; no other slot is touched. R190: FULL-ERASE cut short leaves the sectors erased up to
some point of its order. Which of these a reset leaves is a free value, and so is what a failed write leaves in its slot (log 2, log 15, log
40). The model's choices: a pin still held at power-on keeps the part in reset (log 39), the factory port's answers and its waiting commands
are kept (log 21), the Link Monitor's physical link reads down until the port's
first report (log 57), the Holding Store's last and next sequence numbers stand at 0 and 1 and its bad-slot list is empty, so that every
slot counts as FREE, until the scan (log 42), and the release of a pin that is not held changes nothing (log 10). So is it that every
counter entry reads c = 0 and k = 0 until sector 3 is read, whatever it holds (log 71; R58 gives no value in between), and that the identity
is absent and the settings, profiles, Field Maps, Till Table, Key Table and last command number are blank until the sector reads end (log
77). -/
def Obligations.ResetsTakeVolatileState : Prop :=
  (∀ s : State, s.erasing = false →
    ∃ t : State, exec .powerOn s = .next t ∧ exec .resetPinAssert s = .next { t with startup := .held }
      ∧ t = { State.reset with
          now := s.now, free := t.free, startup := t.startup, tamperIn := s.tamperIn, lane := t.lane, uplink := t.uplink, store := t.store
          holding := { formattedStore with nv := t.holding.nv, header := t.holding.header }
          factory := { s.factory with op := none }, pending := s.pending }
      ∧ t.opState = .starting ∧ t.startup = (if s.startup = .held then .held else .reading) ∧ t.cause = false ∧ t.rxOpen = false
      ∧ t.lane = { priority := [], bridge := [], sending := none, linkUp := s.lane.linkUp }
      ∧ t.uplink = { priority := [], bridge := [], sending := none, linkUp := s.uplink.linkUp }
      ∧ t.waitOrder = [] ∧ t.ipId = 0 ∧ t.arbiter = { g := 0, attended := 0, kiosk := 0 }
      ∧ (∀ i, t.ctx i = { phase := .idle, wrap := none }) ∧ t.placeWait = [] ∧ t.outstanding = [] ∧ t.holdNotes = []
      ∧ (∀ i, (t.till i).record = none ∧ (t.till i).queue = [] ∧ (t.till i).wrapInFlight = false ∧ (t.till i).wrapped = 0
          ∧ (t.till i).refused = 0 ∧ (t.till i).stoodIn = 0)
      ∧ t.counters.pending = [] ∧ t.counters.activations = [] ∧ t.counters.inFlight = none
      ∧ (∀ k i, (t.ctr k i).raise = none ∧ (t.ctr k i).failed = false)
      ∧ (∀ k, (t.slot k).previous = none ∧ (t.slot k).busy = false)
      ∧ t.writer1.inFlight = none ∧ t.writer2.inFlight = none ∧ t.writer2.waiting = []
      ∧ t.standIn.storeTotal = 0 ∧ (∀ i : TillIx, t.standIn.tillTotals[i] = 0) ∧ t.standIn.cards = []
      ∧ t.link = resetLink ∧ t.drain = resetDrain ∧ t.mgmt = resetMgmt ∧ t.holding.lines = [] ∧ t.holding.ops = []
      ∧ t.events.latched = 0 ∧ t.events.fault = none ∧ (∀ e, t.count e = 0)
      ∧ t.store.sec0 = s.store.sec0 ∧ t.store.sec1 = s.store.sec1 ∧ t.store.sec3 = s.store.sec3
      ∧ t.store.sec2 = (if s.zeroising then .blank else s.store.sec2)
      ∧ (s.holding.ops = [] → s.holding.format ≠ .running → t.holding.nv = s.holding.nv ∧ t.holding.header = s.holding.header))
    ∧ (∀ s : State, s.erasing = false → ∃ t : State, exec .powerOn s = .next t
        ∧ (let same := t.holding.nv = s.holding.nv ∧ t.holding.header = s.holding.header
          (s.holding.format = .running →
              same ∨ t.holding.header = { passes := true, last := 0, bad := [] }
                ∧ t.holding.nv = s.holding.nv.filter (fun x => !Config.slotCleared s.free x.slot))
            ∧ (∀ n by_ r rest, s.holding.format ≠ .running → s.holding.ops = .write n by_ r :: rest →
                (s.holding.nv.map (·.slot)).Pairwise (· < ·) →
                let at_ := fun (h : HoldingStore) (m : Nat) => h.nv.find? (fun x => x.slot == m)
                let torn := at_ t.holding n = some { slot := n, contents := some r, commit := none, headPasses := true }
                let committed := fun ok : Bool => at_ t.holding n =
                  some { slot := n, contents := some r, commit := some r.head.seq, headPasses := ok }
                (∀ m, m ≠ n → at_ t.holding m = at_ s.holding m)
                  ∧ (same ∨ (torn ∧ t.holding.header = s.holding.header)
                      ∨ (committed true ∧ t.holding.header = { passes := true, last := r.head.seq, bad := s.holding.bad })
                      ∨ ((at_ t.holding n = at_ s.holding n ∨ torn ∨ committed true ∨ committed false)
                          ∧ t.holding.header = { s.holding.header with bad := s.holding.header.bad ++ [n] })))
            ∧ ∀ n by_ rest, s.holding.format ≠ .running → s.holding.ops = .free n by_ :: rest →
                t.holding.header = s.holding.header
                  ∧ (same ∨ t.holding.nv = s.holding.nv.map (fun x => if x.slot = n then { x with commit := none } else x)
                      ∨ t.holding.nv = s.holding.nv.filter (fun x => x.slot != n))))
    ∧ (∀ s : State, s.erasing = true → ∃ t : State, ∃ n ≤ 5, exec .powerOn s = .next t
        ∧ t.store.sec0 = (if 1 ≤ n then .blank else s.store.sec0) ∧ t.store.sec1 = (if 2 ≤ n then .blank else s.store.sec1)
        ∧ t.store.sec2 = (if 3 ≤ n ∨ s.zeroising = true then .blank else s.store.sec2)
        ∧ t.store.sec3 = (if 4 ≤ n then .blank else s.store.sec3) ∧ t.factory.op = none ∧ t.opState = .starting
        ∧ (n < 5 → t.holding.nv = s.holding.nv ∧ t.holding.header = s.holding.header))
    ∧ (∀ s : State, s.startup = .held → exec .resetPinRelease s = .next { s with startup := .reading })
    ∧ ∀ s : State, s.startup ≠ .held → exec .resetPinRelease s = .next s

/-- R189, step 1, with every sector good: the tables and settings are those of the sectors, every counter entry restarts at its checkpoint
(R58), the receive paths open, and the scan begins; the start-up raise (R59) is one sector 3 write, in flight from this step, of every
entry below 1,048,576 with the target min(k + 256, 1,048,576), and has ended where there is none. With a zeroisation erase of sector 2 in
progress the Key Table is blank: the model's reading (log 33). -/
def Obligations.SectorReadsRestoreTheTables : Prop :=
  ∀ (s : State) (c0 : Identity) (c1 : Sector1) (c2 : Sector2) (c3 : Sector3),
    s.startup = .reading → s.opState = .starting → s.erasing = false → s.factory.waiting = [] →
    s.store = { sec0 := .good c0, sec1 := .good c1, sec2 := .good c2, sec3 := .good c3 } → c0.closed = true →
    ∃ t : State, exec (.sectorReadsEnd false false false false) s = .next t
      ∧ t.opState = .starting ∧ t.rxOpen = true ∧ t.startup = .scanning t.counters.inFlight.isNone false
      ∧ t.identity = some c0 ∧ t.settings = c1.settings ∧ t.mgmt.last = c1.lastNumber ∧ t.store = s.store ∧ t.events = s.events
      ∧ (∀ i, t.till i = { vacantTill with binding := c1.bindings[i] })
      ∧ (s.writer2.inFlight = none →
          (∀ k, t.slot k = { previous := none, current := (c2.slots[k]).current, staged := (c2.slots[k]).staged,
                             state := (c2.slots[k]).state, floor := (c2.slots[k]).floor, busy := false })
            ∧ t.keys.fp = c2.fp ∧ t.keys.fpFloor = c2.fpFloor)
      ∧ (s.writer2.inFlight.isSome = true → t.keys = blankKeys)
      ∧ (∀ (k : SlotIx) (i : TillIx),
          t.ctr k i = { c := (c3[k])[i], k := (c3[k])[i], failed := false
                        raise := if (c3[k])[i] < 1048576 then some (min ((c3[k])[i] + 256) 1048576) else none })
      ∧ (t.counters.inFlight = none ↔ ∀ (k : SlotIx) (i : TillIx), 1048576 ≤ (c3[k])[i])
      ∧ (∀ w, t.counters.inFlight = some w → w.erase = false ∧ w.void = false ∧ w.activations = []
          ∧ ∀ (k : SlotIx) (i : TillIx), ((k, i) ∈ w.raises ↔ (c3[k])[i] < 1048576)
              ∧ (w.contents[k])[i] = (if (c3[k])[i] < 1048576 then min ((c3[k])[i] + 256) 1048576 else (c3[k])[i]))
      ∧ t = { s with rxOpen := true, startup := t.startup, identity := t.identity, settings := t.settings, tills := t.tills, mgmt := t.mgmt
                     keys := t.keys, counters := t.counters }

/-- R70, R187, R189, R191: with sector 0 not in service (blank, damaged, or without the closed mark) the part enters FACTORY with its receive
paths open, and start-up stops; a failing sector 0 is recorded first. With sector 0 in service, each of sectors 1 to 3 may be blank,
good or failing: a blank or failing sector 1 gives the blank settings, VACANT tills and a last number of 0 (R47, R89, R174), a blank or
failing sector 2 an empty Key Table, a blank sector 3 checkpoints of 0 and a failing one spent entries (R58); every failing one is counted,
the lowest is in the Fault Record, and under STRICT, as the settings now stand, the lockdown cause is set. Which sectors are damaged at
rest is an operand of the row (log 14). -/
def Obligations.BadSectorsAtStartup : Prop :=
  (∀ (s : State) (bad0 bad1 bad2 bad3 : Bool), s.startup = .reading → s.factory.waiting = [] →
    ((s.store.sec0.damage bad0).contents?.map (·.closed)) ≠ some true →
    ∃ t : State, exec (.sectorReadsEnd bad0 bad1 bad2 bad3) s = .next t ∧ t.opState = .factory ∧ t.startup = .over ∧ t.rxOpen = true
      ∧ t.identity = (s.store.sec0.damage bad0).contents?
      ∧ ((s.store.sec0.damage bad0).isFailing = true → s.events.fault = none →
          ∃ further, t.events.fault =
            some { code := .sectorCheckFail, till := none, slot := none, location := some (.sector 0), further := further }))
    ∧ ∀ (s : State) (c0 : Identity) (x1 : Sector Sector1) (x2 : Sector Sector2) (x3 : Sector Sector3) (bad1 bad2 bad3 : Bool),
        s.startup = .reading → s.opState = .starting → s.erasing = false → s.cause = false → s.factory.waiting = [] →
        s.events = noEvents → s.store = { sec0 := .good c0, sec1 := x1, sec2 := x2, sec3 := x3 } → c0.closed = true →
        let y1 := x1.damage bad1
        let y2 := x2.damage bad2
        let y3 := x3.damage bad3
        let failing := [(1, y1.isFailing), (2, y2.isFailing), (3, y3.isFailing)].filterMap (fun p => if p.2 then some p.1 else none)
        ∃ t : State, exec (.sectorReadsEnd false bad1 bad2 bad3) s = .next t ∧ t.opState = .starting ∧ t.rxOpen = true
          ∧ t.store = { sec0 := .good c0, sec1 := y1, sec2 := y2, sec3 := y3 }
          ∧ (y1.contents? = none → t.settings = blankSettings ∧ (∀ i, t.till i = vacantTill) ∧ t.mgmt.last = 0)
          ∧ (y2.contents? = none → ∀ k, t.slot k = emptySlot) ∧ (y2.contents? = none → t.keys.fp = none ∧ t.keys.fpFloor = 0)
          ∧ (y3 = .blank → ∀ k i, t.ctr k i = { c := 0, k := 0, raise := some 256, failed := false })
          ∧ (y3 = .failing → ∀ k i, t.ctr k i = { c := 1048576, k := 1048576, raise := none, failed := false })
          ∧ t.count .sectorCheckFail = failing.length
          ∧ t.events.fault = failing.head?.map (fun n =>
              { code := .sectorCheckFail, till := none, slot := none, location := some (.sector n), further := failing.length - 1 })
          ∧ t.cause = (decide (failing ≠ []) && t.settings.store.policy == .strict)

/-- R153, R156, R161: a scan of a sound store keeps every record as HELD, in slot order, sets the next sequence number to one past the last
written, and charges the store total with the weighted amounts of all of them. Of any store, by the table of R161: a slot on the bad-slot
list stays as it is; record contents without a valid commit mark, or with one above the last sequence written, are TORN-RECORD and freed; a
valid commit mark whose head fails is RECORD-LOST, and its slot joins the bad-slot lists; the rest are HELD. A header that fails its check
is STORE-HEADER-FAIL: the highest commit mark is the last sequence, that line of the table is skipped and the bad-slot list is lost. The
first FAULT event is in the Fault Record, and under STRICT the lockdown cause is set. A failing head beside a commit mark above the last
sequence written fits two of these rows, and that it is RECORD-LOST is the model's choice (log 78). The totals and the Offline Card List are rebuilt from
the kept records, its fingerprints in the order of their earliest. The model's readings: how the damage a scan meets is told to it (log 14),
and that a lost record's slot joins the header's list at once while the header passes its check (log 43). That a kept record's line starts
without the mark of a damaged notice sent before the reset is the model's choice (log 75). -/
def Obligations.ScanKeepsSoundRecords : Prop :=
  (∀ (s : State) (raised : Bool) (recs : List (Nat × HeldRecord)), s.startup = .scanning raised false → s.erasing = false →
      s.holding.header.passes = true → (recs.map (·.1)).Pairwise (· < ·) →
      (∀ p ∈ recs, p.2.head.seq ≤ s.holding.header.last ∧ p.1 ∉ s.holding.header.bad) →
      s.holding.nv = recs.map (fun p => { slot := p.1, contents := some p.2, commit := some p.2.head.seq, headPasses := true }) →
      ∃ t : State, exec (.holdingScanEnd false [] []) s = .next t ∧ t.startup = .scanning raised true
        ∧ t.holding.lines = recs.map (fun p => { slot := p.1, held := true, head := p.2.head, draining := false, freeing := false,
                                                 deadline := none, noticed := false })
        ∧ t.holding.last = s.holding.header.last ∧ t.holding.next = s.holding.header.last + 1 ∧ t.holding.nv = s.holding.nv
        ∧ t.standIn.storeTotal = (recs.map (fun p => p.2.head.weight)).sum ∧ t.events = s.events)
    ∧ ∀ (s : State) (raised headerBad : Bool) (badHeads badMessages : List Nat), s.startup = .scanning raised false → s.erasing = false →
        s.opState = .starting → (s.holding.nv.map (·.slot)).Pairwise (· < ·) →
        let h := s.holding
        let good := h.header.passes && !headerBad
        let last := if good then h.header.last else (h.nv.map (fun x => x.commit.getD 0)).foldl max 0
        let listed := fun x : NvSlot => good && h.header.bad.contains x.slot
        let headOk := fun x : NvSlot => x.headPasses && !badHeads.contains x.slot
        let late := fun x : NvSlot => good && decide (last < x.commit.getD 0)
        let lost := fun x : NvSlot => !listed x && x.commit.isSome && (!headOk x || x.contents.isNone)
        let torn := fun x : NvSlot => !listed x && x.contents.isSome && (x.commit.isNone || (headOk x && late x))
        let kept := fun x : NvSlot => !listed x && x.contents.isSome && x.commit.isSome && headOk x && !late x
        let lostSlots := (h.nv.filter lost).map (·.slot)
        let faults := (if good then [] else [(EventCode.storeHeaderFail, none)])
          ++ lostSlots.map (fun n => (EventCode.recordLost, some (Location.holding n)))
        ∃ t : State, exec (.holdingScanEnd headerBad badHeads badMessages) s = .next t ∧ t.startup = .scanning raised true
          ∧ t.holding.lines = (h.nv.filter kept).filterMap (fun x => x.contents.map (fun r =>
              { slot := x.slot, held := true, head := r.head, draining := false, freeing := false, deadline := none, noticed := false }))
          ∧ t.holding.nv.map (·.slot) = (h.nv.filter (fun x => listed x || lost x || kept x)).map (·.slot)
          ∧ t.holding.bad = (if good then h.header.bad else []) ++ lostSlots
          ∧ t.holding.header =
              { passes := good, last := h.header.last, bad := if good then h.header.bad ++ lostSlots else h.header.bad }
          ∧ t.holding.last = last ∧ t.holding.next = last + 1
          ∧ (s.count .tornRecord ≤ 65535 →
              t.count .tornRecord = min (s.count .tornRecord + (h.nv.filter torn).length) 65535)
          ∧ (s.count .recordLost ≤ 65535 → t.count .recordLost = min (s.count .recordLost + lostSlots.length) 65535)
          ∧ t.count .storeHeaderFail = (if good then s.count .storeHeaderFail else min (s.count .storeHeaderFail + 1) 65535)
          ∧ (s.events.fault = none → t.events.fault = faults.head?.map (fun x =>
              { code := x.1, till := none, slot := none, location := x.2, further := min (faults.length - 1) 255 }))
          ∧ t.opState = .starting ∧ t.cause = (s.cause || (decide (faults ≠ []) && s.settings.store.policy == .strict))
          ∧ (∀ l : List IndexLine, l.Perm t.holding.lines → l.Pairwise (fun x y => x.head.seq < y.head.seq) →
              t.standIn.storeTotal = weightSum l
                ∧ (∀ i : TillIx, t.standIn.tillTotals[i] = weightSum (l.filter (fun x => x.head.till == i)))
                ∧ t.standIn.cards.map (·.fp) = (l.filterMap (·.head.fp)).reverse.dedup.reverse
                ∧ ∀ x ∈ t.standIn.cards,
                    x.count = (l.filter (fun y => y.head.fp == some x.fp)).length
                      ∧ x.total = weightSum (l.filter (fun y => y.head.fp == some x.fp)))
          ∧ t = { s with startup := t.startup, holding := t.holding, standIn := t.standIn, events := t.events, cause := t.cause }

/-- R189, step 4: at the end of start-up COUNTER-LOW is repeated once for each current counter entry past its line (R59), the link's first
report is made, the probe timer starts, and the first probe is built: placed and awaited where the Uplink Priority Queue takes it, in hand
and waiting where it does not, none with no probe gateway (R139); an asserted tamper input is taken, and the part enters LOCKDOWN when the
lockdown cause is set and SERVING otherwise. A probe placed while the link is down is discarded and awaited all the same: the model's
reading (log 8). -/
def Obligations.StartupEndEntersServingOrLockdown : Prop :=
  ∀ s : State, s.startup = .scanning true true → s.opState = .starting → s.erasing = false →
    let g := s.settings.store.probeGw
    let n := (s.link.probeCount + 1) % 4294967296
    let sends := s.link.inHand = none ∧ g.ip ≠ 0
    let frame : TxFrame :=
      { bytes := udpFrame g.hop s.ownMac none s.settings.store.ownIp g.ip g.port g.port s.ipId (be 1 1 ++ be 1 1 ++ be 4 n ++ beVec 8 s.serial)
        isReset := false }
    ∃ u : State, exec .startupEnd s = .next u.settle ∧ u.startup = .over
      ∧ u.opState = (if s.cause || s.tamperIn then .lockdown else .serving)
      ∧ u.link.physicalUp = s.uplink.linkUp ∧ u.link.state = s.link.state
      ∧ u.link.probeTimer = some (s.now + 1000 * s.settings.link.interval)
      ∧ u.link.probeCount = (if sends then n else s.link.probeCount)
      ∧ (¬ sends → u.link.awaited = s.link.awaited ∧ u.link.inHand = s.link.inHand ∧ u.uplink = s.uplink)
      ∧ (sends → s.waitOrder = [] → s.uplink.priority.length < 32 →
          u.link.inHand = none ∧ u.link.awaited = s.link.awaited ++ [(n, s.now + 2000)]
            ∧ u.uplink = { s.uplink with priority := if s.uplink.linkUp then s.uplink.priority ++ [frame] else s.uplink.priority })
      ∧ (sends → (s.waitOrder ≠ [] ∨ 32 ≤ s.uplink.priority.length) → u.link.inHand = some n ∧ u.link.awaited = s.link.awaited
          ∧ (.monitor, frame) ∈ u.waitOrder ∧ u.uplink = s.uplink)
      ∧ (s.count .counterLow ≤ 65535 →
          u.count .counterLow = min (s.count .counterLow + (allTills.filter (fun i => (s.till i).binding.any (fun b =>
            decide (1044480 ≤ (s.ctr b.slot i).c ∧ (s.ctr b.slot i).c < 1048576)))).length) 65535)
      ∧ (s.tamperIn = true → u.count .tamper = min (s.count .tamper + 1) 65535
          ∧ ∀ k, (u.slot k).state = .empty ∧ (u.slot k).previous = none ∧ (u.slot k).current = none ∧ (u.slot k).staged = none
              ∧ (u.slot k).floor = 0)

/-! ### Frames received -/

/-- R16, R20: a frame that arrives while the receive paths are closed, or that was being received when its port's link was lost, is neither
received nor counted (that such a frame is one arriving at a port whose link is down is the model's reading, log 13); one that fails a check
of the receive path is dropped and counted RX-ERROR; the checks are the check sequence and the length with at most two tags allowed for.
R21, R22: what becomes of each good frame received on the Lane port, in the order of the table. -/
def Obligations.LaneFrameOutcomes : Prop :=
  (∀ (s : State) (p : Port) (f : Bytes), (s.rxOpen = false ∨ (s.port p).linkUp = false) → exec (.rxFrame p f) s = .next s)
    ∧ (∀ (s : State) (p : Port) (f : Bytes), s.rxOpen = true → (s.port p).linkUp = true → frameGood f = false →
        exec (.rxFrame p f) s = .next (s.raise .rxError).settle)
    ∧ (∀ f : Bytes, frameGood f = true ↔
        64 ≤ f.length ∧ f.length ≤ 1518 + 4 * min 2 (readEth f).tags.length ∧ f.drop (f.length - 4) = fcs (f.take (f.length - 4)))
    ∧ ∀ (s : State) (f : Bytes), s.rxOpen = true → s.lane.linkUp = true → frameGood f = true →
        let e := readEth f
        let v := readIp e.payload
        let outcome := fun u : State => exec (.rxFrame .lane f) s = .next u.settle
        (2 ≤ e.tags.length → outcome (s.raise .multiTag))
          ∧ (e.tags.length < 2 → s.isMgmt e = true → outcome (s.raise .mgmtWrongPort))
          ∧ (e.tags.length < 2 → s.isMgmt e = false → s.toPart e = true → outcome (s.raise .unclaimed))
          ∧ (e.tags.length < 2 → s.isMgmt e = false → s.toPart e = false →
              (e.etype ≠ 0x0800 → outcome (s.bridge .lane f))
                ∧ (e.etype = 0x0800 → v.protocol = 17 → v.isFragment = true → outcome (s.raise .fragment))
                ∧ (e.etype = 0x0800 → (v.protocol ≠ 17 ∨ v.isFragment = false) → s.toPayment v = false → outcome (s.bridge .lane f))
                ∧ (e.etype = 0x0800 → (v.protocol ≠ 17 ∨ v.isFragment = false) → s.toPayment v = true →
                    (v.protocol ≠ 17 ∨ v.udpWhole = false) → outcome (s.raise .notUdp))
                ∧ (e.etype = 0x0800 → v.protocol = 17 → v.isFragment = false → s.toPayment v = true → v.udpWhole = true →
                    (s.tillAddressed e.src = none → outcome (s.raise .unknownTill))
                      ∧ ∀ i, s.tillAddressed e.src = some i →
                          (v.udpPayload.length < 10 → outcome (s.raise .shortSegment (till := some i)))
                            ∧ (10 ≤ v.udpPayload.length → outcome (s.takeSegment i (returnPath e v) v.udpPayload))))

/-- R18: a bridged frame joins the tail of the opposite port's Bridge Queue, the frames there kept; at 64 frames it is dropped and counted
BRIDGE-OVERFLOW. (A frame bridged to a port whose link is down: see `LinkLossDiscardsAndRestorationRecovers`.) -/
def Obligations.BridgedFrameJoinsTheTail : Prop :=
  ∀ (s : State) (p q : Port) (f : Bytes), q ≠ p →
    ((s.port q).bridge.length < 64 → (s.port q).linkUp = true →
        s.bridge p f = s.setPort q { s.port q with bridge := (s.port q).bridge ++ [{ bytes := f, isReset := false }] })
      ∧ (64 ≤ (s.port q).bridge.length → s.bridge p f = s.raise .bridgeOverflow)

/-- R28, R29, R30, R32: what a segment does to the till's Assembly Record. A segment of index 1 discards an open record, counted
SEGMENT-ORDER, and opens its own, which completes at once when its count is 1. -/
def Obligations.SegmentOpensFillsOrBreaksRecord : Prop :=
  ∀ (s : State) (i : TillIx) (path : ReturnPath) (p : Bytes),
    let index := field p 8 1
    let count := field p 9 1
    let opened : AssemblyRecord :=
      { reference := field p 4 4, expected := count, received := 1, version := field p 0 1, kind := field p 1 1, number := field p 2 2,
        path := path, items := (p.drop 10).take 1280, itemBytes := (p.drop 10).length, structureGood := (readItems (p.drop 10)).isSome,
        deadline := s.now + s.settings.store.asmTimeout }
    let first := index = 1 ∧ 1 ≤ count ∧ count ≤ 4
    ((s.till i).record = none → ¬ first → s.takeSegment i path p = s.raise .segmentOrder (till := some i))
      ∧ ((s.till i).record = none → first → count ≠ 1 →
          s.takeSegment i path p = s.setTill i { s.till i with record := some opened })
      ∧ ((s.till i).record = none → first → count = 1 → s.takeSegment i path p = s.completeMessage i opened)
      ∧ ((s.till i).record.isSome = true → first →
          let t := s.raise .segmentOrder (till := some i)
          t.count .segmentOrder = min (s.count .segmentOrder + 1) 65535
            ∧ (count ≠ 1 → s.takeSegment i path p = t.setTill i { s.till i with record := some opened })
            ∧ (count = 1 → s.takeSegment i path p = t.completeMessage i opened))
      ∧ ∀ r, (s.till i).record = some r → ¬ first →
          let wider := { r with received := r.received + 1, items := (r.items ++ p.drop 10).take 1280,
                                itemBytes := r.itemBytes + (p.drop 10).length,
                                structureGood := r.structureGood && (readItems (p.drop 10)).isSome }
          let next := index = r.received + 1 ∧ count = r.expected ∧ field p 4 4 = r.reference
          (next → index = r.expected → s.takeSegment i path p = s.completeMessage i wider)
            ∧ (next → index ≠ r.expected → s.takeSegment i path p = s.setTill i { s.till i with record := some wider })
            ∧ (¬ next → s.takeSegment i path p =
                (s.setTill i { s.till i with record := none }).raise .segmentOrder (till := some i))

/-- R6: the ten form checks on a completed record. It is refused TOO-LONG exactly when its header is good and it has more than 1,280 item
bytes; a record that passes every check makes the message of its kind, number, reference, items and return path; any other is MALFORMED. -/
def Obligations.MessageFormIsChecked : Prop :=
  (∀ r : AssemblyRecord, r.message = .inl .tooLong ↔
      1 ≤ r.kind ∧ r.kind ≤ 3 ∧ r.version = 1 ∧ 1 ≤ r.number ∧ r.number ≤ 9999 ∧ 1280 < r.itemBytes)
    ∧ (∀ (r : AssemblyRecord) (x : RefuseReason), r.message = .inl x → x = .tooLong ∨ x = .malformed)
    ∧ ∀ (r : AssemblyRecord) (m : TillMsg), r.message = .inr m ↔
        r.version = 1 ∧ m.kind.code = r.kind ∧ 1 ≤ r.number ∧ r.number ≤ 9999 ∧ r.itemBytes ≤ 1280 ∧ r.structureGood = true
          ∧ readItems r.items = some m.items ∧ m.number = r.number ∧ m.reference = r.reference ∧ m.path = r.path
          ∧ m.card = cardNumber m.items
          ∧ (∀ x ∈ m.items, x.tag ≠ 0 ∧ x.tag ≠ 255)
          ∧ (∀ x ∈ m.items,
              (x.tag = 1 → 1 ≤ x.value.length ∧ x.value.length ≤ 12 ∧ ∀ b ∈ x.value, isDigit b = true)
                ∧ (x.tag = 2 → x.value.length = 3 ∧ ∀ b ∈ x.value, isDigit b = true)
                ∧ (x.tag = 3 → 12 ≤ x.value.length ∧ x.value.length ≤ 19 ∧ ∀ b ∈ x.value, isDigit b = true)
                ∧ (x.tag = 4 → x.value.length = 4 ∧ ∀ b ∈ x.value, isDigit b = true)
                ∧ (x.tag = 5 → 1 ≤ x.value.length ∧ x.value.length ≤ 107)
                ∧ (x.tag = 6 → x.value.length = 8 ∨ x.value.length = 16)
                ∧ (x.tag = 7 → x.value.length = 4))
          ∧ (∀ t, 1 ≤ t → t ≤ 7 → (m.items.filter (fun x => x.tag == t)).length ≤ 1)
          ∧ (m.kind = .void ↔ ∃ x ∈ m.items, x.tag = 7)
          ∧ (m.kind ≠ .void → (∃ x ∈ m.items, x.tag = 1) ∧ ∃ x ∈ m.items, x.tag = 3 ∨ x.tag = 5)
          ∧ (m.kind = .sale → ∀ x ∈ m.items, x.tag = 1 → ∃ b ∈ x.value, b ≠ 0x30)

/-- R7: the card number is the CARD-NUMBER item's value; without that item, it is the first run of digits of TRACK-DATA when 12 to 19 long;
otherwise there is none. -/
def Obligations.CardNumberComesFromItemOrTrack : Prop :=
  ∀ items : List Item,
    (∀ v, itemValue items 3 = some v → cardNumber items = some v)
      ∧ (itemValue items 3 = none → itemValue items 5 = none → cardNumber items = none)
      ∧ ∀ before run after : Bytes, itemValue items 3 = none → itemValue items 5 = some (before ++ run ++ after) →
          (∀ b ∈ before, isDigit b = false) → (∀ b ∈ run, isDigit b = true) → (∀ b, after.head? = some b → isDigit b = false) →
          (run = [] → after = []) →
          cardNumber items = if 12 ≤ run.length ∧ run.length ≤ 19 then some run else none

/-- R33, R34: the checks made when a message completes, in their order; the record ends whatever they find. R110, R111: admission drops a
pair still being worked on, answers a held pair HELD again, refuses BUSY at a full queue, and otherwise puts the message at the queue's
tail. -/
def Obligations.CompletionChecksThenAdmission : Prop :=
  (∀ (s : State) (i : TillIx) (r : AssemblyRecord),
    let s0 := s.setTill i { s.till i with record := none }
    (s.opState ≠ .serving → s.completeMessage i r = s0.localReply i r.number r.reference r.path (.unavailable s.opState))
      ∧ (∀ x, s.opState = .serving → r.message = .inl x →
          s.completeMessage i r = s0.localReply i r.number r.reference r.path (.refused x))
      ∧ (∀ m, s.opState = .serving → r.message = .inr m → (∀ b, (s.till i).binding = some b → b.number ≠ m.number) →
          s.completeMessage i r = s0.replyTo i m (.refused .tillMismatch))
      ∧ ∀ m b, s.opState = .serving → r.message = .inr m → (s.till i).binding = some b → b.number = m.number →
          (b.enabled = false → s.completeMessage i r = s0.replyTo i m (.refused .tillDisabled))
            ∧ (b.enabled = true → (s.ctr b.slot i).c = 1048576 → s.completeMessage i r = s0.replyTo i m (.refused .exhausted))
            ∧ (b.enabled = true → (s.ctr b.slot i).c ≠ 1048576 →
                ((s.ctr b.slot i).failed = true → s.completeMessage i r = s0.replyTo i m (.refused .counterFault))
                  ∧ ((s.ctr b.slot i).failed = false →
                      ((s.slot b.slot).state = .empty → s.completeMessage i r = s0.replyTo i m (.refused .noKey))
                        ∧ ((s.slot b.slot).state = .faulted → s.completeMessage i r = s0.replyTo i m (.refused .keyFault))
                        ∧ ((s.slot b.slot).state = .active → s.completeMessage i r = s0.admission i m))))
    ∧ ∀ (s : State) (i : TillIx) (m : TillMsg),
    let working := (∃ x ∈ (s.till i).queue, x.reference = m.reference)
      ∨ (∃ c w x, (s.ctx c).wrap = some w ∧ w.till = i ∧ w.msg = some x ∧ x.reference = m.reference)
      ∨ (∃ e ∈ s.outstanding, e.till = i ∧ e.reference = m.reference)
      ∨ (∃ l, s.holding.findPair i m.reference = some l ∧ (l.held = false ∨ l.freeing = true))
    (working → s.admission i m = s.raise .duplicate (till := some i))
      ∧ (¬ working → (s.holding.findPair i m.reference).isSome = true →
          s.admission i m = (s.raise .heldRepeat (till := some i)).replyTo i m .held)
      ∧ (¬ working → s.holding.findPair i m.reference = none → 2 ≤ (s.till i).queue.length →
          s.admission i m = s.replyTo i m (.refused .busy))
      ∧ (¬ working → s.holding.findPair i m.reference = none → (s.till i).queue.length < 2 →
          s.admission i m = s.setTill i { s.till i with queue := (s.till i).queue ++ [m] })

/-- R11, R46, R134, R136: a local reply is counted by its kind, whatever becomes of its frame, and, when it is a refusal, in the till's
refused count; its 9 bytes go by the return path to the tail of the Lane Priority Queue; at 32 frames it is dropped and counted LANE-OVERFLOW
(R19), and with the Lane link down it is discarded and counted LINK-DISCARD (R20). That it is discarded in the step that places it is the
model's reading (log 8). -/
def Obligations.LocalReplyIsCountedAndPlaced : Prop :=
  ∀ (s : State) (i : TillIx) (number reference : Nat) (path : ReturnPath) (r : LocalReply),
    let t := s.localReply i number reference path r
    let frame := replyFrame path s.ipId (be 1 1 ++ be 1 r.kind ++ be 2 number ++ be 4 reference ++ be 1 r.reason)
    t.count r.event = min (s.count r.event + 1) 65535
      ∧ (s.lane.priority.length < 32 → s.lane.linkUp = true →
          t.lane = { s.lane with priority := s.lane.priority ++ [{ bytes := frame, isReset := false }] }
            ∧ t.count .linkDiscard = s.count .linkDiscard ∧ t.count .laneOverflow = s.count .laneOverflow)
      ∧ (s.lane.priority.length < 32 → s.lane.linkUp = false →
          t.lane = s.lane ∧ t.count .linkDiscard = min (s.count .linkDiscard + 1) 65535)
      ∧ t.mgmt = s.mgmt ∧ t.ipId = (s.ipId + 1) % 65536
      ∧ (32 ≤ s.lane.priority.length → t.lane = s.lane ∧ t.count .laneOverflow = min (s.count .laneOverflow + 1) 65535)
      ∧ (t.till i).refused = (if r.isRefusal then min ((s.till i).refused + 1) 65535 else (s.till i).refused)
      ∧ (t.till i).queue = (s.till i).queue ∧ (∀ j, j ≠ i → t.till j = s.till j) ∧ t.uplink = s.uplink ∧ t.holding = s.holding
      ∧ t.outstanding = s.outstanding ∧ t.ctxs = s.ctxs ∧ t.counters = s.counters ∧ t.keys = s.keys ∧ t.standIn = s.standIn

/-- R23, R24, R25, R172: what becomes of each good frame received on the Uplink port, in the order of the table. That a frame from a gateway
which has been replaced goes by the table as any frame that is no gateway traffic does, bridged (R88, R140, R168) unless step 7 drops it, is
the model's reading (log 58). R24: what makes a frame gateway traffic, which gateways of each kind there are (one at 0.0.0.0 matches no
frame), and the consumer its payload goes to: of one kind that matches, that kind's; of several, the one the payload's length chooses. The source
port of a datagram too short to hold one is the model's choice (log 51). R25: what an address request for the part is, its answer, and the
request that comes while an answer waits. -/
def Obligations.UplinkFrameOutcomes : Prop :=
  (∀ (s : State) (f : Bytes), s.rxOpen = true → s.uplink.linkUp = true → frameGood f = true →
      let e := readEth f
      let v := readIp e.payload
      let outcome := fun u : State => exec (.rxFrame .uplink f) s = .next u.settle
      (2 ≤ e.tags.length → outcome (s.raise .multiTag))
        ∧ (e.tags.length < 2 → s.isMgmt e = true → s.toPart e = false → outcome (s.raise .unclaimed))
        ∧ (e.tags.length < 2 → s.isMgmt e = true → s.toPart e = true →
            (s.mgmt.arrivals.length < 4 → outcome { s with mgmt := { s.mgmt with arrivals := s.mgmt.arrivals ++ [f] } })
              ∧ (4 ≤ s.mgmt.arrivals.length → outcome (s.raise .mgmtOverflow)))
        ∧ (e.tags.length < 2 → s.isMgmt e = false → s.asksForPart e = true → outcome (s.answerAddress e))
        ∧ (e.tags.length < 2 → s.isMgmt e = false → s.asksForPart e = false →
            (e.isIp = true → v.isUdp = true → v.isFragment = true → s.gatewayIp v.src = true → outcome (s.raise .fragment))
              ∧ ((e.isIp && v.isUdp && v.isFragment && s.gatewayIp v.src) = false →
                  (s.gatewayTraffic e v = some .acquirer → outcome (s.takeReply v.udpPayload))
                    ∧ (s.gatewayTraffic e v = some .drain → outcome (s.takeAck v.udpPayload))
                    ∧ (s.gatewayTraffic e v = some .probe → outcome (s.takeProbeAnswer v.udpPayload))
                    ∧ (s.gatewayTraffic e v = none → s.toPart e = true → outcome (s.raise .unclaimed))
                    ∧ (s.gatewayTraffic e v = none → s.toPart e = false → outcome (s.bridge .uplink f)))))
    ∧ (∀ (s : State) (e : EthFrame) (v : IpView),
      let meant := e.etype = 0x0800 ∧ v.protocol = 17 ∧ v.isFragment = false ∧ s.identity.map (·.mac) = some e.dst
        ∧ v.dst = s.settings.store.ownIp
      (meant → s.gatewayTraffic e v = s.consumer v.src (field v.rest 0 2) v.udpPayload.length)
        ∧ (¬ meant → s.gatewayTraffic e v = none))
    ∧ (∀ (s : State) (ip : Ip) (port : Nat),
        (s.matchesKind .acquirer ip port = true ↔
            ip ≠ 0 ∧ ∃ i : ProfIx, (s.settings.profiles[i]).gateway.ip = ip ∧ (s.settings.profiles[i]).gateway.port = port)
          ∧ (s.matchesKind .drain ip port = true ↔ ip ≠ 0 ∧ s.settings.store.drainGw.ip = ip ∧ s.settings.store.drainGw.port = port)
          ∧ (s.matchesKind .probe ip port = true ↔ ip ≠ 0 ∧ s.settings.store.probeGw.ip = ip ∧ s.settings.store.probeGw.port = port)
          ∧ (s.gatewayIp ip = true ↔ ip ≠ 0 ∧ ((∃ i : ProfIx, (s.settings.profiles[i]).gateway.ip = ip)
              ∨ s.settings.store.drainGw.ip = ip ∨ s.settings.store.probeGw.ip = ip)))
    ∧ (∀ (s : State) (ip : Ip) (port n : Nat),
        let a := s.matchesKind .acquirer ip port = true
        let d := s.matchesKind .drain ip port = true
        let p := s.matchesKind .probe ip port = true
        (¬ a → ¬ d → ¬ p → s.consumer ip port n = none)
          ∧ (a → ¬ d → ¬ p → s.consumer ip port n = some .acquirer) ∧ (¬ a → d → ¬ p → s.consumer ip port n = some .drain)
          ∧ (¬ a → ¬ d → p → s.consumer ip port n = some .probe)
          ∧ (d → (a ∨ p) → n = 13 → s.consumer ip port n = some .drain)
          ∧ (p → (a ∨ d) → n = 14 → s.consumer ip port n = some .probe)
          ∧ (a → (d ∨ p) → ¬ (n = 13 ∧ d) → ¬ (n = 14 ∧ p) → s.consumer ip port n = some .acquirer)
          ∧ (¬ a → d → p → n ≠ 14 → s.consumer ip port n = some .drain))
    ∧ (∀ (s : State) (e : EthFrame), s.asksForPart e = true ↔
        s.identity.isSome = true ∧ s.settings.store.ownIp ≠ 0 ∧ e.etype = 0x0806 ∧ 28 ≤ e.payload.length ∧ field e.payload 0 2 = 1
          ∧ field e.payload 2 2 = 0x0800 ∧ field e.payload 4 1 = 6 ∧ field e.payload 5 1 = 4 ∧ field e.payload 6 2 = 1
          ∧ field e.payload 24 4 = s.settings.store.ownIp.toNat)
    ∧ ∀ (s : State) (e : EthFrame),
        let answer : TxFrame :=
          { bytes := ethFrame (BitVec.ofNat 48 (field e.payload 8 6)) s.ownMac e.tags.head? 0x0806
              (be 2 1 ++ be 2 0x0800 ++ be 1 6 ++ be 1 4 ++ be 2 2 ++ beVec 6 s.ownMac ++ beVec 4 s.settings.store.ownIp
                ++ (e.payload.drop 8).take 10)
            isReset := false }
        ((∃ x ∈ s.waitOrder, x.1 = .responder) → s.answerAddress e = s.raise .unclaimed)
          ∧ (s.uplinkOpen → s.answerAddress e = { s with uplink := { s.uplink with priority := s.uplink.priority ++ [answer] } })
          ∧ ((s.waitOrder ≠ [] ∨ 32 ≤ s.uplink.priority.length) → (∀ x ∈ s.waitOrder, x.1 ≠ .responder) →
              s.answerAddress e = { s with waitOrder := s.waitOrder ++ [(.responder, answer)] })

/-- R10, R122, R124: a reply that reads as an acquirer reply, matches an entry and carries the code of its reply key is forwarded without
its last 8 bytes by the entry's return path; the entry leaves the list, and with the last entry of its slot and generation the previous
record it needed (R65); the Link Monitor takes a success; nothing of the tills, the store or the counters changes. R123: the match is the
one entry of the reply's number and reference; of several, that of the till that now holds the number, otherwise the oldest. R125, R126: a
reply that finds no entry is REPLY-UNMATCHED, and one whose code fails, whose record already carries the failed mark, or whose generation
has no record, is REPLY-AUTH-FAIL; either way nothing else changes, and the entry stays. R63, R83, R84: a record fails its check when its
integrity code is not that of its fields; one that fails now is marked, KEY-CHECK-FAIL is raised, its slot is FAULTED, its tills' queues
are refused, the reply is REPLY-AUTH-FAIL with its entry kept, and under STRICT a SERVING part enters LOCKDOWN. -/
def Obligations.RepliesAreProvenBeforeForwarding : Prop :=
  (∀ (s : State) (n : Nat) (r : KeyRecord),
      let intact := authCode s.transportKey (be 1 n ++ be 4 r.ksid ++ be 2 r.gen ++ beVec 32 r.base) = r.integrity
      (r.failed = true → s.checkRecord n r = .marked) ∧ (r.failed = false → intact → s.checkRecord n r = .passes)
        ∧ (r.failed = false → ¬ intact → s.checkRecord n r = .fails))
    ∧ (∀ (s : State) (number reference : Nat),
        let found := s.outstanding.filter (fun e => e.number == number && e.reference == reference)
        let holds := fun i : TillIx => ∃ b, (s.till i).binding = some b ∧ b.number = number
        (found = [] → s.matchReply number reference = none)
          ∧ (∀ e, found = [e] → s.matchReply number reference = some e)
          ∧ ((∀ i, ¬ holds i) → s.matchReply number reference = found.head?)
          ∧ ∀ i, holds i → (∀ j, holds j → j = i) →
              ((∀ e ∈ found, e.till ≠ i) → s.matchReply number reference = found.head?)
                ∧ ∀ before e after, found = before ++ e :: after → (∀ x ∈ before, x.till ≠ i) → e.till = i →
                    s.matchReply number reference = some e)
    ∧ (∀ (s : State) (p : Bytes) (e : OutEntry) (r : KeyRecord), isAcquirerReply p = true →
      s.matchReply (field p 2 2) (field p 4 4) = some e → (s.slot e.slot).recordOf e.gen = some r →
      s.checkRecord e.slot.val r = .passes → authCode (deriveKey 3 r e.till e.counter) (p.take (p.length - 8)) = codeOf p →
      s.placeWait = [] → s.laneOpen →
      let t := s.takeReply p
      let needed := ∃ x ∈ t.outstanding, x.slot = e.slot ∧ x.gen = e.gen
      t.outstanding = s.outstanding.eraseP (fun x => x.till == e.till && x.reference == e.reference)
        ∧ t.lane.priority = s.lane.priority ++ [{ bytes := replyFrame e.path s.ipId (p.take (p.length - 8)), isReset := false }]
        ∧ t.count .replyForwarded = min (s.count .replyForwarded + 1) 65535 ∧ t.link = s.linkSuccess.link
        ∧ (needed → t.keys = s.keys)
        ∧ (¬ needed → t.keys.fp = s.keys.fp ∧ t.keys.fpFloor = s.keys.fpFloor ∧ (∀ k, k ≠ e.slot → t.slot k = s.slot k)
            ∧ ((∃ x, (s.slot e.slot).previous = some x ∧ x.gen = e.gen) → t.slot e.slot = { s.slot e.slot with previous := none })
            ∧ ((∀ x, (s.slot e.slot).previous = some x → x.gen ≠ e.gen) → t.slot e.slot = s.slot e.slot))
        ∧ t = { s with outstanding := t.outstanding, lane := t.lane, ipId := t.ipId, events := t.events, link := t.link, drain := t.drain
                       keys := t.keys })
    ∧ (∀ (s : State) (p : Bytes),
        (isAcquirerReply p = false → s.takeReply p = s.raise .replyUnmatched)
          ∧ (isAcquirerReply p = true → s.matchReply (field p 2 2) (field p 4 4) = none → s.takeReply p = s.raise .replyUnmatched)
          ∧ (∀ e, isAcquirerReply p = true → s.matchReply (field p 2 2) (field p 4 4) = some e →
              (s.slot e.slot).recordOf e.gen = none → s.takeReply p = s.raise .replyAuthFail (till := some e.till) (slot := some e.slot))
          ∧ ∀ e r, isAcquirerReply p = true → s.matchReply (field p 2 2) (field p 4 4) = some e →
              (s.slot e.slot).recordOf e.gen = some r →
              (s.checkRecord e.slot.val r = .marked
                ∨ s.checkRecord e.slot.val r = .passes ∧ authCode (deriveKey 3 r e.till e.counter) (p.take (p.length - 8)) ≠ codeOf p) →
              s.takeReply p = s.raise .replyAuthFail (till := some e.till) (slot := some e.slot))
    ∧ ∀ (s : State) (p : Bytes) (e : OutEntry) (r : KeyRecord), isAcquirerReply p = true →
        s.matchReply (field p 2 2) (field p 4 4) = some e → (s.slot e.slot).recordOf e.gen = some r →
        s.checkRecord e.slot.val r = .fails →
        let t := s.takeReply p
        t.outstanding = s.outstanding ∧ t.link = s.link ∧ t.counters = s.counters ∧ t.standIn = s.standIn ∧ t.store = s.store
          ∧ t.settings = s.settings ∧ (t.slot e.slot).state = .faulted
          ∧ (∀ x, (s.slot e.slot).current = some x → x.gen = r.gen → (t.slot e.slot).current = some { x with failed := true })
          ∧ (∀ x, (s.slot e.slot).previous = some x → x.gen = r.gen → (t.slot e.slot).previous = some { x with failed := true })
          ∧ (∀ k, k ≠ e.slot → t.slot k = s.slot k)
          ∧ t.count .keyCheckFail = min (s.count .keyCheckFail + 1) 65535
          ∧ t.count .replyAuthFail = min (s.count .replyAuthFail + 1) 65535
          ∧ (∀ j b, (s.till j).binding = some b → b.slot = e.slot → (t.till j).queue = [])
          ∧ (s.events.fault = none → t.events.fault =
              some { code := .keyCheckFail, till := some e.till, slot := some e.slot, location := none, further := 0 })
          ∧ (s.settings.store.policy = .lenient → t.opState = s.opState ∧ t.cause = s.cause ∧ t.ctxs = s.ctxs)
          ∧ (s.settings.store.policy = .strict → s.opState = .serving →
              t.opState = .lockdown ∧ (∀ i, t.ctx i = { phase := .idle, wrap := none }) ∧ (∀ j, (t.till j).queue = []))
          ∧ (s.settings.store.policy = .strict → s.opState = .lockdown → t.opState = .lockdown)

/-- R12, R166: an acknowledgement with a good code asks for the free of its HELD record, cancelling its deadline or giving up its frame;
any other sequence is DRAIN-UNMATCHED; a bad code is DRAIN-AUTH-FAIL; a payload of another length or version is DRAIN-UNMATCHED. -/
def Obligations.AcknowledgementAsksForTheFree : Prop :=
  (∀ (s : State) (p : Bytes), (p.length ≠ 13 ∨ field p 0 1 ≠ 1) → s.takeAck p = s.raise .drainUnmatched)
    ∧ ∀ (s : State) (p : Bytes), p.length = 13 → field p 0 1 = 1 →
    (authCode s.mgmtKey (p.take 5) ≠ codeOf p → s.takeAck p = s.raise .drainAuthFail)
      ∧ (authCode s.mgmtKey (p.take 5) = codeOf p →
          (s.holding.findSeq (field p 1 4) = none → s.takeAck p = s.raise .drainUnmatched)
            ∧ ∀ l, s.holding.findSeq (field p 1 4) = some l →
                ((l.held = false ∨ l.freeing = true) → s.takeAck p = s.raise .drainUnmatched)
                  ∧ (l.held = true → l.freeing = false →
                      (s.takeAck p).holding.ops = s.holding.ops ++ [.free l.slot .drain]
                        ∧ (s.takeAck p).holding.lines = s.holding.lines.map (fun x =>
                            if x.slot = l.slot then { x with freeing := true, draining := false, deadline := none } else x)
                        ∧ (l.draining = true → l.deadline = none →
                            (s.takeAck p).drain.inHand = none ∧ (s.takeAck p).waitOrder = s.waitOrder.filter (fun x => x.1 != .drain))
                        ∧ (s.takeAck p).events = s.events ∧ (s.takeAck p).standIn = s.standIn))

/-! ### The ports -/

/-- R17, R19: a ready port takes the head of its Priority Queue, or else of its Bridge Queue; the place freed in a full Uplink Priority Queue
goes to the block that began waiting earliest; a drain record placed so has its deadline set (R165), and counts as sent as a damaged notice
from then (R170). R17, R183: a transmission ends and the frame has left the port; when it is the response to
RESET the reset begins. The model's choice (log 10): a start at a port that is sending, or whose link is down, and an end at a port that
sends nothing, change nothing. -/
def Obligations.TransmissionTakesTheHeadAndFreesThePort : Prop :=
  (∀ (s : State) (f : TxFrame) (rest : List TxFrame), s.lane.sending = none → s.lane.linkUp = true → s.lane.priority = f :: rest →
      exec (.transmitStart .lane) s = .next (State.settle { s with lane := { s.lane with priority := rest, sending := some f } }))
    ∧ (∀ (s : State) (f : TxFrame) (rest : List TxFrame), s.uplink.sending = none → s.uplink.linkUp = true → s.waitOrder = [] →
        s.uplink.priority = f :: rest →
        exec (.transmitStart .uplink) s = .next (State.settle { s with uplink := { s.uplink with priority := rest, sending := some f } }))
    ∧ (∀ (s : State) (f g : TxFrame) (rest : List TxFrame) (w : Waiter) (more : List (Waiter × TxFrame)), s.uplink.sending = none →
        s.uplink.linkUp = true → s.waitOrder = (w, g) :: more → s.uplink.priority = f :: rest → rest.length = 31 →
        ∃ u : State, exec (.transmitStart .uplink) s = .next u.settle ∧ u.uplink.priority = rest ++ [g] ∧ u.uplink.sending = some f
          ∧ u.waitOrder = more
          ∧ (∀ q, w = .drain → s.drain.inHand = some q →
              u.drain = { s.drain with inHand := none }
                ∧ ∀ l ∈ s.holding.lines, l.held = true → l.head.seq = q →
                    ∃ notice : Bool, (l.noticed = true → notice = true)
                      ∧ (∀ (v : NvSlot) (r : HeldRecord), s.holding.nv.find? (fun x => x.slot == l.slot) = some v →
                          v.contents = some r → notice = (l.noticed || !r.checkPasses))
                      ∧ { l with deadline := some (s.now + 1000 * s.settings.store.ackTimeout), noticed := notice } ∈ u.holding.lines))
    ∧ (∀ (s : State) (p : Port) (f : TxFrame) (rest : List TxFrame), (s.port p).sending = none → (s.port p).linkUp = true →
        (s.port p).priority = [] → (s.port p).bridge = f :: rest →
        exec (.transmitStart p) s = .next (s.setPort p { s.port p with bridge := rest, sending := some f }).settle)
    ∧ (∀ (s : State) (p : Port), ((s.port p).sending.isSome = true ∨ (s.port p).linkUp = false) → exec (.transmitStart p) s = .next s)
    ∧ (∀ (s : State) (p : Port) (f : TxFrame), (s.port p).sending = some f → f.isReset = false →
        exec (.transmitEnd p) s = .next (s.setPort p { s.port p with sending := none }))
    ∧ (∀ (s : State) (p : Port) (f : TxFrame), (s.port p).sending = some f → f.isReset = true →
        ∃ t : State, exec (.transmitEnd p) s = .next t ∧ t.opState = .starting ∧ t.startup = .reading ∧ t.rxOpen = false
          ∧ t.mgmt = resetMgmt ∧ t.lane.priority = [] ∧ t.uplink.priority = [] ∧ (s.erasing = false → t.store.sec1 = s.store.sec1))
    ∧ ∀ (s : State) (p : Port), (s.port p).sending = none → exec (.transmitEnd p) s = .next s

/-- R20, R142: the loss of a link discards and counts every queued frame once; on the Uplink the line goes DOWN, with LINK-DOWN when it was
UP or SUSPECT; a restoration makes DOWN into RECOVERING. The model's choices: a frame in transmission is sent to its end (log 45); a frame
bridged, or offered by a block that waits, at a lost link is discarded in the same step, and what follows from placing it follows (log 8);
a drain frame that waits in hand when the line leaves UP is given up with the pass, before the waiting blocks are served (log 73, R168);
the Link Monitor takes no report before start-up ends nor in FACTORY (log 46); a loss of a link that is down, and a restoration of one that
is up, change nothing (log 10). -/
def Obligations.LinkLossDiscardsAndRestorationRecovers : Prop :=
  (∀ s : State, s.lane.linkUp = true → s.count .linkDiscard ≤ 65535 →
      ∃ u : State, exec (.physicalLinkLost .lane) s = .next u.settle
        ∧ u.lane = { priority := [], bridge := [], sending := s.lane.sending, linkUp := false }
        ∧ u.count .linkDiscard = min (s.count .linkDiscard + (s.lane.priority.length + s.lane.bridge.length)) 65535
        ∧ u.link = s.link ∧ u.uplink = s.uplink)
    ∧ (∀ s : State, s.uplink.linkUp = true → s.waitOrder = [] → s.count .linkDiscard ≤ 65535 →
        ∃ u : State, exec (.physicalLinkLost .uplink) s = .next u.settle
          ∧ u.uplink = { priority := [], bridge := [], sending := s.uplink.sending, linkUp := false }
          ∧ u.count .linkDiscard = min (s.count .linkDiscard + (s.uplink.priority.length + s.uplink.bridge.length)) 65535
          ∧ ((s.opState = .serving ∨ s.opState = .lockdown) →
              u.link.state = .down ∧ u.link.physicalUp = false
                ∧ (s.link.state ≠ .down → u.link.run = 0)
                ∧ u.count .linkDown =
                    (if s.link.state = .up ∨ s.link.state = .suspect then min (s.count .linkDown + 1) 65535 else s.count .linkDown))
          ∧ ((s.opState = .starting ∨ s.opState = .factory) → u.link = s.link ∧ u.count .linkDown = s.count .linkDown))
    ∧ (∀ s : State, s.uplink.linkUp = true →
        ∃ u : State, exec (.physicalLinkLost .uplink) s = .next u.settle ∧ u.waitOrder = []
          ∧ u.uplink = { priority := [], bridge := [], sending := s.uplink.sending, linkUp := false }
          ∧ ((s.opState = .serving ∨ s.opState = .lockdown) → s.link.state = .up → s.drain.state = .running →
              u.drain = { s.drain with state := .armed, cursor := 0, inHand := none }
                ∧ u.holding.lines = s.holding.lines.map (fun l => { l with draining := false, deadline := none }))
          ∧ ∀ (i : CtxIx) (f : TxFrame) (w : Wrap) (m : TillMsg), (.ctx i, f) ∈ s.waitOrder → (s.ctx i).wrap = some w → w.msg = some m →
              u.ctx i = { phase := .idle, wrap := none }
                ∧ ∃ e ∈ u.outstanding, e.till = w.till ∧ e.reference = m.reference ∧ e.slot = w.slot ∧ e.counter = w.counter)
    ∧ (∀ s : State, s.uplink.linkUp = false → (s.opState = .serving ∨ s.opState = .lockdown) → s.link.state = .down →
        exec (.physicalLinkRestored .uplink) s =
          .next { s with uplink := { s.uplink with linkUp := true }
                         link := { s.link with physicalUp := true, state := .recovering, run := 0 } })
    ∧ (∀ s : State, s.uplink.linkUp = false → (s.opState = .starting ∨ s.opState = .factory) →
        exec (.physicalLinkRestored .uplink) s = .next { s with uplink := { s.uplink with linkUp := true } })
    ∧ (∀ s : State, s.lane.linkUp = false →
        exec (.physicalLinkRestored .lane) s = .next { s with lane := { s.lane with linkUp := true } })
    ∧ (∀ (s : State) (p q : Port) (f : Bytes), q ≠ p → (s.port q).bridge.length < 64 → (s.port q).linkUp = false →
        s.bridge p f = s.raise .linkDiscard)
    ∧ ∀ (s : State) (p : Port), ((s.port p).linkUp = true → exec (.physicalLinkRestored p) s = .next s)
        ∧ ((s.port p).linkUp = false → exec (.physicalLinkLost p) s = .next s)

/-- R31: when a record's deadline expires the record is discarded and counted ASSEMBLY-TIMEOUT, and no reply is sent; any later segment of
the message then finds no record; an expiry that finds no record does nothing, as for a message of one segment. -/
def Obligations.AssemblyTimeoutDiscardsTheRecord : Prop :=
  ∀ (s : State) (i : TillIx),
    ((s.till i).record.isSome = true →
        ∃ t : State, exec (.assemblyTimeout i) s = .next t ∧ t.till i = { s.till i with record := none }
          ∧ (∀ j, j ≠ i → t.till j = s.till j) ∧ t.count .assemblyTimeout = min (s.count .assemblyTimeout + 1) 65535
          ∧ t = { s with tills := t.tills, events := t.events }
          ∧ ∀ path p, field p 8 1 ≠ 1 → t.takeSegment i path p = t.raise .segmentOrder (till := some i))
      ∧ ((s.till i).record = none → exec (.assemblyTimeout i) s = .next s)
      ∧ ∀ path p, field p 8 1 = 1 → field p 9 1 = 1 → ((s.takeSegment i path p).till i).record = none

/-! ### Keys and wrapping -/

/-- R80: a derivation block is laid out as the rule says; a transaction key is the ciphers of its two blocks; and one key
record never gives two purposes, tills or counter values the same transaction key. That the cipher is a permutation under each key is the
model's reading of R71, which applies its inverse (log 1). -/
def Obligations.DerivationBlocksNeverRepeat : Prop :=
  (∀ (purpose half gen : Nat) (till : TillIx) (counter ksid : Nat), purpose < 256 → half < 256 → gen < 65536 → counter < 4294967296 →
      ksid < 4294967296 →
      beVec 16 (derivationBlock purpose half gen till counter ksid) =
        be 1 purpose ++ be 1 half ++ be 2 gen ++ be 1 till.val ++ be 4 counter ++ be 4 ksid ++ [0, 0, 0])
    ∧ (∀ (purpose : Nat) (r : KeyRecord) (till : TillIx) (counter : Nat),
        deriveKey purpose r till counter =
          (Config.cipherOf r.base (derivationBlock purpose 1 r.gen till counter r.ksid)
            ++ Config.cipherOf r.base (derivationBlock purpose 2 r.gen till counter r.ksid) : BitVec 256))
    ∧ ∀ (r : KeyRecord) (p q : Nat) (i j : TillIx) (c d : Nat), p < 256 → q < 256 → c < 4294967296 → d < 4294967296 → r.gen < 65536 →
        r.ksid < 4294967296 → deriveKey p r i c = deriveKey q r j d → p = q ∧ i = j ∧ c = d

/-- R92: under a safe Field Map no entry of a wrapped message is a clear item of tag 3, 5 or 6. -/
def Obligations.SafeMapsNeverSendCardDataClear : Prop :=
  ∀ (key : Key) (m : FieldMap) (d : DefaultTreatment) (card : Bytes) (position size : Nat) (items : List Item) (es : List Bytes),
    mapSafe m d = true → (∀ x ∈ items, x.tag < 256) → buildEntries key m d card position size items = some es →
    ∀ e ∈ es, e.take 2 ≠ [1, 3] ∧ e.take 2 ≠ [1, 5] ∧ e.take 2 ≠ [1, 6]

/-- R80 to R85, R95: DERIVING takes the current record's keys and, for a card number under a usable fingerprint key, the fingerprint; a
fingerprint key that fails its check now is marked, KEY-CHECK-FAIL is raised and the message goes on without a fingerprint under LENIENT,
and is abandoned by the LOCKDOWN entry of a SERVING part under STRICT; a record that fails its check now faults its slot, whose tills'
queues are refused and whose sector 2 write is requested, and the message is answered REFUSED / KEY-FAULT after them under LENIENT (on the
Lane port, counted LOCAL-REFUSED and in the till's refused count) and abandoned by the LOCKDOWN entry under STRICT. The model's readings: a
record that already carries the failed mark is KEY-FAULT whatever the policy (log 36); the slot's record is checked first, and where that
check fails the fingerprint record is not checked, so that KEY-CHECK-FAIL is counted once (the model's choice, log 68: R82, R83 and R95 fix
no order); the row is taken by a RESERVED context (log 12) and
changes nothing of any other (log 10). -/
def Obligations.DerivingTakesKeysOrFaults : Prop :=
  (∀ (s : State) (i : CtxIx), (s.ctx i).phase ≠ .reserved → exec (.derivingKeys i) s = .next s)
    ∧ ∀ (s : State) (i : CtxIx) (w : Wrap) (m : TillMsg) (r : KeyRecord), s.ctx i = { phase := .reserved, wrap := some w } →
        w.msg = some m → (s.slot w.slot).current = some r →
        let derived : Option Fingerprint → Ctx := fun f =>
          { phase := .derivingKeys
            wrap := some { w with gen := r.gen, ksid := r.ksid, dataKey := some (deriveKey 1 r w.till w.counter),
                                  authKey := some (deriveKey 2 r w.till w.counter), fp := f } }
        (s.checkRecord w.slot.val r = .passes → (m.card = none ∨ s.usableFp = none) →
            exec (.derivingKeys i) s = .next (s.setCtx i (derived none)).settle)
          ∧ (∀ card f, s.checkRecord w.slot.val r = .passes → m.card = some card → s.usableFp = some f → s.recordIntact 255 f = true →
              exec (.derivingKeys i) s =
                .next (s.setCtx i (derived (some { value := Config.cmac f.base card, gen := f.gen }))).settle)
          ∧ (∀ card f, s.checkRecord w.slot.val r = .passes → m.card = some card → s.usableFp = some f → s.recordIntact 255 f = false →
              s.settings.store.policy = .lenient →
              ∃ u : State, exec (.derivingKeys i) s = .next u.settle ∧ u.ctx i = derived none ∧ u.usableFp = none
                ∧ u.count .keyCheckFail = min (s.count .keyCheckFail + 1) 65535
                ∧ u = { s with ctxs := u.ctxs, keys := { s.keys with fp := u.keys.fp }, events := u.events, writer2 := u.writer2,
                               mgmt := u.mgmt })
          ∧ (∀ card f, s.checkRecord w.slot.val r = .passes → m.card = some card → s.usableFp = some f → s.recordIntact 255 f = false →
              s.settings.store.policy = .strict → s.opState = .serving →
              ∃ u : State, exec (.derivingKeys i) s = .next u.settle ∧ u.usableFp = none ∧ u.opState = .lockdown
                ∧ (∀ j, u.ctx j = { phase := .idle, wrap := none }) ∧ (∀ j, (u.till j).queue = []) ∧ u.drain.state = .idle
                ∧ u.count .keyCheckFail = min (s.count .keyCheckFail + 1) 65535
                ∧ (s.events.fault = none → u.events.fault =
                    some { code := .keyCheckFail, till := some w.till, slot := none, location := none, further := 0 })
                ∧ u.keys.slots = s.keys.slots ∧ u.counters = s.counters ∧ u.outstanding = s.outstanding ∧ u.standIn = s.standIn
                ∧ u.settings = s.settings ∧ u.store = s.store ∧ u.link = s.link ∧ u.uplink = s.uplink)
          ∧ (s.checkRecord w.slot.val r = .marked →
              exec (.derivingKeys i) s = .next ((s.replyTo w.till m (.refused .keyFault)).ctxToIdle i).settle)
          ∧ (s.checkRecord w.slot.val r = .fails → (s.settings.store.policy = .lenient ∨ s.opState = .serving) →
              ∃ u : State, exec (.derivingKeys i) s = .next u.settle ∧ (u.slot w.slot).state = .faulted
                ∧ u.count .keyCheckFail = min (s.count .keyCheckFail + 1) 65535 ∧ u.ctx i = { phase := .idle, wrap := none }
                ∧ (∀ j b, (s.till j).binding = some b → b.slot = w.slot → (u.till j).queue = [])
                ∧ u.opState = (if s.settings.store.policy = .strict then .lockdown else s.opState)
                ∧ u.settings = s.settings ∧ u.store = s.store ∧ u.counters = s.counters ∧ u.outstanding = s.outstanding
                ∧ u.standIn = s.standIn ∧ u.link = s.link ∧ u.uplink = s.uplink)
          ∧ (s.checkRecord w.slot.val r = .fails → s.settings.store.policy = .lenient →
              ∃ v u : State, exec (.derivingKeys i) s = .next u.settle
                ∧ u = (v.replyTo w.till m (.refused .keyFault)).ctxToIdle i
                ∧ v.slot w.slot = { s.slot w.slot with
                    current := some { r with failed := true }, state := .faulted
                    previous := (s.slot w.slot).previous.map (fun x => if x.gen = r.gen then { x with failed := true } else x) }
                ∧ (∀ k, k ≠ w.slot → v.slot k = s.slot k) ∧ v.keys.fp = s.keys.fp ∧ v.keys.fpFloor = s.keys.fpFloor
                ∧ (∀ j b, (s.till j).binding = some b → b.slot = w.slot → (v.till j).queue = [])
                ∧ (∀ j, (∀ b, (s.till j).binding = some b → b.slot ≠ w.slot) → v.till j = s.till j)
                ∧ (s.erasing = false → v.writer2.inFlight.isSome = true)
                ∧ (s.writer2.inFlight.isSome = true → v.writer2.wanted = true)
                ∧ v = { s with keys := v.keys, tills := v.tills, events := v.events, lane := v.lane, ipId := v.ipId
                               writer2 := v.writer2, mgmt := v.mgmt }
                ∧ (s.events.fault = none → u.events.fault =
                    some { code := .keyCheckFail, till := some w.till, slot := some w.slot, location := none, further := 0 })
                ∧ ((∀ j b, (s.till j).binding = some b → b.slot = w.slot → (s.till j).queue = []) → s.laneOpen →
                    u.lane.priority = s.lane.priority ++ [TxFrame.mk (replyFrame m.path s.ipId
                        (be 1 1 ++ be 1 5 ++ be 2 m.number ++ be 4 m.reference ++ be 1 23)) false]
                      ∧ u.count .localRefused = min (s.count .localRefused + 1) 65535
                      ∧ (u.till w.till).refused = min ((s.till w.till).refused + 1) 65535))

/-- R8, R9, R90, R96, R97: WRAPPING builds, in position order, what each item's treatment gives, and refuses TOO-LONG exactly when header,
entries and code would pass 1,420 bytes; a value is padded with a byte of 128 and zeros to whole blocks, and each block, combined with the
starting block or the ciphertext before it, is encrypted under the data key; AUTHENTICATING puts the 29-byte header before the entries and
the code behind them, counts the message in the till's messages wrapped, and erases the key. The model's readings: WRAPPING is taken by a
context in DERIVING and AUTHENTICATING by one in WRAPPING (log 12), and each changes nothing of any other (log 10). -/
def Obligations.WrappedMessageIsBuiltAndSealed : Prop :=
  (∀ (key : Key) (position : Nat) (x : Item) (card : Bytes),
      itemEntries key .pass position x card = [be 1 1 ++ be 1 x.tag ++ be 1 x.value.length ++ x.value]
        ∧ itemEntries key .encrypt position x card =
            [be 1 2 ++ be 1 x.tag ++ be 2 position ++ be 1 (x.value.length / 16 + 1) ++ encryptValue key position x.tag x.value]
        ∧ itemEntries key .encryptMask position x card =
            itemEntries key .encrypt position x card ++ [be 1 3 ++ be 1 250 ++ be 1 card.length ++ card.drop (card.length - 4)]
        ∧ itemEntries key .remove position x card = [])
    ∧ (∀ (key : Key) (position tag : Nat) (v : Bytes),
        let blocks := v.length / 16 + 1
        let padded := v ++ [0x80] ++ List.replicate (16 * blocks - v.length - 1) 0
        let start := BitVec.ofNat 128 (beNat (be 2 position ++ be 1 tag ++ List.replicate 13 0))
        padded.length = 16 * blocks
          ∧ ∃ ys : List Block, encryptValue key position tag v = ys.flatMap (beVec 16) ∧ ys.length = blocks
              ∧ ∀ j, j < blocks → ys[j]? = some (Config.cipherOf key
                  (BitVec.ofNat 128 (field padded (16 * j) 16) ^^^ if j = 0 then start else (ys[j - 1]?).getD 0)))
    ∧ (∀ (s : State) (i : CtxIx) (w : Wrap) (m : TillMsg) (key : Key), s.ctx i = { phase := .derivingKeys, wrap := some w } →
        w.msg = some m → w.dataKey = some key →
        let es := m.items.zipIdx.flatMap (fun x =>
          itemEntries key (treatmentFor w.map w.profile.dflt x.1.tag) x.2 x.1 (m.card.getD []))
        (37 + (es.map List.length).sum ≤ 1420 →
            exec (.wrapping i) s =
              .next (s.setCtx i { phase := .wrapping, wrap := some { w with entries := es, dataKey := none } }))
          ∧ (1420 < 37 + (es.map List.length).sum →
              exec (.wrapping i) s = .next ((s.replyTo w.till m (.refused .tooLong)).ctxToIdle i).settle))
    ∧ (∀ (s : State) (i : CtxIx) (w : Wrap) (m : TillMsg) (key : Key), s.ctx i = { phase := .wrapping, wrap := some w } →
        w.msg = some m → w.authKey = some key →
        let amount := (itemValue m.items 1).map digitsValue
        let body := be 1 1 ++ be 1 m.kind.code ++ be 2 m.number ++ be 1 w.till.val ++ be 1 w.slot.val ++ be 4 w.ksid ++ be 2 w.gen
          ++ be 4 w.counter ++ be 4 m.reference ++ be 1 (if amount.isSome then 1 else 0) ++ be 6 (amount.getD 0)
          ++ be 2 w.entries.length ++ w.entries.flatten
        exec (.authenticating i) s =
          .next ((s.setCtx i { phase := .authenticating
                               wrap := some { w with wrapped := body ++ beVec 8 (authCode key body), authKey := none } }).setTill w.till
            { s.till w.till with wrapped := min ((s.till w.till).wrapped + 1) 65535 }))
    ∧ ∀ (s : State) (i : CtxIx), ((s.ctx i).phase ≠ .derivingKeys → exec (.wrapping i) s = .next s)
        ∧ ((s.ctx i).phase ≠ .wrapping → exec (.authenticating i) s = .next s)

/-- R98 to R104: DECIDING sends a message on a usable line with a gateway, and its Outstanding entry takes the place; it waits in EMITTING
with the place taken where the Uplink Priority Queue is full, and for a place where the Outstanding List is; it answers or holds the
message otherwise, by the profile's policy and the stand-in decision, an accepted one's record being WRITING from then (R104, R157); and a VOID of a held record is refused BUSY or voids it, as R99 finds
it. The model's readings and choices: DECIDING is taken by a context in AUTHENTICATING (log 12), and changes nothing of any other (log 10); a
record that is taken for freeing and carries FORWARDED-ONCE, which fits two rows of R99's table, is BUSY (log 63). -/
def Obligations.DecidingRoutesTheMessage : Prop :=
  (∀ (s : State) (i : CtxIx), (s.ctx i).phase ≠ .authenticating → exec (.deciding i) s = .next s)
    ∧ (∀ (s : State) (till : TillIx) (m : TillMsg), m.kind ≠ .void → s.lookupVoid till m = .open_)
    ∧ (∀ (s : State) (till : TillIx) (m : TillMsg) (reference : Nat), m.kind = .void → originalReference m.items = some reference →
        (s.holding.findPair till reference = none → s.lookupVoid till m = .open_)
          ∧ ∀ l, s.holding.findPair till reference = some l →
              ((l.held = false ∨ l.freeing = true) → s.lookupVoid till m = .busy)
                ∧ (l.held = true → l.freeing = false → (l.draining = true ∨ l.head.forwardedOnce = true) → s.lookupVoid till m = .open_)
                ∧ (l.held = true → l.freeing = false → l.draining = false → l.head.forwardedOnce = false →
                    s.lookupVoid till m = .local_ l.slot))
    ∧ ∀ (s : State) (i : CtxIx) (w : Wrap) (m : TillMsg), s.ctx i = { phase := .authenticating, wrap := some w } → w.msg = some m →
        let d := s.setCtx i { phase := .deciding, wrap := some w }
        let ends := fun r : LocalReply => exec (.deciding i) s = .next ((d.replyTo w.till m r).ctxToIdle i).settle
        let online := w.profile.gateway.ip ≠ 0 ∧ (s.link.state = .up ∨ s.link.state = .suspect)
        let request : StandInRequest :=
          { kind := m.kind, amount := (messageAmount m.items).getD 0, risk := w.profile.risk, till := w.till,
            profileIx := w.profileIx, fp := w.fp }
        let inHand : Bool → InHand := fun v => { isVoid := v, number := m.number, reference := m.reference, path := m.path }
        (s.lookupVoid w.till m = .busy → ends (.refused .busy))
          ∧ (∀ n, s.lookupVoid w.till m = .local_ n →
              exec (.deciding i) s =
                .next ((s.setCtx i { phase := .holding, wrap := some { w with inHand := some (inHand true) } }).requestFree n
                  (.ctx i)).settle)
          ∧ (s.lookupVoid w.till m = .open_ → online → s.placeWait = [] → s.usedPlaces < 256 → s.uplinkOpen →
              ∃ u : State, exec (.deciding i) s = .next u.settle ∧ u.ctx i = { phase := .idle, wrap := none }
                ∧ u.outstanding = s.outstanding ++
                    [{ till := w.till, number := m.number, path := m.path, kind := m.kind, reference := m.reference,
                       profileIx := w.profileIx, slot := w.slot, gen := w.gen, counter := w.counter, amount := messageAmount m.items,
                       fp := w.fp, copy := if w.profile.policy = .alsoOnTimeout then some w.wrapped else none,
                       deadline := s.now + 1000 * w.profile.window }]
                ∧ u.uplink = { s.uplink with priority := s.uplink.priority ++
                    [{ bytes := udpFrame w.profile.gateway.hop s.ownMac m.path.vlan s.settings.store.ownIp w.profile.gateway.ip
                         m.path.dstPort w.profile.gateway.port s.ipId w.wrapped
                       isReset := false }] }
                ∧ u.ipId = (s.ipId + 1) % 65536
                ∧ (w.formerTill = false → (u.till w.till) = { s.till w.till with wrapInFlight := false })
                ∧ u = { s with ctxs := u.ctxs, outstanding := u.outstanding, uplink := u.uplink, ipId := u.ipId, tills := u.tills })
          ∧ (s.lookupVoid w.till m = .open_ → online → s.placeWait = [] → s.usedPlaces < 256 →
              (s.waitOrder ≠ [] ∨ 32 ≤ s.uplink.priority.length) →
              ∃ u : State, exec (.deciding i) s = .next u.settle ∧ u.ctx i = { phase := .emitting, wrap := some { w with place := true } }
                ∧ u.waitOrder = s.waitOrder ++
                    [(.ctx i, { bytes := udpFrame w.profile.gateway.hop s.ownMac m.path.vlan s.settings.store.ownIp w.profile.gateway.ip
                                  m.path.dstPort w.profile.gateway.port s.ipId w.wrapped
                                isReset := false })]
                ∧ u.ipId = (s.ipId + 1) % 65536
                ∧ u = { s with ctxs := u.ctxs, waitOrder := u.waitOrder, ipId := u.ipId })
          ∧ (s.lookupVoid w.till m = .open_ → online → (s.placeWait ≠ [] ∨ 256 ≤ s.usedPlaces) →
              ∃ u : State, exec (.deciding i) s = .next u.settle ∧ u.ctx i = { phase := .emitting, wrap := some w }
                ∧ u.placeWait = s.placeWait ++ [i] ∧ u = { s with ctxs := u.ctxs, placeWait := u.placeWait })
          ∧ (s.lookupVoid w.till m = .open_ → ¬ online →
              (w.profile.policy = .never → ends (.declined .noStandIn))
                ∧ (w.profile.policy ≠ .never →
                    (m.kind = .refund → w.profile.refundsAllowed = false → ends (.declined .refundOffline))
                      ∧ ((m.kind = .refund → w.profile.refundsAllowed = true) →
                          (∀ x, s.standInOutcome request = .inl x → ends (.declined x))
                            ∧ ∀ slot weight, s.standInOutcome request = .inr (slot, weight) →
                                ∃ u : State, exec (.deciding i) s = .next u.settle
                                  ∧ u.ctx i =
                                      { phase := .holding
                                        wrap := some { w with msg := none, entries := [], wrapped := [],
                                                              inHand := some (inHand false) } }
                                  ∧ u.standIn = s.standIn.charge w.till weight (if m.kind = .sale then w.fp else none)
                                  ∧ (let head : RecordHead :=
                                      { seq := s.holding.next, till := w.till, number := m.number, reference := m.reference,
                                        kind := m.kind, weight := weight, fp := if m.kind = .sale then w.fp else none,
                                        forwardedOnce := false }
                                    let writing : IndexLine :=
                                      { slot := slot, held := false, head := head, draining := false, freeing := false, deadline := none,
                                        noticed := false }
                                    (∀ l, l ∈ u.holding.lines ↔ l = writing ∨ l ∈ s.holding.lines)
                                      ∧ u.holding = { s.holding with
                                          lines := u.holding.lines, claimed := s.holding.claimed.filter (fun n => n != slot)
                                          next := s.holding.next + 1
                                          ops := s.holding.ops ++
                                            [.write slot (.ctx i) { head := head, message := w.wrapped, checkPasses := true }] })
                                  ∧ u.count .standInAccepted = min (s.count .standInAccepted + 1) 65535
                                  ∧ u = { s with ctxs := u.ctxs, standIn := u.standIn, holding := u.holding, events := u.events })))

/-- R101: a place of the Outstanding List that becomes free goes to the context that began waiting for one earliest: it takes the place and
offers its frame (R19), which joins the Uplink Priority Queue at once, the context's entry filling the place (R102), or waits for the queue
with the place taken; the contexts behind it wait on. With no place free, or no context waiting, nothing happens. An entry that leaves the
list (R122) and a context abandoned while it holds a place (R56, R106) each free one. -/
def Obligations.FreedPlaceGoesToTheEarliestWaiting : Prop :=
  let serves := fun (s t : State) (i : CtxIx) (w : Wrap) (m : TillMsg) (rest : List CtxIx) =>
    let frame : TxFrame :=
      { bytes := udpFrame w.profile.gateway.hop s.ownMac m.path.vlan s.settings.store.ownIp w.profile.gateway.ip m.path.dstPort
          w.profile.gateway.port s.ipId w.wrapped
        isReset := false }
    t.placeWait = rest ∧ t.ipId = (s.ipId + 1) % 65536 ∧ (∀ j, j ≠ i → t.ctx j = s.ctx j)
      ∧ ((s.waitOrder ≠ [] ∨ 32 ≤ s.uplink.priority.length) →
          t.ctx i = { s.ctx i with wrap := some { w with place := true } } ∧ t.waitOrder = s.waitOrder ++ [(.ctx i, frame)]
            ∧ t = { s with ctxs := t.ctxs, placeWait := rest, waitOrder := t.waitOrder, ipId := t.ipId })
      ∧ (s.uplinkOpen →
          t.ctx i = { phase := .idle, wrap := none }
            ∧ t.outstanding = s.outstanding ++
                [{ till := w.till, number := m.number, path := m.path, kind := m.kind, reference := m.reference,
                   profileIx := w.profileIx, slot := w.slot, gen := w.gen, counter := w.counter, amount := messageAmount m.items,
                   fp := w.fp, copy := if w.profile.policy = .alsoOnTimeout then some w.wrapped else none,
                   deadline := s.now + 1000 * w.profile.window }]
            ∧ t.uplink = { s.uplink with priority := s.uplink.priority ++ [frame] }
            ∧ t = { s with ctxs := t.ctxs, placeWait := rest, outstanding := t.outstanding, uplink := t.uplink, ipId := t.ipId
                           tills := t.tills })
  (∀ s : State, (s.placeWait = [] ∨ 256 ≤ s.usedPlaces) → s.servePlaces = s)
    ∧ (∀ (s : State) (i : CtxIx) (w : Wrap) (m : TillMsg) (rest : List CtxIx), s.placeWait = i :: rest → s.usedPlaces = 255 →
        (s.ctx i).wrap = some w → w.msg = some m → w.place = false → serves s s.servePlaces i w m rest)
    ∧ (∀ (s : State) (e : OutEntry) (i : CtxIx) (w : Wrap) (m : TillMsg) (rest : List CtxIx), s.placeWait = i :: rest →
        s.usedPlaces = 256 → (s.ctx i).wrap = some w → w.msg = some m → w.place = false → e ∈ s.outstanding →
        (s.outstanding.map (fun x => (x.till, x.reference))).Nodup →
        ∃ v : State, serves v (s.removeEntry e) i w m rest ∧ v.outstanding = s.outstanding.erase e
          ∧ v = { s with outstanding := v.outstanding, keys := v.keys })
    ∧ ∀ (s : State) (till : TillIx) (c i : CtxIx) (x w : Wrap) (y m : TillMsg) (rest : List CtxIx), s.placeWait = i :: rest →
        s.usedPlaces = 256 → (s.ctx i).wrap = some w → w.msg = some m → w.place = false → c ∉ s.placeWait →
        (s.ctx c).wrap = some x → (s.ctx c).phase = .emitting → x.place = true → x.till = till → x.msg = some y →
        (∀ d v, d ≠ c → (s.ctx d).wrap = some v → v.till ≠ till) →
        ∃ v : State, serves v (s.loseReservation till).1 i w m rest ∧ (s.loseReservation till).2 = some y
          ∧ v.ctx c = { phase := .idle, wrap := none } ∧ (∀ d, d ≠ c → v.ctx d = s.ctx d)
          ∧ v.waitOrder = s.waitOrder.filter (fun z => z.1 != .ctx c)
          ∧ v.count .reservationLost = min (s.count .reservationLost + 1) 65535
          ∧ v = { s with ctxs := v.ctxs, tills := v.tills, waitOrder := v.waitOrder, events := v.events, holding := v.holding }

/-! ### Stand-in -/

/-- R146, R147, R148: W is A × w / 100 rounded up for a SALE and 0 otherwise; a stand-in decision uses that W, is accepted exactly when the
request passes every check of the table, and then names the lowest-numbered usable slot; the checks decline in the table's order. Check 1
passes for a fingerprint computed under the fingerprint key record in place, unmarked, with no load of another in flight or waiting (that a
waiting load counts is the model's reading, log 27). R148, R149, R152: a charge adds W to the till's and the store's total and to the card
entry of the fingerprint, or appends one; a release takes the same out, and an entry whose count reaches 0 leaves the list. -/
def Obligations.StandInChecksInOrder : Prop :=
  (∀ amount risk, amount * risk ≤ 100 * weightOf .sale amount risk ∧ 100 * weightOf .sale amount risk < amount * risk + 100
      ∧ weightOf .refund amount risk = 0 ∧ weightOf .void amount risk = 0)
    ∧ (∀ (s : State) (slot : Nat), s.holding.usableSlot = some slot ↔
        s.holding.next ≤ 4294967295 ∧ slot < 4096 ∧ (∀ l ∈ s.holding.lines, l.slot ≠ slot) ∧ slot ∉ s.holding.bad
          ∧ slot ∉ s.holding.claimed
          ∧ ∀ n < slot, (∃ l ∈ s.holding.lines, l.slot = n) ∨ n ∈ s.holding.bad ∨ n ∈ s.holding.claimed)
    ∧ (∀ (s : State) (r : StandInRequest),
        let w := weightOf r.kind r.amount r.risk
        (∀ slot weight, s.standInOutcome r = .inr (slot, weight) ↔
            s.standInRefusal r w = none ∧ s.holding.usableSlot = some slot ∧ weight = w)
          ∧ (∀ x, s.standInOutcome r = .inl x ↔ s.standInRefusal r w = some x))
    ∧ (∀ (s : State) (fp : Option Fingerprint), s.cardCheckable fp = true ↔
        ∃ f k, fp = some f ∧ s.keys.fp = some k ∧ k.failed = false ∧ f.gen = k.gen ∧ (∀ r, .loadFp r ∉ s.writer2.waiting)
          ∧ ∀ w r, s.writer2.inFlight = some w → w.void = false → .loadFp r ∉ w.additions)
    ∧ (∀ (s : State) (r : StandInRequest) (w : Nat),
        let p := s.profile r.profileIx
        let c1 := r.kind = .sale → s.cardCheckable r.fp = true
        let c2 := w ≤ p.l1
        let c3 := s.standIn.tillTotals[r.till] + w ≤ p.lt
        let c4 := s.standIn.storeTotal + w ≤ s.settings.storeLimit
        let c5 := r.kind = .sale → ∀ c, s.cardEntry r.fp = some c → c.count + 1 ≤ p.nc ∧ c.total + w ≤ p.lc
        let c6 := r.kind = .sale → s.cardEntry r.fp = none → s.standIn.cards.length < 512
        let c7 := s.holding.usableSlot.isSome = true
        (s.standInRefusal r w = none ↔ c1 ∧ c2 ∧ c3 ∧ c4 ∧ c5 ∧ c6 ∧ c7)
          ∧ (¬ c1 → s.standInRefusal r w = some .cardCheckUnavailable)
          ∧ (c1 → ¬ c2 → s.standInRefusal r w = some .overSingle)
          ∧ (c1 → c2 → ¬ c3 → s.standInRefusal r w = some .overTill)
          ∧ (c1 → c2 → c3 → ¬ c4 → s.standInRefusal r w = some .overStore)
          ∧ (c1 → c2 → c3 → c4 → ¬ c5 → s.standInRefusal r w = some .overCard)
          ∧ (c1 → c2 → c3 → c4 → c5 → ¬ c6 → s.standInRefusal r w = some .cardListFull)
          ∧ (c1 → c2 → c3 → c4 → c5 → c6 → ¬ c7 → s.standInRefusal r w = some .storeFull))
    ∧ (∀ (x : StandIn) (till : TillIx) (w : Nat) (fp : Option Fingerprint),
        let charged := x.charge till w fp
        let released := x.release till w fp
        charged.storeTotal = x.storeTotal + w ∧ charged.tillTotals[till] = x.tillTotals[till] + w
          ∧ released.storeTotal = x.storeTotal - w ∧ released.tillTotals[till] = x.tillTotals[till] - w
          ∧ (∀ i : TillIx, i ≠ till →
              charged.tillTotals[i] = x.tillTotals[i] ∧ released.tillTotals[i] = x.tillTotals[i])
          ∧ (fp = none → charged.cards = x.cards ∧ released.cards = x.cards)
          ∧ (∀ f, fp = some f → (∀ c ∈ x.cards, c.fp ≠ f) → charged.cards = x.cards ++ [{ fp := f, count := 1, total := w }]
              ∧ released.cards = x.cards.filter (fun d => d.count != 0))
          ∧ ∀ f before c after, fp = some f → x.cards = before ++ c :: after → c.fp = f → (∀ d ∈ before, d.fp ≠ f) →
              charged.cards = before ++ { c with count := c.count + 1, total := c.total + w } :: after
                ∧ released.cards = (before ++ { c with count := c.count - 1, total := c.total - w } :: after).filter (fun d => d.count != 0))

/-- R46, R127 to R130: an expiry removes its entry, is a failure and counts REPLY-EXPIRED; outside SERVING, or with no copy, the till is
answered TIMED-OUT; with a copy a stand-in is asked for under the profile as it stands, and an acceptance requests the write of a record
marked FORWARDED-ONCE and keeps a hold note; with the last entry of a slot and generation the previous record it needed is dropped (R65).
R131: an expiry whose entry is gone finds nothing. -/
def Obligations.ReplyWindowExpiryAnswersTheTill : Prop :=
  (∀ (s : State) (till : TillIx) (reference : Nat), s.entryOf till reference = none → exec (.replyWindowExpiry till reference) s = .next s)
    ∧ ∀ (s : State) (till : TillIx) (reference : Nat) (e : OutEntry), s.entryOf till reference = some e → s.placeWait = [] →
        let p := s.profile e.profileIx
        let request : StandInRequest :=
          { kind := e.kind, amount := e.amount.getD 0, risk := p.risk, till := e.till, profileIx := e.profileIx, fp := e.fp }
        ∃ u : State, exec (.replyWindowExpiry till reference) s = .next u.settle
          ∧ u.outstanding = s.outstanding.eraseP (fun x => x.till == till && x.reference == reference)
          ∧ u.link = s.linkFailure.link ∧ u.count .replyExpired = min (s.count .replyExpired + 1) 65535
          ∧ u.ctxs = s.ctxs ∧ u.counters = s.counters ∧ u.opState = s.opState ∧ u.settings = s.settings ∧ u.store = s.store
          ∧ ((∃ x ∈ u.outstanding, x.slot = e.slot ∧ x.gen = e.gen) → u.keys = s.keys)
          ∧ ((∀ x ∈ u.outstanding, x.slot = e.slot → x.gen ≠ e.gen) → u.keys.fp = s.keys.fp ∧ u.keys.fpFloor = s.keys.fpFloor
              ∧ (∀ k, k ≠ e.slot → u.slot k = s.slot k)
              ∧ ((∃ x, (s.slot e.slot).previous = some x ∧ x.gen = e.gen) → u.slot e.slot = { s.slot e.slot with previous := none })
              ∧ ((∀ x, (s.slot e.slot).previous = some x → x.gen ≠ e.gen) → u.slot e.slot = s.slot e.slot))
          ∧ ((e.copy = none ∨ s.opState ≠ .serving) → s.laneOpen →
              u.lane.priority = s.lane.priority ++
                  [{ bytes := replyFrame e.path s.ipId (be 1 1 ++ be 1 6 ++ be 2 e.number ++ be 4 e.reference ++ be 1 0)
                     isReset := false }]
                ∧ u.standIn = s.standIn ∧ u.holding.ops = s.holding.ops ∧ u.holdNotes = s.holdNotes)
          ∧ (∀ copy x, e.copy = some copy → s.opState = .serving →
              (e.kind = .refund ∧ p.refundsAllowed = false ∧ x = .refundOffline
                ∨ (e.kind = .refund → p.refundsAllowed = true) ∧ s.standInOutcome request = .inl x) → s.laneOpen →
              u.lane.priority = s.lane.priority ++
                  [{ bytes := replyFrame e.path s.ipId (be 1 1 ++ be 1 4 ++ be 2 e.number ++ be 4 e.reference ++ be 1 x.code)
                     isReset := false }]
                ∧ u.standIn = s.standIn ∧ u.holding.ops = s.holding.ops ∧ u.holdNotes = s.holdNotes)
          ∧ ∀ copy slot weight, e.copy = some copy → s.opState = .serving → (e.kind = .refund → p.refundsAllowed = true) →
              s.standInOutcome request = .inr (slot, weight) →
              u.standIn = s.standIn.charge e.till weight (if e.kind = .sale then e.fp else none)
                ∧ u.holding.ops = s.holding.ops ++
                    [.write slot .matcher
                      { head := { seq := s.holding.next, till := e.till, number := e.number, reference := e.reference, kind := e.kind,
                                  weight := weight, fp := if e.kind = .sale then e.fp else none, forwardedOnce := true }
                        message := copy, checkPasses := true }]
                ∧ u.holding.next = s.holding.next + 1
                ∧ (∃ l ∈ u.holding.lines, l.slot = slot ∧ l.held = false ∧ l.head.seq = s.holding.next ∧ l.head.till = e.till
                    ∧ l.head.reference = e.reference ∧ l.head.weight = weight ∧ l.head.forwardedOnce = true ∧ l.draining = false
                    ∧ l.freeing = false ∧ l.noticed = false)
                ∧ u.holdNotes = s.holdNotes ++
                    [{ seq := s.holding.next, till := e.till, number := e.number, reference := e.reference, path := e.path }]
                ∧ u.lane = s.lane

/-! ### The link, probes and timers -/

/-- R138, R141, R143, R164, R168: what a success and a failure make of each link state; entering UP starts the settle timer, and with a
settle time of 0 lets an ARMED drain run at once; leaving UP stops the timer, clears the settled flag and takes a RUNNING drain to ARMED,
ending its pass: every DRAINING record is HELD with no deadline again, the frame in hand is given up and the cursor returns to 0; nothing
else is touched. -/
def Obligations.LinkStateFollowsItsTable : Prop :=
  ∀ s : State,
    let up := s.settings.link.nUp
    let down := s.settings.link.nDown
    let good := s.linkSuccess
    let bad := s.linkFailure
    let isUp := fun t : State => t.link.state = .up ∧ t.link.run = 0
      ∧ t.link.settleTimer = (if s.settings.link.settle = 0 then none else some (s.now + 1000 * s.settings.link.settle))
      ∧ t.link.settled = (s.settings.link.settle == 0)
    let isDown := fun t : State => t.link.state = .down ∧ t.link.run = 0
    let counted := fun (t : State) (e : EventCode) => t.count e = min (s.count e + 1) 65535
    (s.link.physicalUp = false → good = s)
      ∧ (s.link.physicalUp = true →
          (s.link.state = .up → good = s)
            ∧ (s.link.state = .suspect → isUp good ∧ good.events = s.events)
            ∧ (s.link.state = .down → (up ≤ 1 → isUp good ∧ counted good .linkUp)
                ∧ (1 < up → good = { s with link := { s.link with state := .recovering, run := 1 } }))
            ∧ (s.link.state = .recovering → (up ≤ s.link.run + 1 → isUp good ∧ counted good .linkUp)
                ∧ (s.link.run + 1 < up → good = { s with link := { s.link with run := s.link.run + 1 } })))
      ∧ (s.link.state = .up → bad.link.settleTimer = none ∧ bad.link.settled = false
          ∧ (s.drain.state = .running →
              bad.drain = { s.drain with state := .armed, cursor := 0, inHand := none }
                ∧ bad.holding = { s.holding with
                    lines := s.holding.lines.map (fun l => { l with draining := false, deadline := none }) }
                ∧ bad.waitOrder = s.waitOrder.filter (fun x => x.1 != .drain))
          ∧ (down ≤ 1 → isDown bad ∧ counted bad .linkDown)
          ∧ (1 < down → bad.link.state = .suspect ∧ bad.link.run = 1 ∧ bad.events = s.events))
      ∧ (s.link.state = .suspect → (down ≤ s.link.run + 1 → isDown bad ∧ counted bad .linkDown)
          ∧ (s.link.run + 1 < down → bad = { s with link := { s.link with run := s.link.run + 1 } }))
      ∧ (s.link.state = .down → bad = s)
      ∧ (s.link.state = .recovering → bad = { s with link := { s.link with state := .down, run := 0 } })
      ∧ ((s.link.state ≠ .up ∨ s.drain.state ≠ .running) →
          bad.drain = s.drain ∧ bad.holding = s.holding ∧ bad.waitOrder = s.waitOrder)
      ∧ (let runs := good.link.state = .up ∧ s.link.state ≠ .up ∧ s.settings.link.settle = 0 ∧ s.drain.state = .armed
            ∧ s.settings.store.drainGw.ip ≠ 0
        (runs → good.drain = { s.drain with state := .running, cursor := 0 }) ∧ (¬ runs → good.drain = s.drain))
      ∧ good = { s with link := good.link, drain := good.drain, events := good.events }
      ∧ bad = { s with link := bad.link, drain := bad.drain, events := bad.events, waitOrder := bad.waitOrder, holding := bad.holding }

/-- R139, R140, R143, R13: the probe timer restarts at its expiry and sends a probe, which is awaited until 2 s after it was placed, or waits
in hand while the Uplink Priority Queue is full, unless one is still in hand or there is no probe gateway; a deadline that expires is
PROBE-LOST and a failure (R140: one whose probe is awaited no more finds nothing); an awaited answer is a success, and any other payload
from the probe gateway is PROBE-UNMATCHED; the settle timer sets the settled flag and lets an ARMED drain run. The model's choice (log 10):
the expiry of a probe timer or a settle timer that does not run changes nothing.
R167, R178: an acknowledgement deadline that expires while the drain is RUNNING is DRAIN-TIMEOUT and a failure, and the pass ends to
ARMED with every DRAINING record back in HELD; a waiting command whose limit expires is answered QUIET-TIMEOUT and not carried out. The
model's choice (log 10): an expiry for a record without a running deadline, or with no command waiting, changes nothing. -/
def Obligations.ProbeSettleDrainAndQuietTimers : Prop :=
  (∀ s : State, s.link.probeTimer.isSome = true →
      let timer := some (s.now + 1000 * s.settings.link.interval)
      let g := s.settings.store.probeGw
      let n := (s.link.probeCount + 1) % 4294967296
      ((s.link.inHand.isSome = true ∨ g.ip = 0) →
          exec .probeTimerExpiry s = .next { s with link := { s.link with probeTimer := timer } })
        ∧ (s.link.inHand = none → g.ip ≠ 0 → s.uplinkOpen →
            exec .probeTimerExpiry s =
              .next { s with
                link := { s.link with probeTimer := timer, probeCount := n, awaited := s.link.awaited ++ [(n, s.now + 2000)] }
                ipId := (s.ipId + 1) % 65536
                uplink := { s.uplink with priority := s.uplink.priority ++
                  [{ bytes := udpFrame g.hop s.ownMac none s.settings.store.ownIp g.ip g.port g.port s.ipId
                       (be 1 1 ++ be 1 1 ++ be 4 n ++ beVec 8 s.serial)
                     isReset := false }] } })
        ∧ (s.link.inHand = none → g.ip ≠ 0 → (s.waitOrder ≠ [] ∨ 32 ≤ s.uplink.priority.length) →
            exec .probeTimerExpiry s =
              .next { s with
                link := { s.link with probeTimer := timer, probeCount := n, inHand := some n }
                ipId := (s.ipId + 1) % 65536
                waitOrder := s.waitOrder ++ [(.monitor,
                  { bytes := udpFrame g.hop s.ownMac none s.settings.store.ownIp g.ip g.port g.port s.ipId
                      (be 1 1 ++ be 1 1 ++ be 4 n ++ beVec 8 s.serial)
                    isReset := false })] }))
    ∧ (∀ s : State, s.link.probeTimer = none → exec .probeTimerExpiry s = .next s)
    ∧ (∀ (s : State) (n : Nat), (∀ d, (n, d) ∉ s.link.awaited) → exec (.probeDeadlineExpiry n) s = .next s)
    ∧ (∀ (s : State) (n d : Nat), (n, d) ∈ s.link.awaited →
        let taken : State := { s with link := { s.link with awaited := s.link.awaited.filter (fun x => x.1 != n) } }
        exec (.probeDeadlineExpiry n) s = .next (taken.linkFailure.raise .probeLost).settle)
    ∧ (∀ (s : State) (p : Bytes),
        let good := p.length = 14 ∧ field p 0 1 = 1 ∧ field p 1 1 = 2 ∧ authCode s.mgmtKey (p.take 6) = codeOf p
          ∧ ∃ d, (field p 2 4, d) ∈ s.link.awaited
        (good → s.takeProbeAnswer p =
            State.linkSuccess { s with link := { s.link with awaited := s.link.awaited.filter (fun x => x.1 != field p 2 4) } })
          ∧ (¬ good → s.takeProbeAnswer p = s.raise .probeUnmatched))
    ∧ (∀ s : State, s.link.settleTimer = none → exec .settleTimerExpiry s = .next s)
    ∧ (∀ s : State, s.link.settleTimer.isSome = true →
        exec .settleTimerExpiry s =
          .next (State.settle
            { s with
              link := { s.link with settleTimer := none, settled := true }
              drain := if s.drain.state = .armed ∧ s.link.state = .up ∧ s.settings.store.drainGw.ip ≠ 0
                       then { s.drain with state := .running, cursor := 0 } else s.drain }))
    ∧ (∀ (s : State) (q : Nat), s.drain.state = .running →
      (∃ l ∈ s.holding.lines, l.head.seq = q ∧ l.draining = true ∧ l.deadline.isSome = true) →
      ∃ u : State, exec (.drainTimeout q) s = .next u.settle ∧ u.drain.state = .armed ∧ u.drain.cursor = 0 ∧ u.drain.inHand = none
        ∧ u.drain.tally = s.drain.tally ∧ u.drain.summary = s.drain.summary
        ∧ u.holding = { s.holding with lines := s.holding.lines.map (fun l => { l with draining := false, deadline := none }) }
        ∧ u.link = s.linkFailure.link ∧ u.waitOrder = s.waitOrder.filter (fun x => x.1 != .drain)
        ∧ u.count .drainTimeout = min (s.count .drainTimeout + 1) 65535
        ∧ u = { s with drain := u.drain, holding := u.holding, link := u.link, waitOrder := u.waitOrder, events := u.events })
    ∧ (∀ (s : State) (q : Nat),
        (s.drain.state ≠ .running ∨ ∀ l ∈ s.holding.lines, l.head.seq = q → l.draining = true → l.deadline = none) →
        exec (.drainTimeout q) s = .next s)
    ∧ (∀ s : State, (∃ j ∈ s.mgmt.jobs, ∃ h limit, j.role = .waiting h (some limit)) →
        exec .quietWaitLimitExpiry s =
          .next (State.settle
            { s with
              events := (s.raise .quietTimeout).events
              mgmt := { s.mgmt with jobs := s.mgmt.jobs.map (fun j =>
                match j.role with
                | .waiting _ (some _) => { j with status := .quietTimeout, results := .bytes [], role := .late }
                | _ => j) } }))
    ∧ ∀ s : State, (∀ j ∈ s.mgmt.jobs, ∀ h limit, j.role ≠ .waiting h (some limit)) → exec .quietWaitLimitExpiry s = .next s

/-- R164: in AUTO mode an IDLE drain is armed while the part is SERVING, drain is not suspended and a record is HELD, and runs at once where
the line is UP and settled and there is a drain gateway; in any other state it is not armed so. R12, R165: one turn of a RUNNING controller
with no record in hand and room in its window takes a record of lowest sequence above the pass cursor among those HELD, neither DRAINING nor
taken for freeing: its DRAINING mark and the cursor are set, and its drain record, or the damaged notice with RECORD-DAMAGED, is placed with
its deadline set and a notice noted as sent, or in hand while it waits for the queue, with nothing noted; with none to take and none DRAINING or being freed, a new pass begins, or the
drain completes (R170). That arming and turns come at the end of a step is the model's choice (log 50). -/
def Obligations.DrainTakesRecordsInOrder : Prop :=
  (∀ s : State,
      let armed := s.settings.store.mode = .auto ∧ s.drain.state = .idle ∧ s.opState = .serving ∧ s.settings.suspended = false
        ∧ ∃ l ∈ s.holding.lines, l.held = true
      let runs := s.link.state = .up ∧ s.link.settled = true ∧ s.settings.store.drainGw.ip ≠ 0
      (armed → runs → s.autoArm = { s with drain := { s.drain with state := .running, cursor := 0 } })
        ∧ (armed → ¬ runs → s.autoArm = { s with drain := { s.drain with state := .armed } })
        ∧ (¬ armed → s.autoArm = s))
    ∧ (∀ s : State, (∀ j ∈ s.mgmt.jobs, ∀ h limit, j.role ≠ .waiting h (some limit)) →
        s.settle = ((((State.drainTurns 12 s.autoArm).answerJobs).offerResponses).grants).resetIfGone)
    ∧ ∀ s : State,
        let open_ := s.drain.state = .running ∧ s.drain.inHand = none
          ∧ (s.holding.lines.filter (·.draining)).length < s.settings.store.window
        let eligible := fun l : IndexLine =>
          l ∈ s.holding.lines ∧ l.held = true ∧ l.draining = false ∧ l.freeing = false ∧ s.drain.cursor < l.head.seq
        let t := s.drainTurn
        (¬ open_ → t = s)
          ∧ (open_ → (∀ l, ¬ eligible l) →
              ((∃ l ∈ s.holding.lines, l.draining = true ∨ l.freeing = true) → t = s)
                ∧ ((∀ l ∈ s.holding.lines, l.draining = false ∧ l.freeing = false) →
                    ((∃ l ∈ s.holding.lines, l.held = true) → t = { s with drain := { s.drain with cursor := 0 } })
                      ∧ ((∀ l ∈ s.holding.lines, l.held = false) →
                          t.count .drainComplete = min (s.count .drainComplete + 1) 65535
                            ∧ t.drain = { state := .idle, cursor := 0, inHand := none, tally := emptyTally
                                          summary := some { tally := s.drain.tally, unread := true
                                                            overwritten := (s.drain.summary.map (·.unread)).getD false } }
                            ∧ t = { s with drain := t.drain, events := t.events })))
          ∧ (open_ → (∃ l, eligible l) → ∃ l, eligible l ∧ (∀ x, eligible x → l.head.seq ≤ x.head.seq)
              ∧ ∃ (body : Bytes) (noticed : Bool),
                (∀ (v : NvSlot) (r : HeldRecord), s.holding.nv.find? (fun x => x.slot == l.slot) = some v → v.contents = some r →
                    r.checkPasses = true →
                    noticed = false ∧ body = be 1 1 ++ be 1 (if l.head.forwardedOnce then 1 else 0) ++ be 4 l.head.seq
                      ++ beVec 8 s.serial ++ r.message)
                  ∧ ((∀ (v : NvSlot) (r : HeldRecord), s.holding.nv.find? (fun x => x.slot == l.slot) = some v → v.contents = some r →
                        r.checkPasses = false) →
                      noticed = true ∧ body = be 1 1 ++ be 1 2 ++ be 4 l.head.seq ++ beVec 8 s.serial ++ be 2 l.head.number
                        ++ be 4 l.head.reference ++ be 6 l.head.weight)
                  ∧ t.count .recordDamaged = (if noticed then min (s.count .recordDamaged + 1) 65535 else s.count .recordDamaged)
                  ∧ t.drain.cursor = l.head.seq ∧ t.drain.state = .running ∧ t.drain.tally = s.drain.tally
                  ∧ t.holding.lines.map (·.head) = s.holding.lines.map (·.head)
                  ∧ (∀ x ∈ s.holding.lines, x.slot ≠ l.slot → x.head.seq ≠ l.head.seq → x ∈ t.holding.lines)
                  ∧ t.ipId = (s.ipId + 1) % 65536
                  ∧ t = { s with drain := t.drain, holding := { s.holding with lines := t.holding.lines }, events := t.events
                                 uplink := t.uplink, waitOrder := t.waitOrder, ipId := t.ipId }
                  ∧ let g := s.settings.store.drainGw
                    let frame : TxFrame :=
                      { bytes := udpFrame g.hop s.ownMac none s.settings.store.ownIp g.ip g.port g.port s.ipId
                          (body ++ beVec 8 (authCode s.mgmtKey body))
                        isReset := false }
                    (s.uplinkOpen → t.uplink = { s.uplink with priority := s.uplink.priority ++ [frame] } ∧ t.drain.inHand = none
                        ∧ { l with draining := true, noticed := l.noticed || noticed
                                   deadline := some (s.now + 1000 * s.settings.store.ackTimeout) } ∈ t.holding.lines)
                      ∧ ((s.waitOrder ≠ [] ∨ 32 ≤ s.uplink.priority.length) →
                          t.waitOrder = s.waitOrder ++ [(.drain, frame)] ∧ t.drain.inHand = some l.head.seq
                            ∧ { l with draining := true } ∈ t.holding.lines))

/-! ### The ends of writes -/

/-- R52, R53, R60: a sector 3 write that completes gives each carried raise's entry its target as checkpoint, with flag and mark clear, and
each carried activation its fresh column; one that fails, under LENIENT, leaves every checkpoint and every next value, marks the entries
whose raises it carried or, in a carried activation's column, replaced, and is CHECKPOINT-FAIL once, naming the lowest slot and till of the
carried raises; the queues of the tills it halts are refused. (Under STRICT: `StrictFailuresEnterLockdown`.) The model's choices: a
raise requested since the activation's write began ends with it when it completes, with the ENABLE-TILL that asked for it, and stays
requested and unmarked when it fails (log 52); and the end of a write that is not in flight changes nothing (log 10). -/
def Obligations.CheckpointWriteEndsItsRaises : Prop :=
  (∀ s : State, s.counters.inFlight = none → exec .checkpointWriteComplete s = .next s ∧ exec .checkpointWriteFail s = .next s)
    ∧ ∀ (s : State) (w : Write3), s.counters.inFlight = some w → w.erase = false → w.void = false →
        (∀ p ∈ w.raises, p.1 ∉ w.activations) →
        (∃ u : State, exec .checkpointWriteComplete s = .next u.settle ∧ u.store = { s.store with sec3 := .good w.contents }
            ∧ (∀ k i, (k, i) ∈ w.raises →
                u.ctr k i = { c := (s.ctr k i).c, k := (s.ctr k i).raise.getD (s.ctr k i).k, raise := none, failed := false })
            ∧ (∀ k i, k ∈ w.activations → u.ctr k i = { c := 0, k := 256, raise := none, failed := false })
            ∧ (∀ k i, (k, i) ∉ w.raises → k ∉ w.activations → u.ctr k i = s.ctr k i)
            ∧ (∀ k ∈ w.activations, (u.slot k).busy = false) ∧ (∀ k, k ∉ w.activations → u.slot k = s.slot k)
            ∧ (∀ k ∈ w.activations, ∀ i, (k, i) ∉ u.counters.pending ∧ (∀ x, u.counters.inFlight = some x → (k, i) ∉ x.raises)
                ∧ ∀ (n : Nat) (j : Job), s.mgmt.jobs[n]? = some j → j.cmd = some (.enableTill i.val) → j.s3 = .queued →
                    (k, i) ∈ s.counters.pending → ∃ j' : Job, u.mgmt.jobs[n]? = some j' ∧ j'.s3 = .no)
            ∧ (s.count .keyActivated ≤ 65535 →
                u.count .keyActivated = min (s.count .keyActivated + w.activations.length) 65535)
            ∧ u.count .checkpointFail = s.count .checkpointFail
            ∧ u = { s with store := u.store, counters := u.counters, keys := u.keys, events := u.events, mgmt := u.mgmt,
                           startup := u.startup })
          ∧ (s.settings.store.policy = .lenient →
              ∃ u : State, exec .checkpointWriteFail s = .next u.settle ∧ u.store = s.store
                ∧ (∀ k i, (u.ctr k i).c = (s.ctr k i).c ∧ (u.ctr k i).k = (s.ctr k i).k)
                ∧ (∀ k i, (k, i) ∈ w.raises → (u.ctr k i).raise = none ∧ (u.ctr k i).failed = true)
                ∧ (∀ k i, (k, i) ∉ w.raises → k ∉ w.activations → u.ctr k i = s.ctr k i)
                ∧ (∀ k ∈ w.activations, ∀ i, u.ctr k i =
                    (if (s.ctr k i).raise.isSome ∧ (k, i) ∉ s.counters.pending then { s.ctr k i with raise := none, failed := true }
                     else s.ctr k i))
                ∧ (∀ k ∈ w.activations, (u.slot k).busy = false)
                ∧ (s.events.fault = none → w.raises ≠ [] → ∃ k i, (k, i) ∈ w.raises
                    ∧ (∀ p ∈ w.raises, k < p.1 ∨ k = p.1 ∧ i ≤ p.2)
                    ∧ u.events.fault = some { code := .checkpointFail, till := some i, slot := some k, location := none, further := 0 })
                ∧ u.count .checkpointFail = min (s.count .checkpointFail + 1) 65535 ∧ u.opState = s.opState
                ∧ (∀ i b, (s.till i).binding = some b → b.enabled = true → (s.ctr b.slot i).c ≠ 1048576 →
                    (u.ctr b.slot i).failed = true → (u.till i).queue = [])
                ∧ u.standIn = s.standIn ∧ u.holding = s.holding ∧ u.outstanding = s.outstanding ∧ u.ctxs = s.ctxs
                ∧ u.settings = s.settings ∧ u.uplink = s.uplink)

/-- R64, R68, R69, R72, R73, R75, R76, R84: a sector 1 or 2 write that completes puts its contents in the sector, and what it carried takes effect, of
however many commands: LOAD-KEY's record is staged and the busy mark clears, the fingerprint key takes its floor, an activation makes the
staged record current and asks for its counter column; and one new write begins that carries what has waited, over the Key Table as it then
stands. A slot that R84 has faulted since its activation was carried out is FAULTED in both, as R64 has it until it is emptied (its standing
before R75's ACTIVE is the model's reading, log 53). A write that fails leaves the sector, makes no addition and is NV-WRITE-FAIL, naming the
sector and the slot of a write that carried one (none of several: log 55). (Under STRICT: `StrictFailuresEnterLockdown`.) The model's
choice: the end of a write that is not in flight changes nothing (log 10). -/
def Obligations.SectorWriteEndsInstallWhatTheyCarry : Prop :=
  (∀ s : State, (s.writer1.inFlight = none →
        exec (.sectorWriteComplete .settings) s = .next s ∧ exec (.sectorWriteFail .settings) s = .next s)
      ∧ (s.writer2.inFlight = none → exec (.sectorWriteComplete .keys) s = .next s ∧ exec (.sectorWriteFail .keys) s = .next s))
    ∧ (∀ (s : State) (c : Sector1), s.writer1.inFlight = some (some c) →
        (∃ u : State, exec (.sectorWriteComplete .settings) s = .next u.settle ∧ u.store = { s.store with sec1 := .good c }
            ∧ u.mgmt.jobs.length = s.mgmt.jobs.length ∧ (s.writer1.wanted = false → s.writer1.eraseWanted = false →
                u.writer1.inFlight = none ∧ ∀ j ∈ u.mgmt.jobs, j.s1 ≠ .inFlight)
            ∧ u = { s with store := u.store, writer1 := u.writer1, mgmt := u.mgmt })
          ∧ (s.settings.store.policy = .lenient →
              ∃ u : State, exec (.sectorWriteFail .settings) s = .next u.settle
                ∧ u.count .nvWriteFail = min (s.count .nvWriteFail + 1) 65535
                ∧ (s.events.fault = none → u.events.fault =
                    some { code := .nvWriteFail, till := none, slot := none, location := some (.sector 1), further := 0 })
                ∧ u = { s with events := u.events, writer1 := u.writer1, mgmt := u.mgmt }))
    ∧ ∀ (s : State) (w : Write2) (c : Sector2), s.writer2.inFlight = some w → w.contents = some c →
        (w.additions.filterMap KeyAddition.slot?).Nodup → (∀ r r', .loadFp r ∈ w.additions → .loadFp r' ∈ w.additions → r = r') →
        w.void = false → w.thenErase3 = false → w.zeroise = false →
        let carries := fun a : KeyAddition => a ∈ w.additions
        let slots := w.additions.filterMap KeyAddition.slot?
        (∃ u : State, exec (.sectorWriteComplete .keys) s = .next u.settle ∧ u.store = { s.store with sec2 := .good c }
            ∧ (∀ k, k ∉ slots → u.slot k = s.slot k)
            ∧ (∀ k r, carries (.load k r) → u.slot k = { s.slot k with staged := some r, busy := false })
            ∧ (∀ r, carries (.loadFp r) → u.keys.fp = some r ∧ u.keys.fpFloor = r.gen)
            ∧ ((∀ r, ¬ carries (.loadFp r)) → u.keys.fp = s.keys.fp ∧ u.keys.fpFloor = s.keys.fpFloor)
            ∧ (s.count .keyLoaded ≤ 65535 → u.count .keyLoaded = min (s.count .keyLoaded
                + (w.additions.filter (fun a => match a with | .activate _ => false | _ => true)).length) 65535)
            ∧ (∀ k, carries (.activate k) →
                (u.slot k).current = (s.slot k).staged ∧ (u.slot k).staged = none
                  ∧ (u.slot k).state = (if (s.slot k).state = .faulted then .faulted else .active)
                  ∧ (∀ r, (s.slot k).staged = some r → (u.slot k).floor = r.gen)
                  ∧ (∀ r, (s.slot k).current = some r →
                      (u.slot k).previous = if s.outstanding.any (fun e => e.slot == k && e.gen == r.gen) then some r else none)
                  ∧ (u.slot k).busy = (s.slot k).busy
                  ∧ (s.counters.eraseWanted = false →
                      k ∈ u.counters.activations ∨ ∃ x, u.counters.inFlight = some x ∧ k ∈ x.activations)
                  ∧ (w.additions = [.activate k] → s.counters.inFlight = none → s.counters.eraseWanted = false → s.erasing = false →
                      ∃ x, u.counters.inFlight = some x ∧ k ∈ x.activations ∧ ∀ i : TillIx, (x.contents[k])[i] = 256))
            ∧ (s.writer2.wanted = true → s.writer2.eraseWanted = false → s.erasing = false →
                (s.writer2.waiting.filterMap KeyAddition.slot?).Nodup →
                let kept := fun r : Option KeyRecord => r.map (fun x => { x with failed := false })
                ∃ x next, u.writer2.inFlight = some x ∧ x.contents = some next ∧ x.additions = s.writer2.waiting
                  ∧ (∀ k, k ∉ s.writer2.waiting.filterMap KeyAddition.slot? → next.slots[k] =
                      { current := kept (u.slot k).current, staged := kept (u.slot k).staged, state := (u.slot k).state
                        floor := (u.slot k).floor })
                  ∧ (∀ k r, .load k r ∈ s.writer2.waiting → next.slots[k] =
                      { current := kept (u.slot k).current, staged := some r, state := (u.slot k).state, floor := (u.slot k).floor })
                  ∧ ∀ k r, .activate k ∈ s.writer2.waiting → (u.slot k).staged = some r → next.slots[k] =
                      { current := kept (some r), staged := none, floor := r.gen
                        state := if (u.slot k).state = .faulted then .faulted else .active })
            ∧ u = { s with store := u.store, keys := u.keys, counters := u.counters, events := u.events, writer2 := u.writer2,
                           mgmt := u.mgmt })
          ∧ (s.settings.store.policy = .lenient →
              ∃ u : State, exec (.sectorWriteFail .keys) s = .next u.settle
                ∧ u.count .nvWriteFail = min (s.count .nvWriteFail + 1) 65535 ∧ u.keys.fp = s.keys.fp
                ∧ u.keys.fpFloor = s.keys.fpFloor
                ∧ (∀ k ∈ slots, u.slot k = { s.slot k with busy := false }) ∧ (∀ k, k ∉ slots → u.slot k = s.slot k)
                ∧ (s.events.fault = none → u.events.fault = some
                    { code := .nvWriteFail, till := none, slot := match slots with | [k] => some k | _ => none
                      location := some (.sector 2), further := 0 })
                ∧ u = { s with keys := u.keys, events := u.events, writer2 := u.writer2, mgmt := u.mgmt })

/-- R68, R69, R185: how the writes and erases of a DECOMMISSION end. The erase of sector 2 that completes leaves it blank, ends what it
carried without making it, and asks for the erase of sector 3, which the command then waits for; one that fails leaves sectors 2 and 3 and
is NV-WRITE-FAIL. The erase of sector 3 leaves it blank, or is NV-WRITE-FAIL for sector 3 (the model's reading, log 38), and changes no
counter entry; the erase of sector 1 likewise. A write that was in flight when DECOMMISSION was carried out ends as its own rules give
(KEY-LOADED for what it loaded, CHECKPOINT-FAIL or NV-WRITE-FAIL where it fails: log 37), but installs no key and changes no counter entry.
With nothing more requested when the erase of sector 3 ends, no command waits for a further write (for an ENABLE-TILL whose retry raise
DECOMMISSION has removed: the model's choice, log 76). Under STRICT a failure takes a SERVING part into LOCKDOWN; the end of a zeroisation erase is in `FormatEndAndTamper` and
`StrictFailuresEnterLockdown`. -/
def Obligations.DecommissionWritesEnd : Prop :=
  let contained := fun s u : State =>
    (s.settings.store.policy = .strict → s.opState = .serving → u.opState = .lockdown)
      ∧ ((s.settings.store.policy = .lenient ∨ s.opState ≠ .serving) → u.opState = s.opState)
  let failed := fun (s u : State) (slot : Option SlotIx) (at_ : Location) =>
    u.count .nvWriteFail = min (s.count .nvWriteFail + 1) 65535
      ∧ (s.events.fault = none → s.settings.store.policy = .lenient →
          u.events.fault = some { code := .nvWriteFail, till := none, slot := slot, location := some at_, further := 0 })
      ∧ u.store = s.store ∧ contained s u
  let named := fun w : Write2 => match w.additions.filterMap KeyAddition.slot? with | [k] => some k | _ => none
  (∀ (s : State) (w : Write2), s.writer2.inFlight = some w → w.contents = none → w.thenErase3 = true → w.void = false →
      w.zeroise = false →
      let slots := w.additions.filterMap KeyAddition.slot?
      let released := fun u : State =>
        (∀ k ∈ slots, u.slot k = { s.slot k with busy := false }) ∧ (∀ k, k ∉ slots → u.slot k = s.slot k)
          ∧ u.keys.fp = s.keys.fp ∧ u.keys.fpFloor = s.keys.fpFloor
      (∃ u : State, exec (.sectorWriteComplete .keys) s = .next u.settle ∧ u.store = { s.store with sec2 := .blank } ∧ released u
          ∧ u.counters.entries = s.counters.entries ∧ u.mgmt.jobs.length = s.mgmt.jobs.length
          ∧ (s.counters.inFlight = none → s.erasing = false →
              (∃ x, u.counters.inFlight = some x ∧ x.erase = true ∧ x.void = false ∧ x.raises = [] ∧ x.activations = [])
                ∧ u.counters.eraseWanted = false
                ∧ ∀ (n : Nat) (j : Job), s.mgmt.jobs[n]? = some j → j.isWaiting = true →
                    ∃ j', u.mgmt.jobs[n]? = some j' ∧ j'.s3 = .inFlight)
          ∧ (s.counters.inFlight.isSome = true → u.counters = { s.counters with eraseWanted := true }
              ∧ ∀ (n : Nat) (j : Job), s.mgmt.jobs[n]? = some j → j.isWaiting = true → ∃ j', u.mgmt.jobs[n]? = some j' ∧ j'.s3 = .queued)
          ∧ (s.writer2.wanted = false → s.writer2.eraseWanted = false →
              u.writer2.inFlight = none ∧ ∀ j ∈ u.mgmt.jobs, j.s2 ≠ .inFlight)
          ∧ u = { s with store := u.store, keys := u.keys, counters := u.counters, writer2 := u.writer2, mgmt := u.mgmt })
        ∧ ∃ u : State, exec (.sectorWriteFail .keys) s = .next u.settle ∧ failed s u (named w) (.sector 2) ∧ released u
            ∧ u.counters = s.counters
            ∧ (s.settings.store.policy = .lenient →
                u = { s with keys := u.keys, events := u.events, writer2 := u.writer2, mgmt := u.mgmt }))
    ∧ (∀ (s : State) (w : Write3), s.counters.inFlight = some w → w.erase = true →
        let idle := s.counters.pending = [] ∧ s.counters.activations = [] ∧ s.counters.eraseWanted = false ∧ s.erasing = false
        (∃ u : State, exec .checkpointWriteComplete s = .next u.settle ∧ u.store = { s.store with sec3 := .blank }
            ∧ u.counters.entries = s.counters.entries
            ∧ (idle → u.counters.inFlight = none ∧ ∀ j ∈ u.mgmt.jobs, j.s3 = .no)
            ∧ u = { s with store := u.store, counters := u.counters, mgmt := u.mgmt, startup := u.startup })
          ∧ ∃ u : State, exec .checkpointWriteFail s = .next u.settle ∧ failed s u none (.sector 3)
              ∧ u.counters.entries = s.counters.entries ∧ (idle → u.counters.inFlight = none))
    ∧ (∀ s : State, s.writer1.inFlight = some none →
        (∃ u : State, exec (.sectorWriteComplete .settings) s = .next u.settle ∧ u.store = { s.store with sec1 := .blank }
            ∧ u = { s with store := u.store, writer1 := u.writer1, mgmt := u.mgmt })
          ∧ ∃ u : State, exec (.sectorWriteFail .settings) s = .next u.settle ∧ failed s u none (.sector 1)
              ∧ u.settings = s.settings)
    ∧ (∀ (s : State) (w : Write2) (c : Sector2), s.writer2.inFlight = some w → w.contents = some c → w.void = true →
        w.thenErase3 = false → w.zeroise = false →
        (∃ u : State, exec (.sectorWriteComplete .keys) s = .next u.settle ∧ u.store = { s.store with sec2 := .good c }
            ∧ u.keys = s.keys ∧ u.counters = s.counters
            ∧ (s.count .keyLoaded ≤ 65535 → u.count .keyLoaded = min (s.count .keyLoaded
                + (w.additions.filter (fun a => match a with | .activate _ => false | _ => true)).length) 65535)
            ∧ (s.writer2.eraseWanted = true → s.erasing = false →
                u.writer2 = { inFlight := some { contents := none, additions := s.writer2.waiting, zeroise := false, thenErase3 := true
                                                 void := false }
                              waiting := [], wanted := false, eraseWanted := false })
            ∧ u = { s with store := u.store, events := u.events, writer2 := u.writer2, mgmt := u.mgmt })
          ∧ ∃ u : State, exec (.sectorWriteFail .keys) s = .next u.settle ∧ failed s u (named w) (.sector 2) ∧ u.keys = s.keys
              ∧ u.counters = s.counters)
    ∧ ∀ (s : State) (w : Write3), s.counters.inFlight = some w → w.erase = false → w.void = true →
        (∃ u : State, exec .checkpointWriteComplete s = .next u.settle ∧ u.store = { s.store with sec3 := .good w.contents }
            ∧ u.counters.entries = s.counters.entries ∧ u.keys = s.keys ∧ u.events = s.events
            ∧ (s.counters.eraseWanted = true → s.erasing = false → ∃ x, u.counters.inFlight = some x ∧ x.erase = true)
            ∧ u = { s with store := u.store, counters := u.counters, mgmt := u.mgmt, startup := u.startup })
          ∧ ∃ u : State, exec .checkpointWriteFail s = .next u.settle ∧ u.store = s.store ∧ contained s u
              ∧ u.count .checkpointFail = min (s.count .checkpointFail + 1) 65535 ∧ u.counters.entries = s.counters.entries
              ∧ u.keys = s.keys

/-- R100, R105, R130, R157, R158, R159: how the operation in flight ends. A write that completes makes the record HELD and durable and its
requester answers HELD, a context or a hold note, which is then discarded; one that fails makes its slot BAD, releases the charge and is
STORE-FAULT; a free that completes makes its slot FREE, releases the charge and answers VOIDED-LOCAL; one that fails leaves the record HELD
with its charge and answers REFUSED / BUSY (the failures under LENIENT; under STRICT: `StrictFailuresEnterLockdown`). A failure is
NV-WRITE-FAIL, naming the Holding Store's slot. R170: the free of the last HELD record completes a drain that is not IDLE. R162: where a
format waits for the operation, it begins to run then, which ends every request still queued (`FormatEndAndTamper` says how). The model's
choices: a free that fails leaves the slot's contents and commit mark whole (log 59), and the end of a free while a write is in flight, and
the converse, changes nothing (log 10). -/
def Obligations.HoldingOperationsEnd : Prop :=
  (∀ (s : State) (n : Nat) (by_ : Requester) (r : HeldRecord) (rest : List StoreOp),
      s.holding.ops = .write n by_ r :: rest → s.holding.format ≠ .running → s.erasing = false →
      let ended := fun u : State => if s.holding.format = .waiting then u.runFormat else u
      let ops := fun u : State => u.holding.ops = rest ∧ u.settings = s.settings ∧ u.keys = s.keys ∧ u.counters = s.counters
        ∧ u.outstanding = s.outstanding ∧ u.uplink = s.uplink ∧ u.opState = s.opState ∧ u.link = s.link
      let answered := fun (u : State) (x : LocalReply) => ∀ (i : CtxIx) (w : Wrap) (o : InHand), by_ = .ctx i →
        (s.ctx i).wrap = some w → w.inHand = some o → s.laneOpen →
        u.ctx i = { phase := .idle, wrap := none }
          ∧ u.lane.priority = s.lane.priority ++ [TxFrame.mk (replyFrame o.path s.ipId
                (be 1 1 ++ be 1 x.kind ++ be 2 o.number ++ be 4 o.reference ++ be 1 x.reason)) false]
      let noted := fun (u : State) (x : LocalReply) => ∀ o : HoldNote, by_ = .matcher →
        s.holdNotes.find? (fun h => h.seq == r.head.seq) = some o → s.laneOpen →
        u.holdNotes = s.holdNotes.filter (fun h => h.seq != r.head.seq)
          ∧ u.lane.priority = s.lane.priority ++ [TxFrame.mk (replyFrame o.path s.ipId
                (be 1 1 ++ be 1 x.kind ++ be 2 o.number ++ be 4 o.reference ++ be 1 x.reason)) false]
      (∃ u : State, exec .recordWriteComplete s = .next (ended u).settle ∧ exec .recordFreeComplete s = .next s ∧ ops u
          ∧ u.holding.lines = s.holding.lines.map (fun x => if x.slot = n then { x with held := true } else x)
          ∧ u.holding.nv = putSlot { slot := n, contents := some r, commit := some r.head.seq, headPasses := true } s.holding.nv
          ∧ u.holding.header = { passes := true, last := r.head.seq, bad := s.holding.bad } ∧ u.holding.last = r.head.seq
          ∧ (u.till r.head.till).stoodIn = min ((s.till r.head.till).stoodIn + 1) 65535
          ∧ u.standIn = s.standIn ∧ answered u .held ∧ noted u .held)
        ∧ (s.settings.store.policy = .lenient →
            ∃ u : State, exec .recordWriteFail s = .next (ended u).settle ∧ exec .recordFreeFail s = .next s ∧ ops u
              ∧ u.holding.lines = s.holding.lines.filter (fun x => x.slot != n) ∧ u.holding.bad = s.holding.bad ++ [n]
              ∧ u.holding.header.bad = s.holding.header.bad ++ [n]
              ∧ u.standIn = s.standIn.release r.head.till r.head.weight r.head.fp
              ∧ u.count .nvWriteFail = min (s.count .nvWriteFail + 1) 65535 ∧ answered u (.declined .storeFault)
              ∧ noted u (.declined .storeFault)
              ∧ (s.events.fault = none → u.events.fault =
                  some { code := .nvWriteFail, till := none, slot := none, location := some (.holding n), further := 0 })))
    ∧ ∀ (s : State) (n : Nat) (by_ : Requester) (rest : List StoreOp) (l : IndexLine),
        s.holding.ops = .free n by_ :: rest → s.holding.format ≠ .running → s.erasing = false →
        s.holding.lines.find? (fun x => x.slot == n) = some l → l.held = true →
        let ended := fun u : State => if s.holding.format = .waiting then u.runFormat else u
        let last := s.drain.state ≠ .idle ∧ ∀ x ∈ s.holding.lines, x.held = true → x.slot = n
        let tally := if by_ = .drain then s.drain.tally.add l else s.drain.tally
        let ops := fun u : State => u.holding.ops = rest ∧ u.settings = s.settings ∧ u.keys = s.keys ∧ u.counters = s.counters
          ∧ u.outstanding = s.outstanding ∧ u.uplink = s.uplink ∧ u.opState = s.opState ∧ u.link = s.link
        let answered := fun (u : State) (x : LocalReply) => ∀ (i : CtxIx) (w : Wrap) (o : InHand), by_ = .ctx i →
          (s.ctx i).wrap = some w → w.inHand = some o → s.laneOpen →
          u.ctx i = { phase := .idle, wrap := none }
            ∧ u.lane.priority = s.lane.priority ++ [TxFrame.mk (replyFrame o.path s.ipId
                (be 1 1 ++ be 1 x.kind ++ be 2 o.number ++ be 4 o.reference ++ be 1 x.reason)) false]
        (∃ u : State, exec .recordFreeComplete s = .next (ended u).settle ∧ exec .recordWriteComplete s = .next s ∧ ops u
            ∧ u.holding.lines = s.holding.lines.filter (fun x => x.slot != n)
            ∧ u.holding.nv = s.holding.nv.filter (fun x => x.slot != n) ∧ u.holding.header = s.holding.header
            ∧ u.standIn = s.standIn.release l.head.till l.head.weight l.head.fp ∧ answered u .voidedLocal
            ∧ (¬ last → u.drain = { s.drain with tally := tally })
            ∧ (last → u.count .drainComplete = min (s.count .drainComplete + 1) 65535
                ∧ u.drain = { state := .idle, cursor := 0, inHand := none, tally := emptyTally
                              summary := some { tally := tally, unread := true
                                                overwritten := (s.drain.summary.map (·.unread)).getD false } }))
          ∧ (s.settings.store.policy = .lenient →
              ∃ u : State, exec .recordFreeFail s = .next (ended u).settle ∧ exec .recordWriteFail s = .next s ∧ ops u
                ∧ u.holding.lines = s.holding.lines.map (fun x => if x.slot = n then { x with freeing := false } else x)
                ∧ u.holding.nv = s.holding.nv ∧ u.standIn = s.standIn
                ∧ u.count .nvWriteFail = min (s.count .nvWriteFail + 1) 65535 ∧ answered u (.refused .busy)
                ∧ (s.events.fault = none → u.events.fault =
                    some { code := .nvWriteFail, till := none, slot := none, location := some (.holding n), further := 0 }))

/-- R149, R162, R170: a format that begins to run ends every queued request, first to last: a write as failed, its line gone and its charge
released, without NV-WRITE-FAIL and without a BAD slot, its requester told STORE-FAULT; a free as completed, its line gone and its charge
released, its context told VOIDED-LOCAL, its record counted in the Drain Controller's accumulators when the controller asked for it, and the
drain checked for completion. R115, R133, R153, R162, R163, R169, R187, R192, R193: a format's end leaves the store empty, the totals at 0 and the drain as after a
reset; TAMPER_ASSERT zeroises every key record, removes the Outstanding List and erases sector 2, and a SERVING part enters LOCKDOWN, with
every context IDLE, every Pending Queue empty and the drain IDLE; TAMPER_DEASSERT changes the input alone. The model's choice (log 10):
FORMAT_END with no format running changes nothing. -/
def Obligations.FormatEndAndTamper : Prop :=
  (∀ s : State,
      let begun := fun s : State => { s with holding := { s.holding with ops := [], format := .running } }
      (s.holding.ops = [] → s.runFormat = begun s)
        ∧ ∀ o rest, s.holding.ops = o :: rest →
            s.runFormat = State.runFormat
              { (begun s).endQueued o with holding := { ((begun s).endQueued o).holding with ops := rest } })
    ∧ (∀ (s : State) (n : Nat) (by_ : Requester) (r : HeldRecord),
        let u := s.endQueued (.write n by_ r)
        u.holding = { s.holding with lines := s.holding.lines.filter (fun x => x.slot != n) }
          ∧ u.standIn = s.standIn.release r.head.till r.head.weight r.head.fp ∧ u.count .nvWriteFail = s.count .nvWriteFail
          ∧ (∀ (i : CtxIx) (w : Wrap) (o : InHand), by_ = .ctx i → (s.ctx i).wrap = some w → w.inHand = some o → s.laneOpen →
              u.ctx i = { phase := .idle, wrap := none }
                ∧ u.lane.priority = s.lane.priority ++ [TxFrame.mk (replyFrame o.path s.ipId
                      (be 1 1 ++ be 1 4 ++ be 2 o.number ++ be 4 o.reference ++ be 1 DeclineReason.storeFault.code)) false])
          ∧ (∀ o : HoldNote, by_ = .matcher → s.holdNotes.find? (fun h => h.seq == r.head.seq) = some o → s.laneOpen →
              u.holdNotes = s.holdNotes.filter (fun h => h.seq != r.head.seq)
                ∧ u.lane.priority = s.lane.priority ++ [TxFrame.mk (replyFrame o.path s.ipId
                      (be 1 1 ++ be 1 4 ++ be 2 o.number ++ be 4 o.reference ++ be 1 DeclineReason.storeFault.code)) false])
          ∧ u = { s with holding := u.holding, standIn := u.standIn, ctxs := u.ctxs, tills := u.tills, holdNotes := u.holdNotes
                         events := u.events, lane := u.lane, ipId := u.ipId })
    ∧ (∀ (s : State) (n : Nat) (by_ : Requester) (l : IndexLine), s.holding.lines.find? (fun x => x.slot == n) = some l →
        let u := s.endQueued (.free n by_)
        let tally := if by_ = .drain then s.drain.tally.add l else s.drain.tally
        let last := s.drain.state ≠ .idle ∧ ∀ x ∈ s.holding.lines, x.held = true → x.slot = n
        u.holding = { s.holding with lines := s.holding.lines.filter (fun x => x.slot != n) }
          ∧ u.standIn = s.standIn.release l.head.till l.head.weight l.head.fp
          ∧ (¬ last → u.drain = { s.drain with tally := tally } ∧ u.count .drainComplete = s.count .drainComplete)
          ∧ (last → u.count .drainComplete = min (s.count .drainComplete + 1) 65535
              ∧ u.drain = { state := .idle, cursor := 0, inHand := none, tally := emptyTally
                            summary := some { tally := tally, unread := true
                                              overwritten := (s.drain.summary.map (·.unread)).getD false } })
          ∧ (∀ (i : CtxIx) (w : Wrap) (o : InHand), by_ = .ctx i → (s.ctx i).wrap = some w → w.inHand = some o → s.laneOpen →
              u.ctx i = { phase := .idle, wrap := none }
                ∧ u.lane.priority = s.lane.priority ++ [TxFrame.mk (replyFrame o.path s.ipId
                      (be 1 1 ++ be 1 LocalReply.voidedLocal.kind ++ be 2 o.number ++ be 4 o.reference
                        ++ be 1 LocalReply.voidedLocal.reason)) false])
          ∧ u = { s with holding := u.holding, standIn := u.standIn, drain := u.drain, ctxs := u.ctxs, tills := u.tills
                         events := u.events, lane := u.lane, ipId := u.ipId })
    ∧ (∀ s : State, s.holding.format = .running → s.erasing = false →
      ∃ u : State, exec .formatEnd s = .next u.settle ∧ u.holding = formattedStore ∧ u.standIn = emptyStandIn ∧ u.drain = resetDrain
        ∧ u = { s with holding := u.holding, standIn := u.standIn, drain := u.drain, waitOrder := u.waitOrder, mgmt := u.mgmt })
    ∧ (∀ s : State, s.holding.format ≠ .running → exec .formatEnd s = .next s)
    ∧ (∀ s : State, exec .tamperDeassert s = .next { s with tamperIn := false })
    ∧ (∀ s : State, s.startup = .held → exec .tamperAssert s = .next { s with tamperIn := true })
    ∧ ∀ s : State, s.startup ≠ .held →
        ∃ u : State, exec .tamperAssert s = .next u.settle ∧ u.tamperIn = true
          ∧ (∀ k, (u.slot k).previous = none ∧ (u.slot k).current = none ∧ (u.slot k).staged = none ∧ (u.slot k).state = .empty
              ∧ (u.slot k).floor = 0)
          ∧ u.keys.fp = none ∧ u.keys.fpFloor = 0 ∧ u.outstanding = []
          ∧ u.writer2.inFlight = some { contents := none, additions := [], zeroise := true, thenErase3 := false, void := false }
          ∧ (∀ i w, (u.ctx i).wrap = some w → w.dataKey = none ∧ w.authKey = none)
          ∧ u.count .tamper = min (s.count .tamper + 1) 65535
          ∧ (s.count .lostToTamper ≤ 65535 →
              u.count .lostToTamper = min (s.count .lostToTamper + s.outstanding.length) 65535)
          ∧ u.store = s.store ∧ u.settings = s.settings ∧ u.counters = s.counters ∧ u.standIn = s.standIn
          ∧ (∀ i, (u.till i).binding = (s.till i).binding)
          ∧ (s.opState = .serving → u.opState = .lockdown ∧ (∀ i, u.ctx i = { phase := .idle, wrap := none })
              ∧ (∀ i, (u.till i).queue = []) ∧ u.drain.state = .idle ∧ u.placeWait = [])
          ∧ (s.opState = .starting → u.cause = true ∧ u.opState = .starting)
          ∧ ((s.opState = .lockdown ∨ s.opState = .factory) → u.opState = s.opState)

/-- R53, R69, R158, R159, R191, R192: under STRICT a failed write has its own containment, and then a SERVING part enters LOCKDOWN, with
every context IDLE, every Pending Queue refused and the drain IDLE, and a STARTING part takes the lockdown cause. A failed sector 3 write
marks the entries whose raises it carried; a failed sector 1 or 2 write leaves its sector and makes no addition; a failed record write makes
its slot BAD and releases the charge, and a hold note is answered STORE-FAULT (R130); a failed free leaves its record HELD with its charge.
Each is in the Fault Record, sector and slot told apart. The model's readings: a zeroisation erase that fails is begun again (log 34), a
sector 2 write that carried additions for several slots names none (log 55), and a free that fails leaves the slot's contents and commit
mark whole (log 59). -/
def Obligations.StrictFailuresEnterLockdown : Prop :=
  let locked := fun u : State => u.opState = .lockdown ∧ (∀ i, u.ctx i = { phase := .idle, wrap := none })
    ∧ (∀ i, (u.till i).queue = []) ∧ u.drain.state = .idle
  let contained := fun s u : State =>
    (s.opState = .serving → locked u) ∧ (s.opState = .starting → u.opState = .starting ∧ u.cause = true)
      ∧ (s.opState = .lockdown → u.opState = .lockdown)
  let recorded := fun (s u : State) (e : EventCode) (slot : Option SlotIx) (at_ : Location) =>
    u.count e = min (s.count e + 1) 65535
      ∧ (s.events.fault = none → u.events.fault = some { code := e, till := none, slot := slot, location := some at_, further := 0 })
  (∀ (s : State) (w : Write3), s.settings.store.policy = .strict → s.counters.inFlight = some w → w.erase = false → w.void = false →
      ∃ u : State, exec .checkpointWriteFail s = .next u.settle ∧ contained s u ∧ u.store = s.store
        ∧ u.count .checkpointFail = min (s.count .checkpointFail + 1) 65535
        ∧ (∀ k i, (u.ctr k i).c = (s.ctr k i).c ∧ (u.ctr k i).k = (s.ctr k i).k)
        ∧ (∀ k i, (k, i) ∈ w.raises → (u.ctr k i).raise = none ∧ (u.ctr k i).failed = true)
        ∧ (∀ k i, (k, i) ∉ w.raises → k ∉ w.activations → u.ctr k i = s.ctr k i)
        ∧ (∀ k ∈ w.activations, (u.slot k).busy = false)
        ∧ (s.events.fault = none → ∃ x, u.events.fault = some x ∧ x.code = .checkpointFail ∧ x.location = none ∧ x.further = 0
            ∧ (w.raises ≠ [] → ∃ k i, (k, i) ∈ w.raises ∧ (∀ p ∈ w.raises, k < p.1 ∨ k = p.1 ∧ i ≤ p.2) ∧ x.slot = some k
                ∧ x.till = some i))
        ∧ u.standIn = s.standIn ∧ u.outstanding = s.outstanding ∧ u.settings = s.settings)
    ∧ (∀ (s : State) (c : Option Sector1), s.settings.store.policy = .strict → s.writer1.inFlight = some c →
        ∃ u : State, exec (.sectorWriteFail .settings) s = .next u.settle ∧ contained s u ∧ u.store = s.store
          ∧ recorded s u .nvWriteFail none (.sector 1) ∧ u.settings = s.settings ∧ u.keys = s.keys ∧ u.counters = s.counters
          ∧ u.standIn = s.standIn ∧ u.outstanding = s.outstanding)
    ∧ (∀ (s : State) (w : Write2) (c : Sector2), s.settings.store.policy = .strict → s.writer2.inFlight = some w →
        w.contents = some c → w.void = false → w.zeroise = false →
        let slots := w.additions.filterMap KeyAddition.slot?
        ∃ u : State, exec (.sectorWriteFail .keys) s = .next u.settle ∧ contained s u ∧ u.store = s.store
          ∧ recorded s u .nvWriteFail (match slots with | [k] => some k | _ => none) (.sector 2)
          ∧ u.keys.fp = s.keys.fp ∧ u.keys.fpFloor = s.keys.fpFloor
          ∧ (∀ k ∈ slots, u.slot k = { s.slot k with busy := false }) ∧ (∀ k, k ∉ slots → u.slot k = s.slot k)
          ∧ u.settings = s.settings ∧ u.counters = s.counters ∧ u.standIn = s.standIn ∧ u.outstanding = s.outstanding)
    ∧ (∀ (s : State) (w : Write2), s.settings.store.policy = .strict → s.writer2.inFlight = some w → w.zeroise = true → w.additions = [] →
        ∃ u : State, exec (.sectorWriteFail .keys) s = .next u.settle ∧ contained s u ∧ u.store = s.store ∧ u.writer2 = s.writer2
          ∧ recorded s u .nvWriteFail none (.sector 2) ∧ u.keys = s.keys)
    ∧ (∀ (s : State) (n : Nat) (by_ : Requester) (r : HeldRecord) (rest : List StoreOp), s.settings.store.policy = .strict →
        s.holding.ops = .write n by_ r :: rest → s.holding.format = .none → s.erasing = false →
        ∃ u : State, exec .recordWriteFail s = .next u.settle ∧ contained s u ∧ recorded s u .nvWriteFail none (.holding n)
          ∧ u.holding.bad = s.holding.bad ++ [n] ∧ u.holding.header.bad = s.holding.header.bad ++ [n]
          ∧ u.holding.ops.length = rest.length ∧ (∀ x ∈ u.holding.lines, x.slot ≠ n)
          ∧ u.standIn = s.standIn.release r.head.till r.head.weight r.head.fp
          ∧ (∀ o, by_ = .matcher → s.holdNotes.find? (fun x => x.seq == r.head.seq) = some o → s.laneOpen →
              u.holdNotes = s.holdNotes.filter (fun x => x.seq != r.head.seq)
                ∧ ∃ more, u.lane.priority = s.lane.priority ++ TxFrame.mk (replyFrame o.path s.ipId
                    (be 1 1 ++ be 1 4 ++ be 2 o.number ++ be 4 o.reference ++ be 1 8)) false :: more))
    ∧ ∀ (s : State) (n : Nat) (by_ : Requester) (rest : List StoreOp) (l : IndexLine), s.settings.store.policy = .strict →
        s.holding.ops = .free n by_ :: rest → s.holding.format = .none → s.erasing = false →
        s.holding.lines.find? (fun x => x.slot == n) = some l → l.held = true →
        ∃ u : State, exec .recordFreeFail s = .next u.settle ∧ contained s u ∧ recorded s u .nvWriteFail none (.holding n)
          ∧ u.holding.nv = s.holding.nv ∧ u.holding.ops.length = rest.length
          ∧ (∃ x ∈ u.holding.lines, x.slot = n ∧ x.head = l.head ∧ x.held = true ∧ x.freeing = false)
          ∧ u.standIn = s.standIn

/-! ### Grants and counters -/

/-- R49, R50, R55: a reservation advances the entry's next value by one and leaves its checkpoint; it requests a raise exactly where R50
says, to min(k + 256, 1,048,576); COUNTER-LOW and COUNTER-EXHAUSTED are raised at their values; no other pair's entry changes. R94, R113,
R116, R117, R118: eligibility is the seven conditions; the arbiter gives an eligible kiosk till its turn when the count of
attended grants has reached the share or no attended till is eligible, and an eligible attended till otherwise; it takes the first eligible
till of the class from the class's pointer upward, wrapping; the grant moves the head message to the lowest-numbered IDLE context, in
RESERVED, with copies of the till's profile and Field Map and the reserved value. -/
def Obligations.GrantTakesTheChosenTill : Prop :=
  (∀ (s : State) (k : SlotIx) (i : TillIx),
    let e := s.ctr k i
    let t := s.reserve k i
    let near := e.k - (e.c + 1) ≤ 64 ∧ e.k < 1048576 ∧ e.raise = none ∧ e.failed = false
    t.ctr k i = { e with c := e.c + 1, raise := if near then some (min (e.k + 256) 1048576) else e.raise }
      ∧ (∀ l j, (l, j) ≠ (k, i) → t.ctr l j = s.ctr l j)
      ∧ t.count .counterLow = (if e.c + 1 = 1044480 then min (s.count .counterLow + 1) 65535 else s.count .counterLow)
      ∧ t.count .counterExhausted =
          (if e.c + 1 = 1048576 then min (s.count .counterExhausted + 1) 65535 else s.count .counterExhausted)
      ∧ (near → s.counters.inFlight = none → s.erasing = false → s.counters.eraseWanted = false → k ∉ s.counters.activations →
          ∃ w, t.counters.inFlight = some w ∧ (k, i) ∈ w.raises ∧ ((w.contents[k])[i]) = min (e.k + 256) 1048576)
      ∧ (¬ near → t.counters.inFlight = s.counters.inFlight ∧ t.counters.pending = s.counters.pending)
      ∧ t = { s with counters := t.counters, events := t.events, mgmt := t.mgmt, tills := t.tills, lane := t.lane, ipId := t.ipId })
    ∧ (∀ (s : State) (i : TillIx), s.eligible i = true ↔
      s.opState = .serving ∧ ∃ b, (s.till i).binding = some b ∧ b.enabled = true ∧ (s.ctr b.slot i).c ≠ 1048576
        ∧ (s.ctr b.slot i).failed = false ∧ (s.till i).queue ≠ [] ∧ (s.till i).wrapInFlight = false
        ∧ (s.ctr b.slot i).c < (s.ctr b.slot i).k ∧ (s.slot b.slot).state = .active ∧ s.covered b = false)
    ∧ (∀ (s : State) (i : TillIx) (x : TillClass), s.chooseTill = some (i, x) →
        let pointer := match x with | .kiosk => s.arbiter.kiosk | .attended => s.arbiter.attended
        s.eligible i = true ∧ s.isClass i x = true
          ∧ (∀ j, s.eligible j = true → s.isClass j x = true → (i - pointer).val ≤ (j - pointer).val)
          ∧ (x = .kiosk → s.settings.store.share ≤ s.arbiter.g ∨ ∀ j, s.eligible j = true → s.isClass j .attended = false)
          ∧ (x = .attended → s.arbiter.g < s.settings.store.share ∨ ∀ j, s.eligible j = true → s.isClass j .kiosk = false))
    ∧ (∀ s : State, s.chooseTill = none ↔ ∀ i, s.eligible i = false)
    ∧ (∀ s : State, ((∀ i, s.eligible i = false) ∨ ∀ c, (s.ctx c).phase ≠ .idle) → s.grantOnce = s)
    ∧ ∀ (s : State) (c : CtxIx) (i : TillIx) (x : TillClass) (b : Binding) (m : TillMsg) (rest : List TillMsg),
        (s.ctx c).phase = .idle → (∀ d < c, (s.ctx d).phase ≠ .idle) → s.chooseTill = some (i, x) → (s.till i).binding = some b →
        (s.till i).queue = m :: rest →
        let t := s.grantOnce
        let e := s.ctr b.slot i
        t.ctx c = { phase := .reserved
                    wrap := some { till := i, msg := some m, profileIx := b.profile, profile := s.settings.profiles[b.profile],
                                   map := s.settings.maps[b.profile], slot := b.slot, counter := e.c, gen := 0, ksid := 0,
                                   dataKey := none, authKey := none, fp := none, entries := [], wrapped := [], place := false,
                                   inHand := none, formerTill := false } }
          ∧ (∀ d, d ≠ c → t.ctx d = s.ctx d) ∧ (t.till i).wrapInFlight = true
          ∧ (t.till i).queue = (if e.c + 1 = 1048576 then [] else rest)
          ∧ (∀ j, j ≠ i → t.till j = s.till j) ∧ (t.ctr b.slot i).c = e.c + 1
          ∧ t.arbiter = (match x with
              | .kiosk => { s.arbiter with g := 0, kiosk := i + 1 }
              | .attended => { s.arbiter with g := min (s.arbiter.g + 1) s.settings.store.share, attended := i + 1 })

/-! ### Management -/

/-- R14, R15, R172 to R176, R179: the head frame of the arrival list is taken, while the Unit carries out no command, and judged in order:
authentic (its version 1, its header, operands and code whole, its code that of the management key; bytes after the code are ignored), of a
number above the last accepted (STALE is answered at once, with no results), of a known form, and allowed by the operating
state; only an accepted command moves the last accepted number. The model's choices: a command that passes all four is left as taken for
its own row (log 11), a FORMAT or NOT-READY answer requests its number's sector 1 write in this step (log 24), and a STALE answer keeps the
Unit until it is placed (log 49). -/
def Obligations.ManagementFrameIsJudgedInOrder : Prop :=
  (∀ (key : Key) (p : Bytes),
      let n := field p 6 2
      let authentic := 16 + n ≤ p.length ∧ field p 0 1 = 1 ∧ authCode key (p.take (8 + n)) = BitVec.ofNat 64 (field p (8 + n) 8)
      (authentic → readCommand key p = some (field p 1 4, field p 5 1, (p.drop 8).take n)) ∧ (¬ authentic → readCommand key p = none))
    ∧ (∀ (key : Key) (number code : Nat) (operands after : Bytes), number < 4294967296 → code < 256 → operands.length < 65536 →
        let body := be 1 1 ++ be 4 number ++ be 1 code ++ be 2 operands.length ++ operands
        readCommand key (body ++ beVec 8 (authCode key body) ++ after) = some (number, code, operands))
    ∧ (∀ s : State, (s.mgmt.arrivals = [] ∨ s.unitBusy = true) → exec .mgmtFrameTake s = .next s)
    ∧ ∀ (s : State) (f : Bytes) (rest : List Bytes), s.mgmt.arrivals = f :: rest → s.unitBusy = false →
        let e := readEth f
        let s0 : State := { s with mgmt := { s.mgmt with arrivals := rest } }
        let outcome := fun u : State => exec .mgmtFrameTake s = .next u.settle
        ((s.opState = .factory ∨ readCommand s.mgmtKey e.payload = none) → outcome (s0.raise .mgmtAuthFail))
          ∧ ∀ number code operands, s.opState ≠ .factory → readCommand s.mgmtKey e.payload = some (number, code, operands) →
              let s1 : State := { s with mgmt := { s.mgmt with arrivals := rest, last := number } }
              (number ≤ s.mgmt.last →
                  ∃ u : State, outcome u ∧ u.mgmt.last = s.mgmt.last ∧ u.mgmt.taken = s.mgmt.taken ∧ u.mgmt.jobs = s.mgmt.jobs
                    ∧ u.count .stale = min (s.count .stale + 1) 65535
                    ∧ (let body := be 1 1 ++ be 4 number ++ be 1 code ++ be 1 2 ++ be 1 (if u.attention then 1 else 0) ++ be 2 0
                      u.mgmt.responses = s.mgmt.responses ++
                        [{ frame := ethFrame e.src s.ownMac e.tags.head? ((s.identity.map (·.etype)).getD 0)
                             (body ++ beVec 8 (authCode s.mgmtKey body))
                           keepsUnit := true, isReset := false }])
                    ∧ u = { s with events := u.events, mgmt := u.mgmt })
                ∧ (s.mgmt.last < number → decodeCommand code operands = none →
                    ∃ u : State, outcome u ∧ u.count .mgmtFormat = min (s.count .mgmtFormat + 1) 65535 ∧ u.mgmt.last = number
                      ∧ u.mgmt.taken = s.mgmt.taken
                      ∧ (∃ j, u.mgmt.jobs.getLast? = some j ∧ j.status = .format ∧ j.number = number ∧ j.code = code ∧ j.src = e.src)
                      ∧ u = { s with events := u.events, mgmt := u.mgmt, writer1 := u.writer1 })
                ∧ (∀ c, s.mgmt.last < number → decodeCommand code operands = some c → s.opState = .starting → code ≠ 1 →
                    ∃ u : State, outcome u ∧ u.mgmt.last = number ∧ u.mgmt.taken = s.mgmt.taken
                      ∧ (∃ j, u.mgmt.jobs.getLast? = some j ∧ j.status = .notReady ∧ j.number = number ∧ j.code = code ∧ j.src = e.src)
                      ∧ u = { s with mgmt := u.mgmt, writer1 := u.writer1 })
                ∧ ∀ c, s.mgmt.last < number → decodeCommand code operands = some c → (s.opState ≠ .starting ∨ code = 1) →
                    outcome { s1 with mgmt := { s1.mgmt with
                      taken := some { cmd := c, number := number, code := code, src := e.src, vlan := e.tags.head? } } }

/-- R15, R174, R175, R179: a command that has ended (its sector writes, the format and its quiet wait behind it) is answered with a frame to
its source under the management EtherType and the command frame's VLAN tag: its number, code and status, the attention flag and the results
as they stand when the response is built, and the code under the management key; commands that have ended are answered in the order they
were taken (log 26) and are unanswered no more; the Unit offers the response built first, once, and the next when that is placed. What the
results of the key, link, drain, limit and counter commands read (R72, R76, R78, R138, R151, R168, R181). The model's readings and choices:
results are read when the response is built (log 25); an activation reports 0 for the current generation and check value of a slot without
a current record (log 62); the response of a command that kept the Unit from its next frame keeps it until it is placed (log 49). -/
def Obligations.ResponsesAreBuiltInOrder : Prop :=
  let answerTo := fun (s : State) (j : Job) =>
    let results := s.resultBytes j.results
    let body := be 1 1 ++ be 4 j.number ++ be 1 j.code ++ be 1 j.status.code ++ be 1 (if s.attention then 1 else 0)
      ++ be 2 results.length ++ results
    Response.mk (ethFrame j.src s.ownMac j.vlan ((s.identity.map (·.etype)).getD 0) (body ++ beVec 8 (authCode s.mgmtKey body)))
      (j.role == .current) (j.code == 18 && j.status == .ok)
  (∀ j : Job, j.ended = true ↔ j.s1 = .no ∧ j.s2 = .no ∧ j.s3 = .no ∧ j.format = false
      ∧ (j.role = .current ∨ (∃ h, j.role = .waiting h none) ∨ j.role = .late))
    ∧ (∀ s : State, s.answerJobs = { s with mgmt := { s.mgmt with
        jobs := s.mgmt.jobs.filter (fun j => !j.ended)
        responses := s.mgmt.responses ++ (s.mgmt.jobs.filter (·.ended)).map
          (answerTo { s with mgmt := { s.mgmt with jobs := s.mgmt.jobs.filter (fun j => !j.ended) } }) } })
    ∧ (∀ (s : State) (r : Response) (rest : List Response), s.mgmt.responses = r :: rest →
        let frame : TxFrame := { bytes := r.frame, isReset := r.isReset }
        (s.uplinkOpen → s.offerResponse =
            { s with uplink := { s.uplink with priority := s.uplink.priority ++ [frame] }, mgmt := { s.mgmt with responses := rest } })
          ∧ ((s.waitOrder ≠ [] ∨ 32 ≤ s.uplink.priority.length) → (∀ x ∈ s.waitOrder, x.1 ≠ .mgmt) →
              s.offerResponse = { s with waitOrder := s.waitOrder ++ [(.mgmt, frame)] })
          ∧ ((∃ x ∈ s.waitOrder, x.1 = .mgmt) → s.offerResponse = s))
    ∧ (∀ (s : State) (f : TxFrame) (more : List (Waiter × TxFrame)) (r : Response) (rest : List Response), s.uplink.sending = none →
        s.uplink.linkUp = true → s.uplink.priority.length = 32 → s.waitOrder = (.mgmt, f) :: more → s.mgmt.responses = r :: rest →
        ∃ u : State, exec (.transmitStart .uplink) s = .next u.settle ∧ u.mgmt.responses = rest ∧ u.waitOrder = more
          ∧ u.uplink.priority = s.uplink.priority.drop 1 ++ [f])
    ∧ ∀ (s : State) (k : SlotIx) (i : ProfIx),
        let p := s.settings.profiles[i]
        let gen := fun r : Option KeyRecord => (r.map (·.gen)).getD 0
        let state := fun x : SlotState => match x with | .empty => 1 | .active => 2 | .faulted => 3
        (∀ b, s.resultBytes (.bytes b) = b)
          ∧ (∀ check, s.resultBytes (.loadKey check (some k)) = beVec 3 check ++ be 2 (gen (s.slot k).staged)
              ∧ s.resultBytes (.loadKey check none) = beVec 3 check ++ be 2 (gen s.keys.fp))
          ∧ s.resultBytes (.activation k) = be 1 (state (s.slot k).state) ++ be 2 (gen (s.slot k).current)
              ++ beVec 3 (((s.slot k).current.map (·.checkValue)).getD 0) ++ be 2 (gen (s.slot k).previous) ++ be 2 (gen (s.slot k).staged)
          ∧ s.resultBytes (.erasure k) = be 1 (state (s.slot k).state) ++ be 2 (s.slot k).floor
          ∧ s.resultBytes .link = be 1 s.settings.link.interval ++ be 1 s.settings.link.nDown ++ be 1 s.settings.link.nUp
              ++ be 1 s.settings.link.settle
          ∧ s.resultBytes .drain = be 1 (match s.drain.state with | .idle => 1 | .armed => 2 | .running => 3)
              ++ be 1 (if s.settings.suspended then 1 else 0)
          ∧ s.resultBytes (.limits (some i)) = be 6 p.l1 ++ be 6 p.lt ++ be 1 p.nc ++ be 6 p.lc
          ∧ s.resultBytes (.limits none) = be 6 s.settings.storeLimit
          ∧ (∀ first count, (s.resultBytes (.counters first count)).length = 2 * count
              ∧ ∀ (n : Nat) (e : EventCode), n < count → first + n = e.number →
                  field (s.resultBytes (.counters first count)) (2 * n) 2 = s.count e % 65536)

/-- R174: a command's answer waits for a sector 1 write that begins after it is accepted: with no such write in flight one begins at once,
carrying the number; with one in flight the next is wanted, and the answer waits for that. R170, R181, R195: the reading commands answer OK
with what they report, or RANGE, and change nothing else but the classes READ-EVENTS clears and the mark READ-DRAIN-SUMMARY clears. The
layouts of READ-STATUS (twelve groups), READ-TILL, READ-EVENTS and READ-DRAIN-SUMMARY, byte by byte (R38, R170, R181, R195). The model's
readings and choices: the write of the number is requested in the step of the command's row (log 24); status, till and counter results are
read when the response is built (log 25); the Fault Record's layout (log 16), the number of pending messages in 2 bytes (log 67), what
READ-STATUS reports of absent and IDLE things, the marks of an absent summary among them (log 30), the profile's and the ports' form (log 17), and zeros for an absent summary (log
31). Between a reset and the end of the scan the bad-slot list these layouts count is empty (the model's choice, log 42). -/
def Obligations.ReadingCommandsAnswer : Prop :=
  (∀ (s : State) (t : Taken) (status : Status) (results : Results), s.erasing = false → s.writer1.eraseWanted = false →
      let u := s.answer t status results
      let job : Wait → Job := fun w =>
        { cmd := some t.cmd, number := t.number, code := t.code, src := t.src, vlan := t.vlan, status := status, results := results,
          s1 := w, s2 := .no, s3 := .no, format := false, role := .current }
      (s.writer1.inFlight = none → u.writer1.inFlight = some (some s.sector1) ∧ u.writer1.wanted = false
          ∧ u.mgmt.jobs.getLast? = some (job .inFlight))
        ∧ (s.writer1.inFlight.isSome = true → u.writer1 = { s.writer1 with wanted := true }
            ∧ u.mgmt.jobs = s.mgmt.jobs ++ [job .queued])
        ∧ u = { s with writer1 := u.writer1, mgmt := u.mgmt })
    ∧ (∀ (s : State) (t : Taken), s.mgmt.taken = some t → t.cmd = .readStatus →
        exec .readStatus s = .next (s.untaken.answer t .ok .status))
    ∧ (∀ (s : State) (t : Taken) (n : Nat), s.mgmt.taken = some t → t.cmd = .readTill n →
        (∀ i : TillIx, i.val = n → exec (.readTill n) s = .next (s.untaken.answer t .ok (.till i)))
          ∧ (128 ≤ n → exec (.readTill n) s = .next (s.untaken.answer t .range (.bytes []))))
    ∧ (∀ (s : State) (t : Taken) (first count : Nat), s.mgmt.taken = some t → t.cmd = .readCounters first count →
        (1 ≤ count → count ≤ 64 → exec (.readCounters first count) s = .next (s.untaken.answer t .ok (.counters first count)))
          ∧ ((count = 0 ∨ 64 < count) → exec (.readCounters first count) s = .next (s.untaken.answer t .range (.bytes []))))
    ∧ (∀ (s : State) (t : Taken) (clear : BitVec 8), s.mgmt.taken = some t → t.cmd = .readEvents clear →
        ∃ u : State, exec (.readEvents clear) s = .next (u.answer t .ok (.bytes s.eventBytes))
          ∧ (∀ k : EventClass, u.events.latched.getLsbD k.bit = (s.events.latched.getLsbD k.bit && !clear.getLsbD k.bit))
          ∧ u.events.counters = s.events.counters ∧ u.events.fault = (if clear.getLsbD 7 then none else s.events.fault)
          ∧ u = { s.untaken with events := u.events })
    ∧ (∀ (s : State) (t : Taken), s.mgmt.taken = some t → t.cmd = .readDrainSummary →
        ∃ u : State, exec .readDrainSummary s = .next (u.answer t .ok (.bytes (summaryBytes s.drain.summary)))
          ∧ (s.drain.summary = none → u = s.untaken)
          ∧ ∀ x, s.drain.summary = some x → u = { s.untaken with drain := { s.drain with summary := some { x with unread := false } } })
    ∧ ∀ s : State,
        let bit := fun b : Bool => be 1 (if b then 1 else 0)
        let gateway := fun g : Gateway => beVec 4 g.ip ++ be 2 g.port ++ beVec 6 g.hop
        let record := fun r : Option KeyRecord => match r with
          | none => be 2 0 ++ be 4 0 ++ be 3 0
          | some r => be 2 r.gen ++ be 4 r.ksid ++ beVec 3 r.checkValue
        let drainCode := fun x : DrainState => match x with | .idle => 1 | .armed => 2 | .running => 3
        let x := s.settings.store
        let h := s.holding
        let waiting := s.mgmt.jobs.find? Job.isWaiting
        let part := be 1 (match s.opState with | .factory => 1 | .starting => 2 | .serving => 3 | .lockdown => 4)
          ++ be 1 (match x.policy with | .strict => 1 | .lenient => 2) ++ beVec 8 s.serial ++ be 4 s.mgmt.last
          ++ be 1 ((waiting.map (·.code)).getD 0) ++ be 4 ((waiting.map (·.number)).getD 0)
        let link := be 1 (match s.link.state with | .up => 1 | .suspect => 2 | .down => 3 | .recovering => 4) ++ be 1 s.link.run
          ++ be 1 (if s.link.physicalUp then 1 else 2) ++ bit s.link.settleTimer.isSome ++ bit s.link.settled
          ++ be 4 s.link.probeCount ++ be 1 s.link.awaited.length ++ be 1 s.settings.link.interval ++ be 1 s.settings.link.nDown
          ++ be 1 s.settings.link.nUp ++ be 1 s.settings.link.settle
        let drain := be 1 (drainCode s.drain.state) ++ be 1 (match x.mode with | .auto => 1 | .command => 2)
          ++ bit s.settings.suspended ++ be 1 x.window ++ be 1 x.ackTimeout ++ bit s.drain.summary.isSome
          ++ bit ((s.drain.summary.map (·.unread)).getD false) ++ bit ((s.drain.summary.map (·.overwritten)).getD false)
        let held := (h.lines.filter (·.held)).length
        let store := be 2 (4096 - h.lines.length - h.bad.length) ++ be 2 (h.lines.length - held) ++ be 2 held ++ be 2 h.bad.length
          ++ be 2 (h.lines.filter (·.draining)).length ++ be 4 h.last ++ be 4 h.next
        let standIn := be 6 s.standIn.storeTotal ++ be 6 s.settings.storeLimit ++ be 2 s.standIn.cards.length
        let earliest := match s.outstanding.map (·.deadline) with | [] => 0 | d :: more => more.foldl min d - s.now
        let out := be 2 s.outstanding.length ++ be 2 s.takenPlaces ++ be 2 s.placeWait.length ++ be 4 earliest
        let arbiter := be 1 s.arbiter.g ++ be 1 x.share ++ be 1 s.arbiter.attended.val ++ be 1 s.arbiter.kiosk.val
        let phase := fun p : Phase => match p with
          | .idle => 1 | .reserved => 2 | .derivingKeys => 3 | .wrapping => 4 | .authenticating => 5 | .deciding => 6 | .emitting => 7
          | .holding => 8
        let context := fun i : CtxIx => be 1 (phase (s.ctx i).phase) ++ (match (s.ctx i).wrap with
          | none => be 1 0 ++ be 4 0 ++ be 4 0
          | some w => be 1 w.till.val ++ be 4 ((w.msg.map (·.reference)).getD ((w.inHand.map (·.reference)).getD 0))
              ++ be 4 w.counter)
        let slot := fun k : SlotIx => be 1 (match (s.slot k).state with | .empty => 1 | .active => 2 | .faulted => 3)
          ++ be 2 (s.slot k).floor ++ bit (s.slot k).busy ++ record (s.slot k).previous ++ record (s.slot k).current
          ++ record (s.slot k).staged
        let fp := record s.keys.fp ++ be 2 s.keys.fpFloor ++ bit (match s.keys.fp with | none => false | some r => !r.failed)
        let profile := fun i : ProfIx =>
          let p := s.settings.profiles[i]
          be 1 (match p.cls with | .attended => 1 | .kiosk => 2)
            ++ be 1 (match p.policy with | .never => 1 | .linkDownOnly => 2 | .alsoOnTimeout => 3)
            ++ be 1 (if p.refundsAllowed then 1 else 2) ++ be 2 p.risk ++ be 1 p.window ++ gateway p.gateway
            ++ be 1 (match p.dflt with | .pass => 1 | .remove => 4) ++ be 6 p.l1 ++ be 6 p.lt ++ be 1 p.nc ++ be 6 p.lc
        let settings := be 2 x.asmTimeout ++ be 1 x.ports.length ++ (x.ports.take 4).flatMap (be 2)
          ++ List.replicate (2 * (4 - x.ports.length)) 0 ++ beVec 4 x.ownIp ++ gateway x.drainGw ++ gateway x.probeGw ++ beVec 1 x.enabled
        let location := fun l : Option Location => match l with
          | none => be 1 0 ++ be 2 65535 | some (.sector n) => be 1 1 ++ be 2 n | some (.holding n) => be 1 2 ++ be 2 n
        let till := fun i : TillIx =>
          let u := s.till i
          let entry := u.binding.map (fun b => s.ctr b.slot i)
          be 1 i.val ++ be 1 (match u.binding with | none => 1 | some b => if b.enabled then 2 else 3)
            ++ be 1 (match s.entryState i with | .vacant => 1 | .disabled => 2 | .enabled => 3 | .exhausted => 4 | .halted => 5)
            ++ (match u.binding with
                | none => be 6 0 ++ be 2 0 ++ be 1 0 ++ be 1 0
                | some b => beVec 6 b.mac ++ be 2 b.number ++ be 1 b.profile.val ++ be 1 b.slot.val)
            ++ bit u.record.isSome ++ be 2 u.queue.length ++ bit u.wrapInFlight ++ bit (entry.map (·.raise.isSome) == some true)
            ++ be 2 u.wrapped ++ be 2 u.refused ++ be 2 u.stoodIn ++ be 4 ((entry.map (·.c)).getD 0) ++ be 4 ((entry.map (·.k)).getD 0)
            ++ be 6 s.standIn.tillTotals[i]
        s.resultBytes .status = part ++ link ++ drain ++ store ++ standIn ++ out ++ arbiter ++ allCtxs.flatMap context
              ++ allSlots.flatMap slot ++ fp ++ allProfiles.flatMap profile ++ settings
          ∧ (∀ i, s.resultBytes (.till i) = till i)
          ∧ s.eventBytes = beVec 1 s.events.latched ++ beVec 1 x.enabled ++ (match s.events.fault with
              | none => be 1 0 ++ be 1 255 ++ be 1 255 ++ location none ++ be 1 0
              | some f => be 1 f.code.number ++ be 1 (match f.till with | none => 255 | some i => i.val)
                  ++ be 1 (match f.slot with | none => 255 | some k => k.val) ++ location f.location ++ be 1 f.further)
          ∧ summaryBytes none = List.replicate 25 0
          ∧ ∀ y : DrainSummary, summaryBytes (some y) = be 1 1 ++ bit y.unread ++ bit y.overwritten ++ be 4 y.tally.lowest
              ++ be 4 y.tally.highest ++ be 4 y.tally.count ++ be 6 y.tally.weight ++ be 4 y.tally.damaged

/-- R40 to R43, R56, R57, R112, R119: WRITE-TILL's checks in their order, the last naming the lowest index of another entry that has the
address or the number; a VACANT entry is created DISABLED with nothing of its own (a wrap
of an earlier till at the index runs on and leaves the new till's flag alone, log 19); an entry that is not VACANT is emptied by a till
number of 0 and has its binding rewritten by another, and a change of address or number discards its record. Emptying, and a change of
address, number or slot, takes its reservation from a wrap in flight that has not reached its outcome: the context goes IDLE; the message
is refused TILL-DISABLED with the queue when the entry is emptied, is refused with the queue when the till is barred, and else returns to
the queue's head, the tail of a full queue being refused BUSY. The wrap in flight flag clears with the reservation (R106), and each refusal
advances the till's refused count (R46). That a till barred before the command has its queue, and the returned message with it, refused too
is the model's choice (log 61). -/
def Obligations.WriteTillCreatesRewritesEmpties : Prop :=
  ∀ (s : State) (t : Taken) (index : Nat) (mac : Mac) (number profile slot : Nat), s.mgmt.taken = some t →
    t.cmd = .writeTill index mac number profile slot →
    let outcome := fun u : State => exec (.writeTill index mac number profile slot) s = .next u
    let refused := outcome (s.untaken.answer t .range (.bytes []))
    let counted := fun (u : State) (n : Nat) =>
      s.count .localRefused ≤ 65535 → u.count .localRefused = min (s.count .localRefused + n) 65535
    ((128 ≤ index ∨ 8 ≤ profile ∨ 16 ≤ slot ∨ 9999 < number) → refused)
      ∧ ∀ (i : TillIx) (p : ProfIx) (k : SlotIx), i.val = index → p.val = profile → k.val = slot → number ≤ 9999 →
          let others := fun u : State => ∀ j, j ≠ i → u.till j = s.till j
          let clash := fun j : TillIx => ∃ b, (s.till j).binding = some b ∧ (b.mac = mac ∨ b.number = number)
          let free := ∀ j, j ≠ i → ¬ clash j
          let refusals := fun (u : State) (n : Nat) =>
            counted u n ∧ ((s.till i).refused ≤ 65535 → (u.till i).refused = min ((s.till i).refused + n) 65535)
          let flagAfter := fun w : Wrap => if w.formerTill then (s.till i).wrapInFlight else false
          let settled := ∀ c w, (s.ctx c).wrap = some w → w.till = i → (s.ctx c).phase = .holding
          let inFlight := fun (c : CtxIx) (w : Wrap) =>
            (s.ctx c).wrap = some w ∧ w.till = i ∧ (s.ctx c).phase ≠ .idle ∧ (s.ctx c).phase ≠ .holding ∧ (∀ d ∈ s.placeWait, d = c)
              ∧ ∀ d v, d ≠ c → (s.ctx d).wrap = some v → v.till = i → (s.ctx d).phase = .holding
          let abandoned := fun (u : State) (c : CtxIx) =>
            u.ctx c = { phase := .idle, wrap := none } ∧ (∀ d, d ≠ c → u.ctx d = s.ctx d)
              ∧ u.count .reservationLost = min (s.count .reservationLost + 1) 65535
              ∧ u.waitOrder = s.waitOrder.filter (fun x => x.1 != .ctx c)
              ∧ u = { s.untaken with tills := u.tills, events := u.events, lane := u.lane, ipId := u.ipId, ctxs := u.ctxs
                                     waitOrder := u.waitOrder, placeWait := [], holding := u.holding }
          (number ≠ 0 → (mac = 0 ∨ mac.getLsbD 40 = true ∨ s.identity.map (·.mac) = some mac) → refused)
            ∧ (number ≠ 0 → mac ≠ 0 → mac.getLsbD 40 = false → s.identity.map (·.mac) ≠ some mac →
                (∀ j, j ≠ i → clash j → (∀ d < j, d ≠ i → ¬ clash d) →
                    outcome (s.untaken.answer t .addressInUse (.bytes (be 1 j.val))))
                  ∧ (free → (s.till i).binding = none →
                      ∃ u : State, outcome (u.answer t .ok (.till i)).settle ∧ others u
                        ∧ u.till i = { binding := some { enabled := false, mac := mac, number := number, profile := p, slot := k }
                                       record := none, queue := [], wrapInFlight := false, wrapped := 0, refused := 0, stoodIn := 0 }
                        ∧ (∀ d, (u.ctx d).phase = (s.ctx d).phase
                            ∧ (u.ctx d).wrap =
                                (s.ctx d).wrap.map (fun w => if w.till = i then { w with formerTill := true } else w))
                        ∧ u = { s.untaken with tills := u.tills, ctxs := u.ctxs })
                  ∧ (∀ old, free → (s.till i).binding = some old →
                      let same := old.mac = mac ∧ old.number = number
                      let rewritten := fun u : State =>
                        outcome (u.answer t .ok (.till i)).settle ∧ others u
                          ∧ (u.till i).binding = some { enabled := old.enabled, mac := mac, number := number, profile := p, slot := k }
                          ∧ (u.till i).record = (if same then (s.till i).record else none)
                          ∧ (u.till i).wrapped = (s.till i).wrapped ∧ (u.till i).stoodIn = (s.till i).stoodIn
                      ((settled ∨ same ∧ old.slot = k) →
                          ∃ u : State, rewritten u ∧ (u.till i).wrapInFlight = (s.till i).wrapInFlight
                            ∧ ((u.completionRefusal i).isSome = true → (u.till i).queue = [] ∧ refusals u (s.till i).queue.length)
                            ∧ (u.completionRefusal i = none → (u.till i).queue = (s.till i).queue ∧ u.events = s.events
                                ∧ (u.till i).refused = (s.till i).refused)
                            ∧ u = { s.untaken with tills := u.tills, events := u.events, lane := u.lane, ipId := u.ipId })
                        ∧ (∀ c w m, ¬ (same ∧ old.slot = k) → inFlight c w → w.msg = some m →
                            ∃ u : State, rewritten u ∧ abandoned u c ∧ (u.till i).wrapInFlight = flagAfter w
                              ∧ ((u.completionRefusal i).isSome = true →
                                  (u.till i).queue = [] ∧ refusals u (1 + (s.till i).queue.length))
                              ∧ (u.completionRefusal i = none →
                                  ((s.till i).queue.length < 2 → (u.till i).queue = m :: (s.till i).queue ∧ refusals u 0)
                                    ∧ ∀ x y, (s.till i).queue = [x, y] → (u.till i).queue = [m, x] ∧ refusals u 1))))
            ∧ (number = 0 → (s.till i).binding = none → outcome ((s.untaken.answer t .ok (.till i)).settle))
            ∧ ∀ old, number = 0 → (s.till i).binding = some old →
                let emptied := fun u : State =>
                  outcome (u.answer t .ok (.till i)).settle ∧ others u ∧ (u.till i).binding = none ∧ (u.till i).record = none
                    ∧ (u.till i).queue = [] ∧ (u.till i).wrapped = (s.till i).wrapped ∧ (u.till i).stoodIn = (s.till i).stoodIn
                (settled →
                    ∃ u : State, emptied u ∧ refusals u (s.till i).queue.length ∧ (u.till i).wrapInFlight = (s.till i).wrapInFlight
                      ∧ u = { s.untaken with tills := u.tills, events := u.events, lane := u.lane, ipId := u.ipId })
                  ∧ ∀ c w m, inFlight c w → w.msg = some m →
                      ∃ u : State, emptied u ∧ abandoned u c ∧ refusals u (1 + (s.till i).queue.length)
                        ∧ (u.till i).wrapInFlight = flagAfter w

/-- R44, R45, R51, R56, R106: ENABLE-TILL enables an entry that is not VACANT, and retries the checkpoint of one whose entry carries a failure
mark: its raise is requested if none is, and the command waits for the sector 3 write that carries it, which begins at once when none is in
flight, and otherwise is the one in flight or the next; DISABLE-TILL disables it and refuses its wrap that has not reached its outcome and
its Pending Queue TILL-DISABLED, and leaves its Assembly Record, its Outstanding entries, the counters and their write in flight, and every
other till and context as they are; a VACANT or absent entry is RANGE. -/
def Obligations.EnableAndDisableTill : Prop :=
  ∀ (s : State) (t : Taken) (n : Nat), s.mgmt.taken = some t →
    (t.cmd = .enableTill n →
        (128 ≤ n → exec (.enableTill n) s = .next (s.untaken.answer t .range (.bytes [])))
          ∧ ∀ i : TillIx, i.val = n →
              ((s.till i).binding = none → exec (.enableTill n) s = .next (s.untaken.answer t .range (.bytes [])))
                ∧ ∀ b, (s.till i).binding = some b →
                    let enabled := s.untaken.setTill i { s.till i with binding := some { b with enabled := true } }
                    ((s.ctr b.slot i).failed = false → exec (.enableTill n) s = .next (enabled.answer t .ok (.till i)).settle)
                      ∧ ((s.ctr b.slot i).failed = true → (s.ctr b.slot i).raise = none → s.counters.inFlight = none →
                          s.counters.activations = [] → s.counters.eraseWanted = false → s.erasing = false →
                          ∃ u : State, exec (.enableTill n) s = .next u.settle ∧ u.tills = enabled.tills
                            ∧ (u.ctr b.slot i).raise = some (min ((s.ctr b.slot i).k + 256) 1048576)
                            ∧ (u.ctr b.slot i).failed = true
                            ∧ (∃ w, u.counters.inFlight = some w ∧ (b.slot, i) ∈ w.raises)
                            ∧ (∃ j, u.mgmt.jobs.getLast? = some j ∧ j.number = t.number ∧ j.s3 = .inFlight ∧ j.status = .ok)
                            ∧ u = { s.untaken with tills := u.tills, counters := u.counters, writer1 := u.writer1, mgmt := u.mgmt })
                      ∧ (∀ w, (s.ctr b.slot i).failed = true → s.counters.inFlight = some w →
                          let asked := (s.ctr b.slot i).raise.isSome = true
                          let carried := asked ∧ (b.slot, i) ∉ s.counters.pending ∧ ((b.slot, i) ∈ w.raises ∨ b.slot ∈ w.activations)
                          ∃ u : State, exec (.enableTill n) s = .next u.settle ∧ u.tills = enabled.tills
                            ∧ (asked → u.counters = s.counters)
                            ∧ (¬ asked → u.counters.inFlight = some w ∧ u.counters.pending = s.counters.pending ++ [(b.slot, i)]
                                ∧ u.counters.activations = s.counters.activations ∧ u.counters.eraseWanted = s.counters.eraseWanted
                                ∧ u.ctr b.slot i = { s.ctr b.slot i with raise := some (min ((s.ctr b.slot i).k + 256) 1048576) }
                                ∧ ∀ l j, (l, j) ≠ (b.slot, i) → u.ctr l j = s.ctr l j)
                            ∧ (∃ j, u.mgmt.jobs.getLast? = some j ∧ j.number = t.number ∧ j.status = .ok ∧ j.results = .till i
                                ∧ (carried → j.s3 = .inFlight) ∧ (¬ carried → j.s3 = .queued))
                            ∧ u = { s.untaken with tills := u.tills, counters := u.counters, writer1 := u.writer1, mgmt := u.mgmt }))
      ∧ (t.cmd = .disableTill n →
          (128 ≤ n → exec (.disableTill n) s = .next (s.untaken.answer t .range (.bytes [])))
            ∧ ∀ i : TillIx, i.val = n →
                ((s.till i).binding = none → exec (.disableTill n) s = .next (s.untaken.answer t .range (.bytes [])))
                  ∧ ∀ b, (s.till i).binding = some b →
                      let disabled := fun (u : State) (flag : Bool) (refusals : Nat) =>
                        u.till i = { s.till i with binding := some { b with enabled := false }, queue := [], wrapInFlight := flag
                                                   refused := (u.till i).refused }
                          ∧ ((s.till i).refused ≤ 65535 → (u.till i).refused = min ((s.till i).refused + refusals) 65535)
                          ∧ ∀ j, j ≠ i → u.till j = s.till j
                      ((∀ c w, (s.ctx c).wrap = some w → w.till = i → (s.ctx c).phase = .holding) →
                          ∃ u : State, exec (.disableTill n) s = .next (u.answer t .ok (.till i)).settle
                            ∧ disabled u (s.till i).wrapInFlight (s.till i).queue.length
                            ∧ (s.count .localRefused ≤ 65535 →
                                u.count .localRefused = min (s.count .localRefused + (s.till i).queue.length) 65535)
                            ∧ u = { s.untaken with tills := u.tills, events := u.events, lane := u.lane, ipId := u.ipId })
                        ∧ ∀ c w m, (s.ctx c).wrap = some w → w.till = i → w.msg = some m → (s.ctx c).phase ≠ .idle → (s.ctx c).phase ≠ .holding →
                            (∀ d v, d ≠ c → (s.ctx d).wrap = some v → v.till = i → (s.ctx d).phase = .holding) →
                            (∀ d ∈ s.placeWait, d = c) →
                            ∃ u : State, exec (.disableTill n) s = .next (u.answer t .ok (.till i)).settle
                              ∧ disabled u (if w.formerTill then (s.till i).wrapInFlight else false) (1 + (s.till i).queue.length)
                              ∧ u.ctx c = { phase := .idle, wrap := none } ∧ (∀ d, d ≠ c → u.ctx d = s.ctx d)
                              ∧ u.waitOrder = s.waitOrder.filter (fun x => x.1 != .ctx c)
                              ∧ ((∀ k r, .write k (.ctx c) r ∉ s.holding.ops) → (∀ k, .free k (.ctx c) ∉ s.holding.ops) →
                                  u.holding = s.holding)
                              ∧ u.count .reservationLost = min (s.count .reservationLost + 1) 65535
                              ∧ (s.count .localRefused ≤ 65535 →
                                  u.count .localRefused = min (s.count .localRefused + (1 + (s.till i).queue.length)) 65535)
                              ∧ u = { s.untaken with tills := u.tills, events := u.events, lane := u.lane, ipId := u.ipId
                                                     ctxs := u.ctxs, waitOrder := u.waitOrder, placeWait := [], holding := u.holding })

/-- R87 to R92, R138, R151, R154, R164, R168, R177, R182: the settings commands check their operands in order, clamp where R177 clamps, and
change the named setting alone; a profile or map that would be unsafe is MAP-UNSAFE; a total above a new limit is OVER-LIMIT-STANDING, once
(which totals a profile's limits are compared with is the model's reading, log 18); SET-STORE moves the drain only where it takes its
gateway from a RUNNING one or gives one to an ARMED one on a settled line. -/
def Obligations.SettingsCommandsWriteTheirSetting : Prop :=
  ∀ (s : State) (t : Taken), s.mgmt.taken = some t →
    let refused := fun (c : Instr) (x : Status) => exec c s = .next (s.untaken.answer t x (.bytes []))
    (∀ o : ProfileOperands, t.cmd = .writeProfile o →
        ((8 ≤ o.index ∨ o.cls = 0 ∨ 2 < o.cls ∨ o.policy = 0 ∨ 3 < o.policy ∨ o.refunds = 0 ∨ 2 < o.refunds ∨ (o.dflt ≠ 1 ∧ o.dflt ≠ 4)
            ∨ o.risk < 50 ∨ 400 < o.risk ∨ (o.gateway.ip ≠ 0 ∧ (o.gateway.hop = 0 ∨ o.gateway.hop.getLsbD 40 = true))) →
            refused (.writeProfile o) .range)
          ∧ ∀ (i : ProfIx) (c : TillClass) (p : StandInPolicy) (r : Bool) (d : DefaultTreatment), i.val = o.index → c.code = o.cls →
              p.code = o.policy → refundsCode r = o.refunds → d.code = o.dflt → 50 ≤ o.risk → o.risk ≤ 400 →
              (o.gateway.ip = 0 ∨ (o.gateway.hop ≠ 0 ∧ o.gateway.hop.getLsbD 40 = false)) →
              (mapSafe (s.fieldMap i) d = false → refused (.writeProfile o) .mapUnsafe)
                ∧ (mapSafe (s.fieldMap i) d = true →
                    let old := s.settings.profiles[i]
                    let new : Profile :=
                      { old with cls := c, policy := p, refundsAllowed := r, risk := o.risk, window := max 2 (min o.window 60),
                                 gateway := o.gateway, dflt := d }
                    exec (.writeProfile o) s =
                      .next (State.answer
                        { s.untaken with settings := { s.settings with profiles := s.settings.profiles.set i new } } t
                        (if 2 ≤ o.window ∧ o.window ≤ 60 then .ok else .clamped) (.profile i))))
      ∧ (∀ (index count : Nat) (rules : List (Nat × Nat)), t.cmd = .writeFieldMap index count rules →
          ((8 ≤ index ∨ 16 < count ∨ ∃ x ∈ rules.take count, x.1 = 0 ∨ 254 < x.1 ∨ x.2 = 0 ∨ 4 < x.2 ∨ (x.2 = 3 ∧ x.1 ≠ 3)) →
              refused (.writeFieldMap index count rules) .range)
            ∧ ∀ (i : ProfIx) (m : FieldMap), i.val = index → count ≤ 16 → rules.take count = m.map (fun r => (r.tag, r.treatment.code)) →
                (∀ r ∈ m, 1 ≤ r.tag ∧ r.tag ≤ 254 ∧ (r.treatment = .encryptMask → r.tag = 3)) →
                (¬ (m.map (·.tag)).Nodup → refused (.writeFieldMap index count rules) .range)
                  ∧ ((m.map (·.tag)).Nodup →
                      (mapSafe m (s.profile i).dflt = false → refused (.writeFieldMap index count rules) .mapUnsafe)
                        ∧ (mapSafe m (s.profile i).dflt = true →
                            exec (.writeFieldMap index count rules) s =
                              .next (State.answer
                                { s.untaken with settings := { s.settings with maps := s.settings.maps.set i m } } t .ok (.map i)))))
      ∧ (∀ target l1 lt nc lc : Nat, t.cmd = .setLimits target l1 lt nc lc →
          let c : Instr := .setLimits target l1 lt nc lc
          (target = 255 →
              (17592186044415 < l1 → refused c .range)
                ∧ (l1 ≤ 17592186044415 →
                    ∃ u : State, exec c s = .next (u.answer t .ok (.limits none))
                      ∧ u = { s.untaken with settings := { s.settings with storeLimit := l1 }, events := u.events }
                      ∧ u.count .overLimitStanding =
                          (if l1 < s.standIn.storeTotal then min (s.count .overLimitStanding + 1) 65535
                           else s.count .overLimitStanding)))
            ∧ (8 ≤ target → target ≠ 255 → refused c .range)
            ∧ ∀ i : ProfIx, i.val = target →
                ((17592186044415 < l1 ∨ 17592186044415 < lt ∨ 255 < nc ∨ 17592186044415 < lc) → refused c .range)
                  ∧ (l1 ≤ 17592186044415 → lt ≤ 17592186044415 → nc ≤ 255 → lc ≤ 17592186044415 →
                      let new : Profile := { s.settings.profiles[i] with l1 := l1, lt := lt, nc := nc, lc := lc }
                      ∃ u : State, exec c s = .next (u.answer t .ok (.limits (some i)))
                        ∧ u = { s.untaken with settings := { s.settings with profiles := s.settings.profiles.set i new }
                                               events := u.events }
                        ∧ (let above := (∃ j b, (s.till j).binding = some b ∧ b.profile = i ∧ lt < s.standIn.tillTotals[j])
                              ∨ ∃ x ∈ s.standIn.cards, nc < x.count ∨ lc < x.total
                          (above → u.count .overLimitStanding = min (s.count .overLimitStanding + 1) 65535)
                            ∧ (¬ above → u.events = s.events))))
      ∧ (∀ interval nDown nUp settle : Nat, t.cmd = .setLink interval nDown nUp settle →
          let inRange := 1 ≤ interval ∧ interval ≤ 30 ∧ 1 ≤ nDown ∧ nDown ≤ 8 ∧ 1 ≤ nUp ∧ nUp ≤ 16 ∧ settle ≤ 60
          exec (.setLink interval nDown nUp settle) s =
            .next (State.answer
              { s.untaken with settings := { s.settings with
                  link := { interval := max 1 (min interval 30), nDown := max 1 (min nDown 8), nUp := max 1 (min nUp 16),
                            settle := min settle 60 } } } t (if inRange then .ok else .clamped) .link))
      ∧ ∀ o : StoreOperands, t.cmd = .setStore o → o.ports.length = 4 →
          ((o.mode = 0 ∨ 2 < o.mode ∨ o.policy = 0 ∨ 2 < o.policy ∨ o.window = 0 ∨ 8 < o.window ∨ o.share = 0 ∨ 8 < o.share
              ∨ 4 < o.portCount ∨ 0 ∈ o.ports.take o.portCount
              ∨ (o.drainGw.ip ≠ 0 ∧ (o.drainGw.hop = 0 ∨ o.drainGw.hop.getLsbD 40 = true))
              ∨ (o.probeGw.ip ≠ 0 ∧ (o.probeGw.hop = 0 ∨ o.probeGw.hop.getLsbD 40 = true))) → refused (.setStore o) .range)
            ∧ ∀ (m : TriggerMode) (p : Containment), m.code = o.mode → p.code = o.policy → 1 ≤ o.window → o.window ≤ 8 → 1 ≤ o.share →
                o.share ≤ 8 → o.portCount ≤ 4 → 0 ∉ o.ports.take o.portCount →
                (o.drainGw.ip = 0 ∨ (o.drainGw.hop ≠ 0 ∧ o.drainGw.hop.getLsbD 40 = false)) →
                (o.probeGw.ip = 0 ∨ (o.probeGw.hop ≠ 0 ∧ o.probeGw.hop.getLsbD 40 = false)) →
                ∃ u : State, exec (.setStore o) s =
                    .next (u.answer t (if 2 ≤ o.ackTimeout ∧ o.ackTimeout ≤ 60 ∧ 100 ≤ o.asmTimeout ∧ o.asmTimeout ≤ 2000 then .ok
                                       else .clamped) .store).settle
                  ∧ u.settings = { s.settings with
                      store := { mode := m, window := o.window, ackTimeout := max 2 (min o.ackTimeout 60), share := o.share, policy := p,
                                 asmTimeout := max 100 (min o.asmTimeout 2000), ports := o.ports.take o.portCount, ownIp := o.ownIp,
                                 drainGw := o.drainGw, probeGw := o.probeGw, enabled := o.classes } }
                  ∧ (let stops := s.drain.state = .running ∧ o.drainGw.ip = 0
                    let runs := s.drain.state = .armed ∧ s.link.state = .up ∧ s.link.settled = true ∧ o.drainGw.ip ≠ 0
                    (stops → u.drain = { s.drain with state := .armed, cursor := 0, inHand := none }
                        ∧ u.holding = { s.holding with
                            lines := s.holding.lines.map (fun l => { l with draining := false, deadline := none }) }
                        ∧ u.waitOrder = s.waitOrder.filter (fun x => x.1 != .drain))
                      ∧ (¬ stops → u.holding = s.holding ∧ u.waitOrder = s.waitOrder)
                      ∧ (runs → u.drain = { s.drain with state := .running, cursor := 0 })
                      ∧ (¬ stops → ¬ runs → u.drain = s.drain))
                  ∧ u = { s.untaken with settings := u.settings, drain := u.drain, holding := u.holding, waitOrder := u.waitOrder }

/-- R71, R72, R74, R75, R78, R79, R178, R184: LOAD-KEY's checks in order and the sector 2 write of its record, which waits behind one that
is in flight (R68; check 5 of R71 is for slot targets, so a second load of the fingerprint key waits in the same way); the three quiet-class
commands as they are taken; and, when each is carried out, its checks in order (ACTIVATE-KEY: RANGE for a FAULTED slot, BUSY, NO-STAGED,
PREVIOUS-IN-USE; ERASE-KEY: BUSY, and OK with nothing to do for an EMPTY slot with no staged record; DECOMMISSION: HOLDING-NOT-EMPTY while
FORCE is 0 and a record is WRITING or HELD) and its effect. R132, R134: the Outstanding entries an erasure removes are answered TIMED-OUT
and counted ENTRY-ERASED, in creation order, and then the erased slot's tills' queues are refused NO-KEY, in order of till index (the order
of each reply among the others: log 56). R184: DECOMMISSION leaves the Link Monitor, the operating state, sector 0, the totals and every context as they are, and blanks the
settings. R185: it asks for the erases of sectors 1 and 2, and the one of sector 1 begins when the
write in flight has ended. Which records its results count is the model's choice (log 65). What the DECOMMISSION clause says
of the drain, the waiting order and the lines of the record index is the model's reading (log 37): a RUNNING drain goes to ARMED, its pass
ended, its cursor at 0 and its frame in hand given up, as R168 has it where SET-STORE sets the drain gateway to none, since the blank store
settings name none; R184 itself gives the drain its values only when the format has ended. -/
def Obligations.KeyAndQuietCommands : Prop :=
  (∀ (s : State) (t : Taken) (target ksid gen : Nat) (enc : BitVec 384), s.mgmt.taken = some t → t.cmd = .loadKey target ksid gen enc →
      let c : Instr := .loadKey target ksid gen enc
      let refused := fun x : Status => exec c s = .next (s.untaken.answer t x (.bytes []))
      let first := (target < 16 ∨ target = 255) ∧ 1 ≤ gen ∧ gen ≤ 65535
      (¬ first → refused .range)
        ∧ (first → s.decryptKey target ksid gen enc = none → refused .range)
        ∧ ∀ base, first → s.decryptKey target ksid gen enc = some base →
            let free := s.writer2.inFlight = none ∧ s.writer2.waiting = [] ∧ s.writer2.eraseWanted = false ∧ s.erasing = false
            let record := newRecord s.transportKey target ksid gen base
            (target = 255 → s.holding.lines ≠ [] → refused .holdingNotEmpty)
              ∧ (target = 255 → s.holding.lines = [] → gen ≤ s.keys.fpFloor → refused .generationOrder)
              ∧ (target = 255 → s.holding.lines = [] → s.keys.fpFloor < gen → free →
                  ∃ u : State, exec c s = .next u ∧ (∃ w, u.writer2.inFlight = some w ∧ w.additions = [.loadFp record])
                    ∧ (∃ j, u.mgmt.jobs.getLast? = some j ∧ j.number = t.number ∧ j.s2 = .inFlight)
                    ∧ u = { s.untaken with writer1 := u.writer1, writer2 := u.writer2, mgmt := u.mgmt })
              ∧ (target = 255 → s.holding.lines = [] → s.keys.fpFloor < gen → s.writer2.inFlight.isSome = true →
                  ∃ u : State, exec c s = .next u
                    ∧ u.writer2 = { s.writer2 with waiting := s.writer2.waiting ++ [.loadFp record], wanted := true }
                    ∧ (∃ j, u.mgmt.jobs.getLast? = some j ∧ j.number = t.number ∧ j.s2 = .queued)
                    ∧ u = { s.untaken with writer1 := u.writer1, writer2 := u.writer2, mgmt := u.mgmt })
              ∧ ∀ k : SlotIx, k.val = target →
                  (gen ≤ (s.slot k).floor → refused .generationOrder)
                    ∧ ((s.slot k).floor < gen → (s.slot k).busy = true → refused .busy)
                    ∧ ((s.slot k).floor < gen → (s.slot k).busy = false → free →
                        ∃ u : State, exec c s = .next u ∧ u.slot k = { s.slot k with busy := true } ∧ (∀ l, l ≠ k → u.slot l = s.slot l)
                          ∧ (∃ w, u.writer2.inFlight = some w
                              ∧ w.additions = [.load k record])
                          ∧ (∃ j, u.mgmt.jobs.getLast? = some j ∧ j.number = t.number ∧ j.s2 = .inFlight)
                          ∧ u = { s.untaken with keys := u.keys, writer1 := u.writer1, writer2 := u.writer2, mgmt := u.mgmt })
                    ∧ ((s.slot k).floor < gen → (s.slot k).busy = false → s.writer2.inFlight.isSome = true →
                        ∃ u : State, exec c s = .next u ∧ u.slot k = { s.slot k with busy := true } ∧ (∀ l, l ≠ k → u.slot l = s.slot l)
                          ∧ u.writer2 = { s.writer2 with waiting := s.writer2.waiting ++ [.load k record], wanted := true }
                          ∧ (∃ j, u.mgmt.jobs.getLast? = some j ∧ j.number = t.number ∧ j.s2 = .queued)
                          ∧ u = { s.untaken with keys := u.keys, writer1 := u.writer1, writer2 := u.writer2, mgmt := u.mgmt }))
    ∧ (∀ (s : State) (t : Taken) (n : Nat) (c : Instr), s.mgmt.taken = some t → t.cmd = c →
        (c = .activateKey n ∨ c = .eraseKey n → 16 ≤ n → exec c s = .next (s.untaken.answer t .range (.bytes [])))
          ∧ (c = .decommission n → 1 < n → exec c s = .next (s.untaken.answer t .range (.bytes [])))
          ∧ ∀ h : Hold, ((c = .activateKey n ∨ c = .eraseKey n) ∧ (∃ k : SlotIx, k.val = n ∧ h = .slot k)
                ∨ c = .decommission n ∧ n ≤ 1 ∧ h = .engine) →
              ((∃ j ∈ s.mgmt.jobs, ∃ g l, j.role = .waiting g l) → exec c s = .next (s.untaken.answer t .busy (.bytes [])).settle)
                ∧ ((∀ j ∈ s.mgmt.jobs, ∀ g l, j.role ≠ .waiting g l) →
                    ∃ u : State, exec c s = .next u.settle
                      ∧ (∃ j, u.mgmt.jobs.getLast? = some j ∧ j.cmd = some c ∧ j.number = t.number
                          ∧ j.role = .waiting h (some (s.now + 2000)))
                      ∧ u = { s.untaken with writer1 := u.writer1, mgmt := u.mgmt }))
    ∧ (∀ (s : State) (t : Taken) (c : Instr) (h : Hold), s.mgmt.taken = some t → t.cmd = c →
        (∀ j ∈ s.mgmt.jobs, ∀ g l, j.role ≠ .waiting g l) →
        let carried := fun (x : Status) (r : Results) =>
          ∃ u : State, exec c s = .next u.finish
            ∧ (∃ j, u.mgmt.jobs.getLast? = some j ∧ j.cmd = some c ∧ j.number = t.number ∧ j.role = .waiting h none ∧ j.status = x
                ∧ j.results = r ∧ j.s2 = .no ∧ j.s3 = .no ∧ j.format = false)
            ∧ u = { s.untaken with writer1 := u.writer1, mgmt := u.mgmt }
        (∀ k : SlotIx, h = .slot k → (∀ i w, (s.ctx i).wrap = some w → w.slot ≠ k) →
            let x := s.slot k
            (c = .activateKey k.val →
                (x.state = .faulted → carried .range (.bytes []))
                  ∧ (x.state ≠ .faulted → x.busy = true → carried .busy (.bytes []))
                  ∧ (x.state ≠ .faulted → x.busy = false → x.staged = none → carried .noStaged (.bytes []))
                  ∧ (x.state ≠ .faulted → x.busy = false → x.staged.isSome = true → x.previous.isSome = true →
                      carried .previousInUse (.bytes [])))
              ∧ (c = .eraseKey k.val →
                  (x.busy = true → carried .busy (.bytes []))
                    ∧ (x.busy = false → x.state = .empty → x.staged = none → carried .ok (.erasure k))))
          ∧ (h = .engine → c = .decommission 0 → (∀ i, (s.ctx i).phase = .idle) → s.holding.lines ≠ [] →
              carried .holdingNotEmpty (.bytes [])))
    ∧ (∀ (s : State) (t : Taken) (k : SlotIx), s.mgmt.taken = some t → t.cmd = .activateKey k.val →
        (∀ j ∈ s.mgmt.jobs, ∀ g l, j.role ≠ .waiting g l) → (∀ i w, (s.ctx i).wrap = some w → w.slot ≠ k) →
        (s.slot k).state ≠ .faulted → (s.slot k).busy = false → (s.slot k).staged.isSome = true → (s.slot k).previous = none →
        let free := s.writer2.inFlight = none ∧ s.writer2.waiting = [] ∧ s.writer2.eraseWanted = false ∧ s.erasing = false
        (free ∨ s.writer2.inFlight.isSome = true) →
        ∃ u : State, exec (.activateKey k.val) s = .next u.finish ∧ u.slot k = { s.slot k with busy := true }
          ∧ (∀ l, l ≠ k → u.slot l = s.slot l) ∧ u.keys.fp = s.keys.fp ∧ u.keys.fpFloor = s.keys.fpFloor
          ∧ (free → ∃ w, u.writer2.inFlight = some w ∧ w.additions = [.activate k])
          ∧ (s.writer2.inFlight.isSome = true →
              u.writer2 = { s.writer2 with waiting := s.writer2.waiting ++ [.activate k], wanted := true })
          ∧ (∃ j, u.mgmt.jobs.getLast? = some j ∧ j.number = t.number ∧ j.role = .waiting (.slot k) none
              ∧ (free → j.s2 = .inFlight) ∧ (s.writer2.inFlight.isSome = true → j.s2 = .queued))
          ∧ u = { s.untaken with keys := u.keys, writer1 := u.writer1, writer2 := u.writer2, mgmt := u.mgmt })
    ∧ (∀ (s : State) (t : Taken) (k : SlotIx), s.mgmt.taken = some t → t.cmd = .eraseKey k.val →
        (∀ j ∈ s.mgmt.jobs, ∀ g l, j.role ≠ .waiting g l) → (∀ i w, (s.ctx i).wrap = some w → w.slot ≠ k) →
        (s.slot k).busy = false → ((s.slot k).state ≠ .empty ∨ (s.slot k).staged.isSome = true) →
        let entries := s.outstanding.filter (fun e => e.slot == k)
        let waiting := (s.boundTills k).flatMap (fun i => (s.till i).queue)
        let replies := entries.map (fun e => (e.path, be 1 1 ++ be 1 6 ++ be 2 e.number ++ be 4 e.reference ++ be 1 0))
          ++ waiting.map (fun m => (m.path, be 1 1 ++ be 1 5 ++ be 2 m.number ++ be 4 m.reference ++ be 1 22))
        let free := s.writer2.inFlight = none ∧ s.writer2.waiting = [] ∧ s.writer2.eraseWanted = false ∧ s.erasing = false
        ∃ u : State, exec (.eraseKey k.val) s = .next u.finish ∧ u.slot k = { emptySlot with floor := (s.slot k).floor }
          ∧ (s.placeWait = [] → (s.outstanding.map (fun e => (e.till, e.reference))).Nodup →
              u.outstanding = s.outstanding.filter (fun e => e.slot != k))
          ∧ (∀ i b, (s.till i).binding = some b → b.slot = k → (u.till i).queue = [])
          ∧ u.count .keyErased = min (s.count .keyErased + 1) 65535
          ∧ (s.count .entryErased ≤ 65535 → u.count .entryErased = min (s.count .entryErased + entries.length) 65535)
          ∧ (s.count .localTimedOut ≤ 65535 → u.count .localTimedOut = min (s.count .localTimedOut + entries.length) 65535)
          ∧ (s.count .localRefused ≤ 65535 → u.count .localRefused = min (s.count .localRefused + waiting.length) 65535)
          ∧ (s.placeWait = [] → s.ipId < 65536 → s.lane.linkUp = true → s.lane.priority.length + replies.length ≤ 32 →
              u.lane.priority = s.lane.priority ++
                replies.zipIdx.map (fun x => TxFrame.mk (replyFrame x.1.1 ((s.ipId + x.2) % 65536) x.1.2) false))
          ∧ (free → ∃ w c, u.writer2.inFlight = some w ∧ w.contents = some c ∧ w.additions = []
              ∧ c.slots[k] = { current := none, staged := none, state := .empty, floor := (s.slot k).floor })
          ∧ (s.writer2.inFlight.isSome = true → u.writer2.inFlight = s.writer2.inFlight ∧ u.writer2.wanted = true)
          ∧ (∃ j, u.mgmt.jobs.getLast? = some j ∧ j.number = t.number ∧ j.role = .waiting (.slot k) none ∧ j.status = .ok
              ∧ j.results = .erasure k ∧ (free → j.s2 = .inFlight) ∧ (s.writer2.inFlight.isSome = true → j.s2 = .queued))
          ∧ (∀ l, l ≠ k → u.slot l = s.slot l) ∧ u.keys.fp = s.keys.fp ∧ u.keys.fpFloor = s.keys.fpFloor
          ∧ u.settings = s.settings ∧ u.counters = s.counters ∧ u.standIn = s.standIn ∧ u.link = s.link ∧ u.store = s.store
          ∧ (s.placeWait = [] → u = { s.untaken with
              keys := u.keys, tills := u.tills, outstanding := u.outstanding, events := u.events, lane := u.lane, ipId := u.ipId
              writer1 := u.writer1, writer2 := u.writer2, mgmt := u.mgmt }))
    ∧ (∀ (s : State) (t : Taken) (force : Nat), s.mgmt.taken = some t → t.cmd = .decommission force →
        (∀ j ∈ s.mgmt.jobs, ∀ g l, j.role ≠ .waiting g l) → (∀ i, (s.ctx i).phase = .idle) →
        (force = 1 ∨ force = 0 ∧ s.holding.lines = []) → s.placeWait = [] →
        let queued := (allTills.filter (fun i => (s.till i).binding.isSome)).flatMap (fun i => (s.till i).queue)
        ∃ u : State, exec (.decommission force) s = .next u.finish ∧ u.keys = blankKeys ∧ u.outstanding = []
          ∧ (∀ i, (u.till i).binding = none)
          ∧ (∀ i, (s.till i).binding.isSome = true → (u.till i).queue = [] ∧ (u.till i).record = none)
          ∧ (s.count .entryErased ≤ 65535 →
              u.count .entryErased = min (s.count .entryErased + s.outstanding.length) 65535)
          ∧ (s.count .localTimedOut ≤ 65535 →
              u.count .localTimedOut = min (s.count .localTimedOut + s.outstanding.length) 65535)
          ∧ (s.count .localRefused ≤ 65535 → u.count .localRefused = min (s.count .localRefused + queued.length) 65535)
          ∧ (∀ k i, u.ctr k i = { c := 0, k := 0, raise := none, failed := false }) ∧ u.settings = blankSettings
          ∧ (let endPass := fun lines : List IndexLine =>
              if s.drain.state = .running then lines.map (fun l => { l with draining := false, deadline := none }) else lines
            u.holding = { s.holding with lines := endPass s.holding.lines
                                         format := if s.holding.ops = [] then .running else .waiting })
          ∧ u.drain = (if s.drain.state = .running then { s.drain with state := .armed, cursor := 0, inHand := none } else s.drain)
          ∧ u.waitOrder = (if s.drain.state = .running then s.waitOrder.filter (fun x => x.1 != .drain) else s.waitOrder)
          ∧ u.count .decommissioned = min (s.count .decommissioned + 1) 65535
          ∧ (s.writer2.inFlight = none → s.erasing = false →
              ∃ w, u.writer2.inFlight = some w ∧ w.contents = none ∧ w.thenErase3 = true)
          ∧ u.writer1.eraseWanted = true ∧ (s.erasing = false → u.writer1.inFlight.isSome = true)
          ∧ (∃ j, u.mgmt.jobs.getLast? = some j ∧ j.number = t.number ∧ j.role = .waiting .engine none ∧ j.status = .ok
              ∧ j.results = .bytes (be 2 (s.holding.lines.filter (·.held)).length ++ be 2 s.outstanding.length)
              ∧ j.s1 = .queued ∧ j.s2 ≠ .no ∧ j.format = true)
          ∧ u.mgmt.last = s.mgmt.last
          ∧ u = { s.untaken with
              keys := u.keys, outstanding := u.outstanding, tills := u.tills, counters := u.counters, settings := u.settings
              holding := u.holding, drain := u.drain, waitOrder := u.waitOrder, events := u.events, lane := u.lane, ipId := u.ipId
              writer1 := u.writer1, writer2 := u.writer2, mgmt := u.mgmt })
    ∧ ∀ (s : State) (c : Option Sector1), s.writer1.inFlight = some c → s.writer1.eraseWanted = true → s.erasing = false →
        (∃ u : State, exec (.sectorWriteComplete .settings) s = .next u.settle
            ∧ u.store = { s.store with sec1 := match c with | none => .blank | some x => .good x }
            ∧ u.writer1 = { inFlight := some none, wanted := false, eraseWanted := false }
            ∧ u = { s with store := u.store, writer1 := u.writer1, mgmt := u.mgmt })
          ∧ (s.settings.store.policy = .lenient →
              ∃ u : State, exec (.sectorWriteFail .settings) s = .next u.settle
                ∧ u.writer1 = { inFlight := some none, wanted := false, eraseWanted := false }
                ∧ u.count .nvWriteFail = min (s.count .nvWriteFail + 1) 65535
                ∧ u = { s with events := u.events, writer1 := u.writer1, mgmt := u.mgmt })

/-- R164, R168, R183, R194: START-DRAIN clears the suspended flag and, in COMMAND mode with a record HELD, arms an IDLE drain (in AUTO mode
the arming is left to the end of the step, the model's choice of log 50, where DrainTakesRecordsInOrder says it); STOP-DRAIN sets it and
takes the drain to IDLE, ending a RUNNING one's pass (R167): no record DRAINING, no deadline running, the cursor at 0 and the frame in hand
given up, with every record's head, the accumulators and the summary as they were; RELEASE-LOCKDOWN needs a clear tamper input and no zeroisation erase in progress; RESET ends the waiting command
and takes no further frame. That a release's results are SERVING, the state it enters, is R194's; a RESET's end of the waiting command
without a response is read with log 22. -/
def Obligations.DrainReleaseAndResetCommands : Prop :=
  ∀ (s : State) (t : Taken), s.mgmt.taken = some t →
    (t.cmd = .startDrain →
        ∃ u : State, exec .startDrain s = .next (u.answer t .ok .drain).settle
          ∧ u.settings = { s.settings with suspended := false }
          ∧ (s.settings.store.mode = .auto → u.drain = s.drain)
          ∧ (s.settings.store.mode = .command → s.opState = .serving → s.drain.state = .idle → s.anyHeld = true →
              u.drain.state = (if s.lineSettled && s.hasDrainGateway then .running else .armed))
          ∧ ((s.drain.state ≠ .idle ∨ s.anyHeld = false ∨ s.opState ≠ .serving) → u.drain = s.drain)
          ∧ u = { s.untaken with settings := u.settings, drain := u.drain })
      ∧ (t.cmd = .stopDrain →
          ∃ u : State, exec .stopDrain s = .next (u.answer t .ok .drain) ∧ u.settings = { s.settings with suspended := true }
            ∧ (s.drain.state = .running →
                u.drain = { s.drain with state := .idle, cursor := 0, inHand := none }
                  ∧ u.holding.lines = s.holding.lines.map (fun l => { l with draining := false, deadline := none })
                  ∧ u.waitOrder = s.waitOrder.filter (fun x => x.1 != .drain))
            ∧ (s.drain.state ≠ .running →
                u.drain = { s.drain with state := .idle } ∧ u.holding.lines = s.holding.lines ∧ u.waitOrder = s.waitOrder)
            ∧ u = { s.untaken with settings := u.settings, drain := u.drain, holding := { s.holding with lines := u.holding.lines }
                                   waitOrder := u.waitOrder })
      ∧ (t.cmd = .releaseLockdown →
          (s.opState ≠ .lockdown → exec .releaseLockdown s = .next (s.untaken.answer t .ok .opState))
            ∧ (s.opState = .lockdown →
                (s.tamperIn = true → exec .releaseLockdown s = .next (s.untaken.answer t .tamperAsserted (.bytes [])))
                  ∧ (s.tamperIn = false → s.zeroising = true → exec .releaseLockdown s = .next (s.untaken.answer t .busy (.bytes [])))
                  ∧ (s.tamperIn = false → s.zeroising = false →
                      exec .releaseLockdown s =
                        .next ((State.raise { s.untaken with opState := .serving } .lockdownReleased).answer t .ok
                          (.bytes (be 1 3))).settle)))
      ∧ (t.cmd = .reset →
          ∃ u : State, exec .reset s = .next (u.answer t .ok (.bytes [])).settle ∧ u.mgmt.reset = .accepted ∧ u.unitBusy = true
            ∧ (∀ j ∈ u.mgmt.jobs, ∀ h l, j.role ≠ .waiting h l)
            ∧ u = { s.untaken with mgmt := u.mgmt })

/-! ### The factory port -/

/-- R190: the factory port's commands are taken in FACTORY, or refused; FULL-ERASE is taken in any state, closes the receive paths and
discards what was requested of the stores; what each begins ends with DONE or FAILED, a CLOSE-FACTORY that succeeds and FULL-ERASE with a
reset; a command that comes while one is in progress, or before the sectors are read, waits, and is taken when the port is ready; each
command has an answer of its own. The model's choices: an end with no command in progress changes nothing (log 10); the answers stay over
the reset (log 21); a command that comes while one is in progress waits (log 74); until its reset FULL-ERASE lets no other write begin
(log 20), and a waiting command whose write it discards goes with its hold, without a grant decision in that step (log 69); an erase of FULL-ERASE that fails is answered FAILED in
the operating state the part was in, raises no event and is not contained (log 70). -/
def Obligations.FactoryPortCommands : Prop :=
  (∀ (s : State) (c : Instr), s.factoryReady = true → s.factory.waiting = [] →
      (∀ serial mac etype k1 k2, c = .writeIdentity serial mac etype k1 k2 →
          let fits := mac ≠ 0 ∧ mac.getLsbD 40 = false ∧ etype ≠ 0x0800 ∧ etype ≠ 0x0806 ∧ etype ≠ 0x8100
          (s.opState = .factory → s.isClosed = false → fits →
              exec c s = .next { s with factory := { s.factory with op := some (.identity
                { serial := serial, mac := mac, etype := etype, mgmtKey := k1, transportKey := k2, closed := false }) } })
            ∧ ((s.opState ≠ .factory ∨ s.isClosed = true ∨ ¬ fits) →
                exec c s = .next { s with factory := { s.factory with answers := s.factory.answers ++ [(.refused, s.opState)] } }))
        ∧ (c = .closeFactory →
            (∀ x, s.opState = .factory → s.store.sec0 = .good x →
                exec c s = .next { s with factory := { s.factory with op := some (.close { x with closed := true }) } })
              ∧ ((s.opState ≠ .factory ∨ s.store.sec0 = .blank ∨ s.store.sec0 = .failing) →
                  exec c s = .next { s with factory := { s.factory with answers := s.factory.answers ++ [(.refused, s.opState)] } }))
        ∧ (c = .fullErase → s.erasing = false →
            ∃ u : State, exec c s = .next u ∧ u.rxOpen = false ∧ u.erasing = true ∧ u.holding.ops = [] ∧ u.holding.format = .running
              ∧ u.counters.inFlight = none ∧ u.counters.pending = [] ∧ u.writer1.inFlight = none ∧ u.writer2.waiting = []
              ∧ u.store = s.store ∧ u.opState = s.opState ∧ u.counters.entries = s.counters.entries
              ∧ u = { s with rxOpen := false, writer1 := u.writer1, writer2 := u.writer2, counters := u.counters, holding := u.holding
                             mgmt := u.mgmt, factory := u.factory, free := u.free }))
    ∧ (∀ (s : State) (c : Instr), (s.factoryReady = false ∨ s.factory.waiting ≠ []) →
        ((∃ serial mac etype k1 k2, c = .writeIdentity serial mac etype k1 k2) ∨ c = .closeFactory ∨ c = .fullErase) →
        exec c s = .next { s with factory := { s.factory with waiting := s.factory.waiting ++ [c] } })
    ∧ (∀ (s : State) (b0 b1 b2 b3 : Bool), s.factory.op = none → exec (.factoryWriteEnd b0 b1 b2 b3) s = .next s)
    ∧ (∀ (s : State) (x : Identity) (b1 b2 b3 : Bool), s.factory.op = some (.identity x) →
        let told := fun (y : FactoryAnswer) =>
          { s with factory := { s.factory with op := none, answers := s.factory.answers ++ [(y, s.opState)] } }
        exec (.factoryWriteEnd true b1 b2 b3) s =
            .next (State.serveFactory { told .done with store := { s.store with sec0 := .good x }, identity := some x })
          ∧ exec (.factoryWriteEnd false b1 b2 b3) s = .next (told (.failed 0)).serveFactory)
    ∧ (∀ (s : State) (x : Identity) (b1 b2 b3 : Bool), s.factory.op = some (.close x) →
        (∃ u : State, exec (.factoryWriteEnd true b1 b2 b3) s = .next u ∧ u.store.sec0 = .good x ∧ u.opState = .starting
          ∧ u.startup = .reading ∧ u.rxOpen = false ∧ u.factory.op = none ∧ u.factory.waiting = s.factory.waiting
          ∧ u.factory.answers = s.factory.answers ++ [(.done, s.opState)])
          ∧ exec (.factoryWriteEnd false b1 b2 b3) s =
              .next (State.serveFactory
                { s with factory := { s.factory with op := none, answers := s.factory.answers ++ [(.failed 0, s.opState)] } }))
    ∧ (∀ s : State, (s.factory.waiting = [] ∨ s.factoryReady = false → s.serveFactory = s)
        ∧ (∀ (c : Instr) (rest : List Instr), s.factory.waiting = c :: rest → s.factoryReady = true →
            (∃ serial mac etype k1 k2, c = .writeIdentity serial mac etype k1 k2) ∨ c = .closeFactory ∨ c = .fullErase →
            ∃ u : State, exec c { s with factory := { s.factory with waiting := [] } } = .next u
              ∧ s.serveFactory = State.serveFactory { u with factory := { u.factory with waiting := rest } }))
    ∧ ∀ (s : State) (b0 b1 b2 b3 : Bool), s.factory.op = some .erase →
        ∃ u : State, exec (.factoryWriteEnd b0 b1 b2 b3) s = .next u ∧ u.opState = .starting ∧ u.startup = .reading ∧ u.rxOpen = false
          ∧ u.factory.op = none ∧ u.holding = formattedStore ∧ u.factory.waiting = s.factory.waiting
          ∧ u.store.sec0 = (if b0 then .blank else s.store.sec0) ∧ u.store.sec1 = (if b1 then .blank else s.store.sec1)
          ∧ ((∀ w, s.writer2.inFlight = some w → w.zeroise = false) → u.store.sec2 = (if b2 then .blank else s.store.sec2))
          ∧ u.store.sec3 = (if b3 then .blank else s.store.sec3)
          ∧ u.factory.answers = s.factory.answers
              ++ [(if b0 = false then .failed 0 else if b1 = false then .failed 1 else if b2 = false then .failed 2
                   else if b3 = false then .failed 3 else .done, s.opState)]
end

