-- ==== Sys2Proof/Laws/Bytes.lean ====
section
/-! SUPPORT. Integers in bytes (R2): what is written in a width reads back, and bytes joined read as their parts. -/

namespace Sys2Proof.Machine

/-- An integer in `w` bytes is `w` bytes long. -/
@[simp] theorem length_be (w n : Nat) : (be w n).length = w := by
  induction w generalizing n with
  | zero => rfl
  | succ w ih => simp [be, ih]

@[simp] theorem length_beVec {v : Nat} (w : Nat) (x : BitVec v) : (beVec w x).length = w := length_be w _

theorem foldl_bytes (b : Bytes) (a : Nat) :
    b.foldl (fun a x => a * 256 + x.toNat) a = a * 256 ^ b.length + b.foldl (fun a x => a * 256 + x.toNat) 0 := by
  induction b generalizing a with
  | nil => simp
  | cons x b ih =>
    rw [List.foldl_cons, List.foldl_cons, ih (a * 256 + x.toNat), ih (0 * 256 + x.toNat), List.length_cons, Nat.pow_succ]
    ring

/-- Joined bytes read as the first part, moved up by the length of the second, and the second. -/
theorem beNat_append (a b : Bytes) : beNat (a ++ b) = beNat a * 256 ^ b.length + beNat b := by
  unfold beNat; rw [List.foldl_append, foldl_bytes]

/-- What is written in `w` bytes reads back, cut to them. -/
@[simp] theorem beNat_be (w n : Nat) : beNat (be w n) = n % 256 ^ w := by
  induction w generalizing n with
  | zero => simp [be, beNat, Nat.mod_one]
  | succ w ih =>
    have h : be (w + 1) n = [BitVec.ofNat 8 (n / 256 ^ w)] ++ be w n := rfl
    rw [h, beNat_append, ih, length_be]
    have h1 : beNat [BitVec.ofNat 8 (n / 256 ^ w)] = n / 256 ^ w % 256 := by simp [beNat]
    rw [h1, Nat.pow_succ, Nat.mod_mul]
    ring

/-- A bit vector of whole bytes reads back whole. -/
theorem beNat_beVec {v : Nat} (w : Nat) (x : BitVec v) (h : v ≤ 8 * w) : beNat (beVec w x) = x.toNat := by
  unfold beVec
  rw [beNat_be, Nat.mod_eq_of_lt]
  calc x.toNat < 2 ^ v := x.isLt
    _ ≤ 2 ^ (8 * w) := Nat.pow_le_pow_right (by decide) h
    _ = 256 ^ w := by rw [Nat.pow_mul]

/-- A field that stands between what is before it and what is after it. -/
theorem field_between (a b c : Bytes) : field (a ++ b ++ c) a.length b.length = beNat b := by
  simp [field, List.append_assoc]

end Sys2Proof.Machine
end

