-- ==== Sys2Proof/Laws/Frames.lean ====
section
/-! SUPPORT. Payloads that end with an authentication code (sections 1.4 to 1.8), and keys carried under the transport key (R71): what is
read back from what was built. -/

namespace Sys2Proof.Machine

/-- The code read back from a payload it ends. -/
@[simp] theorem codeOf_append (b : Bytes) (c : Code) : codeOf (b ++ beVec 8 c) = c := by
  have h : (b ++ beVec 8 c).drop ((b ++ beVec 8 c).length - 8) = beVec 8 c := by simp
  unfold codeOf
  rw [h, beNat_beVec 8 c (by decide), BitVec.ofNat_toNat, BitVec.setWidth_eq]

/-- What the code is over, read back. -/
@[simp] theorem withoutCode_append (b : Bytes) (c : Code) : withoutCode (b ++ beVec 8 c) = b := by simp [withoutCode]

/-- A management command that is built reads back (R14). -/
theorem readCommand_built (key : Key) (number code : Nat) (operands rest : Bytes) (h1 : number < 4294967296) (h2 : code < 256)
    (h3 : operands.length < 65536) :
    readCommand key (sealed key (be 1 1 ++ be 4 number ++ be 1 code ++ be 2 operands.length ++ operands) ++ rest) =
      some (number, code, operands) := by
  obtain ⟨head, hh⟩ : ∃ h, h = be 1 1 ++ be 4 number ++ be 1 code ++ be 2 operands.length := ⟨_, rfl⟩
  obtain ⟨c, hc⟩ : ∃ c, c = authCode key (head ++ operands) := ⟨_, rfl⟩
  have hl : head.length = 8 := by rw [hh]; simp
  have e : sealed key (be 1 1 ++ be 4 number ++ be 1 code ++ be 2 operands.length ++ operands) ++ rest =
      head ++ (operands ++ (beVec 8 c ++ rest)) := by
    rw [hc]; simp [sealed, hh, List.append_assoc]
  rw [e]
  have f0 : field (head ++ (operands ++ (beVec 8 c ++ rest))) 0 1 = 1 := by
    rw [hh]; have := field_between [] (be 1 1) (be 4 number ++ be 1 code ++ be 2 operands.length ++ (operands ++ (beVec 8 c ++ rest)))
    simpa [List.append_assoc] using this
  have f1 : field (head ++ (operands ++ (beVec 8 c ++ rest))) 1 4 = number := by
    rw [hh]; have := field_between (be 1 1) (be 4 number) (be 1 code ++ be 2 operands.length ++ (operands ++ (beVec 8 c ++ rest)))
    simp only [length_be, List.append_assoc, beNat_be] at this ⊢
    rw [this]; exact Nat.mod_eq_of_lt h1
  have f5 : field (head ++ (operands ++ (beVec 8 c ++ rest))) 5 1 = code := by
    rw [hh]; have := field_between (be 1 1 ++ be 4 number) (be 1 code) (be 2 operands.length ++ (operands ++ (beVec 8 c ++ rest)))
    simp only [length_be, List.length_append, List.append_assoc, beNat_be] at this ⊢
    rw [this]; exact Nat.mod_eq_of_lt h2
  have f6 : field (head ++ (operands ++ (beVec 8 c ++ rest))) 6 2 = operands.length := by
    rw [hh]; have := field_between (be 1 1 ++ be 4 number ++ be 1 code) (be 2 operands.length) (operands ++ (beVec 8 c ++ rest))
    simp only [length_be, List.length_append, List.append_assoc, beNat_be] at this ⊢
    rw [this]; exact Nat.mod_eq_of_lt h3
  have f8 : field (head ++ (operands ++ (beVec 8 c ++ rest))) (8 + operands.length) 8 = c.toNat := by
    have := field_between (head ++ operands) (beVec 8 c) rest
    simp only [length_beVec, List.length_append, List.append_assoc, hl, beNat_beVec 8 c (by decide)] at this
    exact this
  unfold readCommand
  simp only [f0, f1, f5, f6, f8]
  rw [if_pos]
  · simp [hl]
  · refine ⟨by simp [hl], by simp [hl]; omega, trivial, ?_⟩
    rw [BitVec.ofNat_toNat, BitVec.setWidth_eq, hc]
    congr 1
    simp [List.take_append, hl]

theorem extract_high {u v w : Nat} (a : BitVec u) (b : BitVec v) (c : BitVec w) : (a ++ b ++ c).extractLsb' (w + v) u = a := by
  ext i hi
  have h1 : ¬ w + v + i < w := by omega
  have h2 : ¬ w + v + i - w < v := by omega
  have h3 : w + v + i - w - v = i := by omega
  simp [BitVec.getLsbD_append, h1, h2, h3, hi]

theorem extract_middle {u v w : Nat} (a : BitVec u) (b : BitVec v) (c : BitVec w) : (a ++ b ++ c).extractLsb' w v = b := by
  ext i hi
  have h1 : ¬ w + i < w := by omega
  have h2 : w + i - w = i := by omega
  simp [BitVec.getLsbD_append, hi]

theorem extract_low {u v w : Nat} (a : BitVec u) (b : BitVec v) (c : BitVec w) : (a ++ b ++ c).extractLsb' 0 w = c := by
  ext i hi
  simp [BitVec.getLsbD_append, hi]

/-- Three blocks one after another, taken apart. -/
theorem extract_blocks (a b c : Block) :
    (a ++ b ++ c).extractLsb' 256 128 = a ∧ (a ++ b ++ c).extractLsb' 128 128 = b ∧ (a ++ b ++ c).extractLsb' 0 128 = c :=
  ⟨extract_high a b c, extract_middle a b c, extract_low a b c⟩

/-- A key carried as R71 carries it decrypts to its blocks. -/
theorem plainBlocks_built (key : Key) (p1 p2 v : Block) :
    plainBlocks key (cipher key p1 ++ cipher key (p2 ^^^ cipher key p1) ++ cipher key (v ^^^ cipher key (p2 ^^^ cipher key p1))) =
      (p1, p2, v) := by
  obtain ⟨h1, h2, h3⟩ :=
    extract_blocks (cipher key p1) (cipher key (p2 ^^^ cipher key p1)) (cipher key (v ^^^ cipher key (p2 ^^^ cipher key p1)))
  unfold plainBlocks
  dsimp only
  rw [h1, h2, h3]
  simp only [decipher, cipher, Equiv.symm_apply_apply, BitVec.xor_assoc, BitVec.xor_self, BitVec.xor_zero]

end Sys2Proof.Machine
end

