-- ==== Sys2Proof/Laws/State.lean ====
section
/-! SUPPORT. One lemma per field per update of the state, true by rfl and tagged for simp, so that no proof unfolds a record update; and what
each table reads after one of its entries is replaced. -/

namespace Sys2Proof.Machine

variable (s : State)

/-! ### setTill -/

@[simp] theorem State.setTill_now (i : TillIx) (t : Till) : (s.setTill i t).now = s.now := rfl
@[simp] theorem State.setTill_free (i : TillIx) (t : Till) : (s.setTill i t).free = s.free := rfl
@[simp] theorem State.setTill_opState (i : TillIx) (t : Till) : (s.setTill i t).opState = s.opState := rfl
@[simp] theorem State.setTill_startup (i : TillIx) (t : Till) : (s.setTill i t).startup = s.startup := rfl
@[simp] theorem State.setTill_cause (i : TillIx) (t : Till) : (s.setTill i t).cause = s.cause := rfl
@[simp] theorem State.setTill_tamperIn (i : TillIx) (t : Till) : (s.setTill i t).tamperIn = s.tamperIn := rfl
@[simp] theorem State.setTill_rxOpen (i : TillIx) (t : Till) : (s.setTill i t).rxOpen = s.rxOpen := rfl
@[simp] theorem State.setTill_lane (i : TillIx) (t : Till) : (s.setTill i t).lane = s.lane := rfl
@[simp] theorem State.setTill_uplink (i : TillIx) (t : Till) : (s.setTill i t).uplink = s.uplink := rfl
@[simp] theorem State.setTill_waitOrder (i : TillIx) (t : Till) : (s.setTill i t).waitOrder = s.waitOrder := rfl
@[simp] theorem State.setTill_ipId (i : TillIx) (t : Till) : (s.setTill i t).ipId = s.ipId := rfl
@[simp] theorem State.setTill_identity (i : TillIx) (t : Till) : (s.setTill i t).identity = s.identity := rfl
@[simp] theorem State.setTill_settings (i : TillIx) (t : Till) : (s.setTill i t).settings = s.settings := rfl
@[simp] theorem State.setTill_counters (i : TillIx) (t : Till) : (s.setTill i t).counters = s.counters := rfl
@[simp] theorem State.setTill_keys (i : TillIx) (t : Till) : (s.setTill i t).keys = s.keys := rfl
@[simp] theorem State.setTill_store (i : TillIx) (t : Till) : (s.setTill i t).store = s.store := rfl
@[simp] theorem State.setTill_writer1 (i : TillIx) (t : Till) : (s.setTill i t).writer1 = s.writer1 := rfl
@[simp] theorem State.setTill_writer2 (i : TillIx) (t : Till) : (s.setTill i t).writer2 = s.writer2 := rfl
@[simp] theorem State.setTill_arbiter (i : TillIx) (t : Till) : (s.setTill i t).arbiter = s.arbiter := rfl
@[simp] theorem State.setTill_ctxs (i : TillIx) (t : Till) : (s.setTill i t).ctxs = s.ctxs := rfl
@[simp] theorem State.setTill_placeWait (i : TillIx) (t : Till) : (s.setTill i t).placeWait = s.placeWait := rfl
@[simp] theorem State.setTill_outstanding (i : TillIx) (t : Till) : (s.setTill i t).outstanding = s.outstanding := rfl
@[simp] theorem State.setTill_holdNotes (i : TillIx) (t : Till) : (s.setTill i t).holdNotes = s.holdNotes := rfl
@[simp] theorem State.setTill_link (i : TillIx) (t : Till) : (s.setTill i t).link = s.link := rfl
@[simp] theorem State.setTill_standIn (i : TillIx) (t : Till) : (s.setTill i t).standIn = s.standIn := rfl
@[simp] theorem State.setTill_holding (i : TillIx) (t : Till) : (s.setTill i t).holding = s.holding := rfl
@[simp] theorem State.setTill_drain (i : TillIx) (t : Till) : (s.setTill i t).drain = s.drain := rfl
@[simp] theorem State.setTill_mgmt (i : TillIx) (t : Till) : (s.setTill i t).mgmt = s.mgmt := rfl
@[simp] theorem State.setTill_events (i : TillIx) (t : Till) : (s.setTill i t).events = s.events := rfl
@[simp] theorem State.setTill_factory (i : TillIx) (t : Till) : (s.setTill i t).factory = s.factory := rfl
@[simp] theorem State.setTill_pending (i : TillIx) (t : Till) : (s.setTill i t).pending = s.pending := rfl

/-! ### setCtr -/

@[simp] theorem State.setCtr_now (k : SlotIx) (i : TillIx) (e : CounterEntry) : (s.setCtr k i e).now = s.now := rfl
@[simp] theorem State.setCtr_free (k : SlotIx) (i : TillIx) (e : CounterEntry) : (s.setCtr k i e).free = s.free := rfl
@[simp] theorem State.setCtr_opState (k : SlotIx) (i : TillIx) (e : CounterEntry) : (s.setCtr k i e).opState = s.opState := rfl
@[simp] theorem State.setCtr_startup (k : SlotIx) (i : TillIx) (e : CounterEntry) : (s.setCtr k i e).startup = s.startup := rfl
@[simp] theorem State.setCtr_cause (k : SlotIx) (i : TillIx) (e : CounterEntry) : (s.setCtr k i e).cause = s.cause := rfl
@[simp] theorem State.setCtr_tamperIn (k : SlotIx) (i : TillIx) (e : CounterEntry) : (s.setCtr k i e).tamperIn = s.tamperIn := rfl
@[simp] theorem State.setCtr_rxOpen (k : SlotIx) (i : TillIx) (e : CounterEntry) : (s.setCtr k i e).rxOpen = s.rxOpen := rfl
@[simp] theorem State.setCtr_lane (k : SlotIx) (i : TillIx) (e : CounterEntry) : (s.setCtr k i e).lane = s.lane := rfl
@[simp] theorem State.setCtr_uplink (k : SlotIx) (i : TillIx) (e : CounterEntry) : (s.setCtr k i e).uplink = s.uplink := rfl
@[simp] theorem State.setCtr_waitOrder (k : SlotIx) (i : TillIx) (e : CounterEntry) : (s.setCtr k i e).waitOrder = s.waitOrder := rfl
@[simp] theorem State.setCtr_ipId (k : SlotIx) (i : TillIx) (e : CounterEntry) : (s.setCtr k i e).ipId = s.ipId := rfl
@[simp] theorem State.setCtr_identity (k : SlotIx) (i : TillIx) (e : CounterEntry) : (s.setCtr k i e).identity = s.identity := rfl
@[simp] theorem State.setCtr_settings (k : SlotIx) (i : TillIx) (e : CounterEntry) : (s.setCtr k i e).settings = s.settings := rfl
@[simp] theorem State.setCtr_tills (k : SlotIx) (i : TillIx) (e : CounterEntry) : (s.setCtr k i e).tills = s.tills := rfl
@[simp] theorem State.setCtr_keys (k : SlotIx) (i : TillIx) (e : CounterEntry) : (s.setCtr k i e).keys = s.keys := rfl
@[simp] theorem State.setCtr_store (k : SlotIx) (i : TillIx) (e : CounterEntry) : (s.setCtr k i e).store = s.store := rfl
@[simp] theorem State.setCtr_writer1 (k : SlotIx) (i : TillIx) (e : CounterEntry) : (s.setCtr k i e).writer1 = s.writer1 := rfl
@[simp] theorem State.setCtr_writer2 (k : SlotIx) (i : TillIx) (e : CounterEntry) : (s.setCtr k i e).writer2 = s.writer2 := rfl
@[simp] theorem State.setCtr_arbiter (k : SlotIx) (i : TillIx) (e : CounterEntry) : (s.setCtr k i e).arbiter = s.arbiter := rfl
@[simp] theorem State.setCtr_ctxs (k : SlotIx) (i : TillIx) (e : CounterEntry) : (s.setCtr k i e).ctxs = s.ctxs := rfl
@[simp] theorem State.setCtr_placeWait (k : SlotIx) (i : TillIx) (e : CounterEntry) : (s.setCtr k i e).placeWait = s.placeWait := rfl
@[simp] theorem State.setCtr_outstanding (k : SlotIx) (i : TillIx) (e : CounterEntry) : (s.setCtr k i e).outstanding = s.outstanding := rfl
@[simp] theorem State.setCtr_holdNotes (k : SlotIx) (i : TillIx) (e : CounterEntry) : (s.setCtr k i e).holdNotes = s.holdNotes := rfl
@[simp] theorem State.setCtr_link (k : SlotIx) (i : TillIx) (e : CounterEntry) : (s.setCtr k i e).link = s.link := rfl
@[simp] theorem State.setCtr_standIn (k : SlotIx) (i : TillIx) (e : CounterEntry) : (s.setCtr k i e).standIn = s.standIn := rfl
@[simp] theorem State.setCtr_holding (k : SlotIx) (i : TillIx) (e : CounterEntry) : (s.setCtr k i e).holding = s.holding := rfl
@[simp] theorem State.setCtr_drain (k : SlotIx) (i : TillIx) (e : CounterEntry) : (s.setCtr k i e).drain = s.drain := rfl
@[simp] theorem State.setCtr_mgmt (k : SlotIx) (i : TillIx) (e : CounterEntry) : (s.setCtr k i e).mgmt = s.mgmt := rfl
@[simp] theorem State.setCtr_events (k : SlotIx) (i : TillIx) (e : CounterEntry) : (s.setCtr k i e).events = s.events := rfl
@[simp] theorem State.setCtr_factory (k : SlotIx) (i : TillIx) (e : CounterEntry) : (s.setCtr k i e).factory = s.factory := rfl
@[simp] theorem State.setCtr_pending (k : SlotIx) (i : TillIx) (e : CounterEntry) : (s.setCtr k i e).pending = s.pending := rfl

/-! ### setSlot -/

@[simp] theorem State.setSlot_now (k : SlotIx) (x : KeySlot) : (s.setSlot k x).now = s.now := rfl
@[simp] theorem State.setSlot_free (k : SlotIx) (x : KeySlot) : (s.setSlot k x).free = s.free := rfl
@[simp] theorem State.setSlot_opState (k : SlotIx) (x : KeySlot) : (s.setSlot k x).opState = s.opState := rfl
@[simp] theorem State.setSlot_startup (k : SlotIx) (x : KeySlot) : (s.setSlot k x).startup = s.startup := rfl
@[simp] theorem State.setSlot_cause (k : SlotIx) (x : KeySlot) : (s.setSlot k x).cause = s.cause := rfl
@[simp] theorem State.setSlot_tamperIn (k : SlotIx) (x : KeySlot) : (s.setSlot k x).tamperIn = s.tamperIn := rfl
@[simp] theorem State.setSlot_rxOpen (k : SlotIx) (x : KeySlot) : (s.setSlot k x).rxOpen = s.rxOpen := rfl
@[simp] theorem State.setSlot_lane (k : SlotIx) (x : KeySlot) : (s.setSlot k x).lane = s.lane := rfl
@[simp] theorem State.setSlot_uplink (k : SlotIx) (x : KeySlot) : (s.setSlot k x).uplink = s.uplink := rfl
@[simp] theorem State.setSlot_waitOrder (k : SlotIx) (x : KeySlot) : (s.setSlot k x).waitOrder = s.waitOrder := rfl
@[simp] theorem State.setSlot_ipId (k : SlotIx) (x : KeySlot) : (s.setSlot k x).ipId = s.ipId := rfl
@[simp] theorem State.setSlot_identity (k : SlotIx) (x : KeySlot) : (s.setSlot k x).identity = s.identity := rfl
@[simp] theorem State.setSlot_settings (k : SlotIx) (x : KeySlot) : (s.setSlot k x).settings = s.settings := rfl
@[simp] theorem State.setSlot_tills (k : SlotIx) (x : KeySlot) : (s.setSlot k x).tills = s.tills := rfl
@[simp] theorem State.setSlot_counters (k : SlotIx) (x : KeySlot) : (s.setSlot k x).counters = s.counters := rfl
@[simp] theorem State.setSlot_store (k : SlotIx) (x : KeySlot) : (s.setSlot k x).store = s.store := rfl
@[simp] theorem State.setSlot_writer1 (k : SlotIx) (x : KeySlot) : (s.setSlot k x).writer1 = s.writer1 := rfl
@[simp] theorem State.setSlot_writer2 (k : SlotIx) (x : KeySlot) : (s.setSlot k x).writer2 = s.writer2 := rfl
@[simp] theorem State.setSlot_arbiter (k : SlotIx) (x : KeySlot) : (s.setSlot k x).arbiter = s.arbiter := rfl
@[simp] theorem State.setSlot_ctxs (k : SlotIx) (x : KeySlot) : (s.setSlot k x).ctxs = s.ctxs := rfl
@[simp] theorem State.setSlot_placeWait (k : SlotIx) (x : KeySlot) : (s.setSlot k x).placeWait = s.placeWait := rfl
@[simp] theorem State.setSlot_outstanding (k : SlotIx) (x : KeySlot) : (s.setSlot k x).outstanding = s.outstanding := rfl
@[simp] theorem State.setSlot_holdNotes (k : SlotIx) (x : KeySlot) : (s.setSlot k x).holdNotes = s.holdNotes := rfl
@[simp] theorem State.setSlot_link (k : SlotIx) (x : KeySlot) : (s.setSlot k x).link = s.link := rfl
@[simp] theorem State.setSlot_standIn (k : SlotIx) (x : KeySlot) : (s.setSlot k x).standIn = s.standIn := rfl
@[simp] theorem State.setSlot_holding (k : SlotIx) (x : KeySlot) : (s.setSlot k x).holding = s.holding := rfl
@[simp] theorem State.setSlot_drain (k : SlotIx) (x : KeySlot) : (s.setSlot k x).drain = s.drain := rfl
@[simp] theorem State.setSlot_mgmt (k : SlotIx) (x : KeySlot) : (s.setSlot k x).mgmt = s.mgmt := rfl
@[simp] theorem State.setSlot_events (k : SlotIx) (x : KeySlot) : (s.setSlot k x).events = s.events := rfl
@[simp] theorem State.setSlot_factory (k : SlotIx) (x : KeySlot) : (s.setSlot k x).factory = s.factory := rfl
@[simp] theorem State.setSlot_pending (k : SlotIx) (x : KeySlot) : (s.setSlot k x).pending = s.pending := rfl

/-! ### setCtx -/

@[simp] theorem State.setCtx_now (i : CtxIx) (x : Ctx) : (s.setCtx i x).now = s.now := rfl
@[simp] theorem State.setCtx_free (i : CtxIx) (x : Ctx) : (s.setCtx i x).free = s.free := rfl
@[simp] theorem State.setCtx_opState (i : CtxIx) (x : Ctx) : (s.setCtx i x).opState = s.opState := rfl
@[simp] theorem State.setCtx_startup (i : CtxIx) (x : Ctx) : (s.setCtx i x).startup = s.startup := rfl
@[simp] theorem State.setCtx_cause (i : CtxIx) (x : Ctx) : (s.setCtx i x).cause = s.cause := rfl
@[simp] theorem State.setCtx_tamperIn (i : CtxIx) (x : Ctx) : (s.setCtx i x).tamperIn = s.tamperIn := rfl
@[simp] theorem State.setCtx_rxOpen (i : CtxIx) (x : Ctx) : (s.setCtx i x).rxOpen = s.rxOpen := rfl
@[simp] theorem State.setCtx_lane (i : CtxIx) (x : Ctx) : (s.setCtx i x).lane = s.lane := rfl
@[simp] theorem State.setCtx_uplink (i : CtxIx) (x : Ctx) : (s.setCtx i x).uplink = s.uplink := rfl
@[simp] theorem State.setCtx_waitOrder (i : CtxIx) (x : Ctx) : (s.setCtx i x).waitOrder = s.waitOrder := rfl
@[simp] theorem State.setCtx_ipId (i : CtxIx) (x : Ctx) : (s.setCtx i x).ipId = s.ipId := rfl
@[simp] theorem State.setCtx_identity (i : CtxIx) (x : Ctx) : (s.setCtx i x).identity = s.identity := rfl
@[simp] theorem State.setCtx_settings (i : CtxIx) (x : Ctx) : (s.setCtx i x).settings = s.settings := rfl
@[simp] theorem State.setCtx_tills (i : CtxIx) (x : Ctx) : (s.setCtx i x).tills = s.tills := rfl
@[simp] theorem State.setCtx_counters (i : CtxIx) (x : Ctx) : (s.setCtx i x).counters = s.counters := rfl
@[simp] theorem State.setCtx_keys (i : CtxIx) (x : Ctx) : (s.setCtx i x).keys = s.keys := rfl
@[simp] theorem State.setCtx_store (i : CtxIx) (x : Ctx) : (s.setCtx i x).store = s.store := rfl
@[simp] theorem State.setCtx_writer1 (i : CtxIx) (x : Ctx) : (s.setCtx i x).writer1 = s.writer1 := rfl
@[simp] theorem State.setCtx_writer2 (i : CtxIx) (x : Ctx) : (s.setCtx i x).writer2 = s.writer2 := rfl
@[simp] theorem State.setCtx_arbiter (i : CtxIx) (x : Ctx) : (s.setCtx i x).arbiter = s.arbiter := rfl
@[simp] theorem State.setCtx_placeWait (i : CtxIx) (x : Ctx) : (s.setCtx i x).placeWait = s.placeWait := rfl
@[simp] theorem State.setCtx_outstanding (i : CtxIx) (x : Ctx) : (s.setCtx i x).outstanding = s.outstanding := rfl
@[simp] theorem State.setCtx_holdNotes (i : CtxIx) (x : Ctx) : (s.setCtx i x).holdNotes = s.holdNotes := rfl
@[simp] theorem State.setCtx_link (i : CtxIx) (x : Ctx) : (s.setCtx i x).link = s.link := rfl
@[simp] theorem State.setCtx_standIn (i : CtxIx) (x : Ctx) : (s.setCtx i x).standIn = s.standIn := rfl
@[simp] theorem State.setCtx_holding (i : CtxIx) (x : Ctx) : (s.setCtx i x).holding = s.holding := rfl
@[simp] theorem State.setCtx_drain (i : CtxIx) (x : Ctx) : (s.setCtx i x).drain = s.drain := rfl
@[simp] theorem State.setCtx_mgmt (i : CtxIx) (x : Ctx) : (s.setCtx i x).mgmt = s.mgmt := rfl
@[simp] theorem State.setCtx_events (i : CtxIx) (x : Ctx) : (s.setCtx i x).events = s.events := rfl
@[simp] theorem State.setCtx_factory (i : CtxIx) (x : Ctx) : (s.setCtx i x).factory = s.factory := rfl
@[simp] theorem State.setCtx_pending (i : CtxIx) (x : Ctx) : (s.setCtx i x).pending = s.pending := rfl

/-! ### raise -/

@[simp] theorem State.raise_now (e : EventCode) (a : Option TillIx) (b : Option SlotIx) (c : Option Location) : (s.raise e a b c).now = s.now := rfl
@[simp] theorem State.raise_free (e : EventCode) (a : Option TillIx) (b : Option SlotIx) (c : Option Location) : (s.raise e a b c).free = s.free := rfl
@[simp] theorem State.raise_opState (e : EventCode) (a : Option TillIx) (b : Option SlotIx) (c : Option Location) : (s.raise e a b c).opState = s.opState := rfl
@[simp] theorem State.raise_startup (e : EventCode) (a : Option TillIx) (b : Option SlotIx) (c : Option Location) : (s.raise e a b c).startup = s.startup := rfl
@[simp] theorem State.raise_cause (e : EventCode) (a : Option TillIx) (b : Option SlotIx) (c : Option Location) : (s.raise e a b c).cause = s.cause := rfl
@[simp] theorem State.raise_tamperIn (e : EventCode) (a : Option TillIx) (b : Option SlotIx) (c : Option Location) : (s.raise e a b c).tamperIn = s.tamperIn := rfl
@[simp] theorem State.raise_rxOpen (e : EventCode) (a : Option TillIx) (b : Option SlotIx) (c : Option Location) : (s.raise e a b c).rxOpen = s.rxOpen := rfl
@[simp] theorem State.raise_lane (e : EventCode) (a : Option TillIx) (b : Option SlotIx) (c : Option Location) : (s.raise e a b c).lane = s.lane := rfl
@[simp] theorem State.raise_uplink (e : EventCode) (a : Option TillIx) (b : Option SlotIx) (c : Option Location) : (s.raise e a b c).uplink = s.uplink := rfl
@[simp] theorem State.raise_waitOrder (e : EventCode) (a : Option TillIx) (b : Option SlotIx) (c : Option Location) : (s.raise e a b c).waitOrder = s.waitOrder := rfl
@[simp] theorem State.raise_ipId (e : EventCode) (a : Option TillIx) (b : Option SlotIx) (c : Option Location) : (s.raise e a b c).ipId = s.ipId := rfl
@[simp] theorem State.raise_identity (e : EventCode) (a : Option TillIx) (b : Option SlotIx) (c : Option Location) : (s.raise e a b c).identity = s.identity := rfl
@[simp] theorem State.raise_settings (e : EventCode) (a : Option TillIx) (b : Option SlotIx) (c : Option Location) : (s.raise e a b c).settings = s.settings := rfl
@[simp] theorem State.raise_tills (e : EventCode) (a : Option TillIx) (b : Option SlotIx) (c : Option Location) : (s.raise e a b c).tills = s.tills := rfl
@[simp] theorem State.raise_counters (e : EventCode) (a : Option TillIx) (b : Option SlotIx) (c : Option Location) : (s.raise e a b c).counters = s.counters := rfl
@[simp] theorem State.raise_keys (e : EventCode) (a : Option TillIx) (b : Option SlotIx) (c : Option Location) : (s.raise e a b c).keys = s.keys := rfl
@[simp] theorem State.raise_store (e : EventCode) (a : Option TillIx) (b : Option SlotIx) (c : Option Location) : (s.raise e a b c).store = s.store := rfl
@[simp] theorem State.raise_writer1 (e : EventCode) (a : Option TillIx) (b : Option SlotIx) (c : Option Location) : (s.raise e a b c).writer1 = s.writer1 := rfl
@[simp] theorem State.raise_writer2 (e : EventCode) (a : Option TillIx) (b : Option SlotIx) (c : Option Location) : (s.raise e a b c).writer2 = s.writer2 := rfl
@[simp] theorem State.raise_arbiter (e : EventCode) (a : Option TillIx) (b : Option SlotIx) (c : Option Location) : (s.raise e a b c).arbiter = s.arbiter := rfl
@[simp] theorem State.raise_ctxs (e : EventCode) (a : Option TillIx) (b : Option SlotIx) (c : Option Location) : (s.raise e a b c).ctxs = s.ctxs := rfl
@[simp] theorem State.raise_placeWait (e : EventCode) (a : Option TillIx) (b : Option SlotIx) (c : Option Location) : (s.raise e a b c).placeWait = s.placeWait := rfl
@[simp] theorem State.raise_outstanding (e : EventCode) (a : Option TillIx) (b : Option SlotIx) (c : Option Location) : (s.raise e a b c).outstanding = s.outstanding := rfl
@[simp] theorem State.raise_holdNotes (e : EventCode) (a : Option TillIx) (b : Option SlotIx) (c : Option Location) : (s.raise e a b c).holdNotes = s.holdNotes := rfl
@[simp] theorem State.raise_link (e : EventCode) (a : Option TillIx) (b : Option SlotIx) (c : Option Location) : (s.raise e a b c).link = s.link := rfl
@[simp] theorem State.raise_standIn (e : EventCode) (a : Option TillIx) (b : Option SlotIx) (c : Option Location) : (s.raise e a b c).standIn = s.standIn := rfl
@[simp] theorem State.raise_holding (e : EventCode) (a : Option TillIx) (b : Option SlotIx) (c : Option Location) : (s.raise e a b c).holding = s.holding := rfl
@[simp] theorem State.raise_drain (e : EventCode) (a : Option TillIx) (b : Option SlotIx) (c : Option Location) : (s.raise e a b c).drain = s.drain := rfl
@[simp] theorem State.raise_mgmt (e : EventCode) (a : Option TillIx) (b : Option SlotIx) (c : Option Location) : (s.raise e a b c).mgmt = s.mgmt := rfl
@[simp] theorem State.raise_factory (e : EventCode) (a : Option TillIx) (b : Option SlotIx) (c : Option Location) : (s.raise e a b c).factory = s.factory := rfl
@[simp] theorem State.raise_pending (e : EventCode) (a : Option TillIx) (b : Option SlotIx) (c : Option Location) : (s.raise e a b c).pending = s.pending := rfl

/-! ### mapJobs -/

@[simp] theorem State.mapJobs_now (f : Job → Job) : (s.mapJobs f).now = s.now := rfl
@[simp] theorem State.mapJobs_free (f : Job → Job) : (s.mapJobs f).free = s.free := rfl
@[simp] theorem State.mapJobs_opState (f : Job → Job) : (s.mapJobs f).opState = s.opState := rfl
@[simp] theorem State.mapJobs_startup (f : Job → Job) : (s.mapJobs f).startup = s.startup := rfl
@[simp] theorem State.mapJobs_cause (f : Job → Job) : (s.mapJobs f).cause = s.cause := rfl
@[simp] theorem State.mapJobs_tamperIn (f : Job → Job) : (s.mapJobs f).tamperIn = s.tamperIn := rfl
@[simp] theorem State.mapJobs_rxOpen (f : Job → Job) : (s.mapJobs f).rxOpen = s.rxOpen := rfl
@[simp] theorem State.mapJobs_lane (f : Job → Job) : (s.mapJobs f).lane = s.lane := rfl
@[simp] theorem State.mapJobs_uplink (f : Job → Job) : (s.mapJobs f).uplink = s.uplink := rfl
@[simp] theorem State.mapJobs_waitOrder (f : Job → Job) : (s.mapJobs f).waitOrder = s.waitOrder := rfl
@[simp] theorem State.mapJobs_ipId (f : Job → Job) : (s.mapJobs f).ipId = s.ipId := rfl
@[simp] theorem State.mapJobs_identity (f : Job → Job) : (s.mapJobs f).identity = s.identity := rfl
@[simp] theorem State.mapJobs_settings (f : Job → Job) : (s.mapJobs f).settings = s.settings := rfl
@[simp] theorem State.mapJobs_tills (f : Job → Job) : (s.mapJobs f).tills = s.tills := rfl
@[simp] theorem State.mapJobs_counters (f : Job → Job) : (s.mapJobs f).counters = s.counters := rfl
@[simp] theorem State.mapJobs_keys (f : Job → Job) : (s.mapJobs f).keys = s.keys := rfl
@[simp] theorem State.mapJobs_store (f : Job → Job) : (s.mapJobs f).store = s.store := rfl
@[simp] theorem State.mapJobs_writer1 (f : Job → Job) : (s.mapJobs f).writer1 = s.writer1 := rfl
@[simp] theorem State.mapJobs_writer2 (f : Job → Job) : (s.mapJobs f).writer2 = s.writer2 := rfl
@[simp] theorem State.mapJobs_arbiter (f : Job → Job) : (s.mapJobs f).arbiter = s.arbiter := rfl
@[simp] theorem State.mapJobs_ctxs (f : Job → Job) : (s.mapJobs f).ctxs = s.ctxs := rfl
@[simp] theorem State.mapJobs_placeWait (f : Job → Job) : (s.mapJobs f).placeWait = s.placeWait := rfl
@[simp] theorem State.mapJobs_outstanding (f : Job → Job) : (s.mapJobs f).outstanding = s.outstanding := rfl
@[simp] theorem State.mapJobs_holdNotes (f : Job → Job) : (s.mapJobs f).holdNotes = s.holdNotes := rfl
@[simp] theorem State.mapJobs_link (f : Job → Job) : (s.mapJobs f).link = s.link := rfl
@[simp] theorem State.mapJobs_standIn (f : Job → Job) : (s.mapJobs f).standIn = s.standIn := rfl
@[simp] theorem State.mapJobs_holding (f : Job → Job) : (s.mapJobs f).holding = s.holding := rfl
@[simp] theorem State.mapJobs_drain (f : Job → Job) : (s.mapJobs f).drain = s.drain := rfl
@[simp] theorem State.mapJobs_events (f : Job → Job) : (s.mapJobs f).events = s.events := rfl
@[simp] theorem State.mapJobs_factory (f : Job → Job) : (s.mapJobs f).factory = s.factory := rfl
@[simp] theorem State.mapJobs_pending (f : Job → Job) : (s.mapJobs f).pending = s.pending := rfl

/-! ### nextIpId -/

@[simp] theorem State.nextIpId_now  : (s.nextIpId).now = s.now := rfl
@[simp] theorem State.nextIpId_free  : (s.nextIpId).free = s.free := rfl
@[simp] theorem State.nextIpId_opState  : (s.nextIpId).opState = s.opState := rfl
@[simp] theorem State.nextIpId_startup  : (s.nextIpId).startup = s.startup := rfl
@[simp] theorem State.nextIpId_cause  : (s.nextIpId).cause = s.cause := rfl
@[simp] theorem State.nextIpId_tamperIn  : (s.nextIpId).tamperIn = s.tamperIn := rfl
@[simp] theorem State.nextIpId_rxOpen  : (s.nextIpId).rxOpen = s.rxOpen := rfl
@[simp] theorem State.nextIpId_lane  : (s.nextIpId).lane = s.lane := rfl
@[simp] theorem State.nextIpId_uplink  : (s.nextIpId).uplink = s.uplink := rfl
@[simp] theorem State.nextIpId_waitOrder  : (s.nextIpId).waitOrder = s.waitOrder := rfl
@[simp] theorem State.nextIpId_identity  : (s.nextIpId).identity = s.identity := rfl
@[simp] theorem State.nextIpId_settings  : (s.nextIpId).settings = s.settings := rfl
@[simp] theorem State.nextIpId_tills  : (s.nextIpId).tills = s.tills := rfl
@[simp] theorem State.nextIpId_counters  : (s.nextIpId).counters = s.counters := rfl
@[simp] theorem State.nextIpId_keys  : (s.nextIpId).keys = s.keys := rfl
@[simp] theorem State.nextIpId_store  : (s.nextIpId).store = s.store := rfl
@[simp] theorem State.nextIpId_writer1  : (s.nextIpId).writer1 = s.writer1 := rfl
@[simp] theorem State.nextIpId_writer2  : (s.nextIpId).writer2 = s.writer2 := rfl
@[simp] theorem State.nextIpId_arbiter  : (s.nextIpId).arbiter = s.arbiter := rfl
@[simp] theorem State.nextIpId_ctxs  : (s.nextIpId).ctxs = s.ctxs := rfl
@[simp] theorem State.nextIpId_placeWait  : (s.nextIpId).placeWait = s.placeWait := rfl
@[simp] theorem State.nextIpId_outstanding  : (s.nextIpId).outstanding = s.outstanding := rfl
@[simp] theorem State.nextIpId_holdNotes  : (s.nextIpId).holdNotes = s.holdNotes := rfl
@[simp] theorem State.nextIpId_link  : (s.nextIpId).link = s.link := rfl
@[simp] theorem State.nextIpId_standIn  : (s.nextIpId).standIn = s.standIn := rfl
@[simp] theorem State.nextIpId_holding  : (s.nextIpId).holding = s.holding := rfl
@[simp] theorem State.nextIpId_drain  : (s.nextIpId).drain = s.drain := rfl
@[simp] theorem State.nextIpId_mgmt  : (s.nextIpId).mgmt = s.mgmt := rfl
@[simp] theorem State.nextIpId_events  : (s.nextIpId).events = s.events := rfl
@[simp] theorem State.nextIpId_factory  : (s.nextIpId).factory = s.factory := rfl
@[simp] theorem State.nextIpId_pending  : (s.nextIpId).pending = s.pending := rfl

/-! ### addJob -/

@[simp] theorem State.addJob_now (j : Job) : (s.addJob j).now = s.now := rfl
@[simp] theorem State.addJob_free (j : Job) : (s.addJob j).free = s.free := rfl
@[simp] theorem State.addJob_opState (j : Job) : (s.addJob j).opState = s.opState := rfl
@[simp] theorem State.addJob_startup (j : Job) : (s.addJob j).startup = s.startup := rfl
@[simp] theorem State.addJob_cause (j : Job) : (s.addJob j).cause = s.cause := rfl
@[simp] theorem State.addJob_tamperIn (j : Job) : (s.addJob j).tamperIn = s.tamperIn := rfl
@[simp] theorem State.addJob_rxOpen (j : Job) : (s.addJob j).rxOpen = s.rxOpen := rfl
@[simp] theorem State.addJob_lane (j : Job) : (s.addJob j).lane = s.lane := rfl
@[simp] theorem State.addJob_uplink (j : Job) : (s.addJob j).uplink = s.uplink := rfl
@[simp] theorem State.addJob_waitOrder (j : Job) : (s.addJob j).waitOrder = s.waitOrder := rfl
@[simp] theorem State.addJob_ipId (j : Job) : (s.addJob j).ipId = s.ipId := rfl
@[simp] theorem State.addJob_identity (j : Job) : (s.addJob j).identity = s.identity := rfl
@[simp] theorem State.addJob_settings (j : Job) : (s.addJob j).settings = s.settings := rfl
@[simp] theorem State.addJob_tills (j : Job) : (s.addJob j).tills = s.tills := rfl
@[simp] theorem State.addJob_counters (j : Job) : (s.addJob j).counters = s.counters := rfl
@[simp] theorem State.addJob_keys (j : Job) : (s.addJob j).keys = s.keys := rfl
@[simp] theorem State.addJob_store (j : Job) : (s.addJob j).store = s.store := rfl
@[simp] theorem State.addJob_writer1 (j : Job) : (s.addJob j).writer1 = s.writer1 := rfl
@[simp] theorem State.addJob_writer2 (j : Job) : (s.addJob j).writer2 = s.writer2 := rfl
@[simp] theorem State.addJob_arbiter (j : Job) : (s.addJob j).arbiter = s.arbiter := rfl
@[simp] theorem State.addJob_ctxs (j : Job) : (s.addJob j).ctxs = s.ctxs := rfl
@[simp] theorem State.addJob_placeWait (j : Job) : (s.addJob j).placeWait = s.placeWait := rfl
@[simp] theorem State.addJob_outstanding (j : Job) : (s.addJob j).outstanding = s.outstanding := rfl
@[simp] theorem State.addJob_holdNotes (j : Job) : (s.addJob j).holdNotes = s.holdNotes := rfl
@[simp] theorem State.addJob_link (j : Job) : (s.addJob j).link = s.link := rfl
@[simp] theorem State.addJob_standIn (j : Job) : (s.addJob j).standIn = s.standIn := rfl
@[simp] theorem State.addJob_holding (j : Job) : (s.addJob j).holding = s.holding := rfl
@[simp] theorem State.addJob_drain (j : Job) : (s.addJob j).drain = s.drain := rfl
@[simp] theorem State.addJob_events (j : Job) : (s.addJob j).events = s.events := rfl
@[simp] theorem State.addJob_factory (j : Job) : (s.addJob j).factory = s.factory := rfl
@[simp] theorem State.addJob_pending (j : Job) : (s.addJob j).pending = s.pending := rfl

/-! ### respond -/

@[simp] theorem State.respond_now (r : Response) : (s.respond r).now = s.now := rfl
@[simp] theorem State.respond_free (r : Response) : (s.respond r).free = s.free := rfl
@[simp] theorem State.respond_opState (r : Response) : (s.respond r).opState = s.opState := rfl
@[simp] theorem State.respond_startup (r : Response) : (s.respond r).startup = s.startup := rfl
@[simp] theorem State.respond_cause (r : Response) : (s.respond r).cause = s.cause := rfl
@[simp] theorem State.respond_tamperIn (r : Response) : (s.respond r).tamperIn = s.tamperIn := rfl
@[simp] theorem State.respond_rxOpen (r : Response) : (s.respond r).rxOpen = s.rxOpen := rfl
@[simp] theorem State.respond_lane (r : Response) : (s.respond r).lane = s.lane := rfl
@[simp] theorem State.respond_uplink (r : Response) : (s.respond r).uplink = s.uplink := rfl
@[simp] theorem State.respond_waitOrder (r : Response) : (s.respond r).waitOrder = s.waitOrder := rfl
@[simp] theorem State.respond_ipId (r : Response) : (s.respond r).ipId = s.ipId := rfl
@[simp] theorem State.respond_identity (r : Response) : (s.respond r).identity = s.identity := rfl
@[simp] theorem State.respond_settings (r : Response) : (s.respond r).settings = s.settings := rfl
@[simp] theorem State.respond_tills (r : Response) : (s.respond r).tills = s.tills := rfl
@[simp] theorem State.respond_counters (r : Response) : (s.respond r).counters = s.counters := rfl
@[simp] theorem State.respond_keys (r : Response) : (s.respond r).keys = s.keys := rfl
@[simp] theorem State.respond_store (r : Response) : (s.respond r).store = s.store := rfl
@[simp] theorem State.respond_writer1 (r : Response) : (s.respond r).writer1 = s.writer1 := rfl
@[simp] theorem State.respond_writer2 (r : Response) : (s.respond r).writer2 = s.writer2 := rfl
@[simp] theorem State.respond_arbiter (r : Response) : (s.respond r).arbiter = s.arbiter := rfl
@[simp] theorem State.respond_ctxs (r : Response) : (s.respond r).ctxs = s.ctxs := rfl
@[simp] theorem State.respond_placeWait (r : Response) : (s.respond r).placeWait = s.placeWait := rfl
@[simp] theorem State.respond_outstanding (r : Response) : (s.respond r).outstanding = s.outstanding := rfl
@[simp] theorem State.respond_holdNotes (r : Response) : (s.respond r).holdNotes = s.holdNotes := rfl
@[simp] theorem State.respond_link (r : Response) : (s.respond r).link = s.link := rfl
@[simp] theorem State.respond_standIn (r : Response) : (s.respond r).standIn = s.standIn := rfl
@[simp] theorem State.respond_holding (r : Response) : (s.respond r).holding = s.holding := rfl
@[simp] theorem State.respond_drain (r : Response) : (s.respond r).drain = s.drain := rfl
@[simp] theorem State.respond_events (r : Response) : (s.respond r).events = s.events := rfl
@[simp] theorem State.respond_factory (r : Response) : (s.respond r).factory = s.factory := rfl
@[simp] theorem State.respond_pending (r : Response) : (s.respond r).pending = s.pending := rfl

/-! ### setLink -/

@[simp] theorem State.setLink_now (x : LinkState) (n : Nat) : (s.setLink x n).now = s.now := rfl
@[simp] theorem State.setLink_free (x : LinkState) (n : Nat) : (s.setLink x n).free = s.free := rfl
@[simp] theorem State.setLink_opState (x : LinkState) (n : Nat) : (s.setLink x n).opState = s.opState := rfl
@[simp] theorem State.setLink_startup (x : LinkState) (n : Nat) : (s.setLink x n).startup = s.startup := rfl
@[simp] theorem State.setLink_cause (x : LinkState) (n : Nat) : (s.setLink x n).cause = s.cause := rfl
@[simp] theorem State.setLink_tamperIn (x : LinkState) (n : Nat) : (s.setLink x n).tamperIn = s.tamperIn := rfl
@[simp] theorem State.setLink_rxOpen (x : LinkState) (n : Nat) : (s.setLink x n).rxOpen = s.rxOpen := rfl
@[simp] theorem State.setLink_lane (x : LinkState) (n : Nat) : (s.setLink x n).lane = s.lane := rfl
@[simp] theorem State.setLink_uplink (x : LinkState) (n : Nat) : (s.setLink x n).uplink = s.uplink := rfl
@[simp] theorem State.setLink_waitOrder (x : LinkState) (n : Nat) : (s.setLink x n).waitOrder = s.waitOrder := rfl
@[simp] theorem State.setLink_ipId (x : LinkState) (n : Nat) : (s.setLink x n).ipId = s.ipId := rfl
@[simp] theorem State.setLink_identity (x : LinkState) (n : Nat) : (s.setLink x n).identity = s.identity := rfl
@[simp] theorem State.setLink_settings (x : LinkState) (n : Nat) : (s.setLink x n).settings = s.settings := rfl
@[simp] theorem State.setLink_tills (x : LinkState) (n : Nat) : (s.setLink x n).tills = s.tills := rfl
@[simp] theorem State.setLink_counters (x : LinkState) (n : Nat) : (s.setLink x n).counters = s.counters := rfl
@[simp] theorem State.setLink_keys (x : LinkState) (n : Nat) : (s.setLink x n).keys = s.keys := rfl
@[simp] theorem State.setLink_store (x : LinkState) (n : Nat) : (s.setLink x n).store = s.store := rfl
@[simp] theorem State.setLink_writer1 (x : LinkState) (n : Nat) : (s.setLink x n).writer1 = s.writer1 := rfl
@[simp] theorem State.setLink_writer2 (x : LinkState) (n : Nat) : (s.setLink x n).writer2 = s.writer2 := rfl
@[simp] theorem State.setLink_arbiter (x : LinkState) (n : Nat) : (s.setLink x n).arbiter = s.arbiter := rfl
@[simp] theorem State.setLink_ctxs (x : LinkState) (n : Nat) : (s.setLink x n).ctxs = s.ctxs := rfl
@[simp] theorem State.setLink_placeWait (x : LinkState) (n : Nat) : (s.setLink x n).placeWait = s.placeWait := rfl
@[simp] theorem State.setLink_outstanding (x : LinkState) (n : Nat) : (s.setLink x n).outstanding = s.outstanding := rfl
@[simp] theorem State.setLink_holdNotes (x : LinkState) (n : Nat) : (s.setLink x n).holdNotes = s.holdNotes := rfl
@[simp] theorem State.setLink_standIn (x : LinkState) (n : Nat) : (s.setLink x n).standIn = s.standIn := rfl
@[simp] theorem State.setLink_holding (x : LinkState) (n : Nat) : (s.setLink x n).holding = s.holding := rfl
@[simp] theorem State.setLink_drain (x : LinkState) (n : Nat) : (s.setLink x n).drain = s.drain := rfl
@[simp] theorem State.setLink_mgmt (x : LinkState) (n : Nat) : (s.setLink x n).mgmt = s.mgmt := rfl
@[simp] theorem State.setLink_events (x : LinkState) (n : Nat) : (s.setLink x n).events = s.events := rfl
@[simp] theorem State.setLink_factory (x : LinkState) (n : Nat) : (s.setLink x n).factory = s.factory := rfl
@[simp] theorem State.setLink_pending (x : LinkState) (n : Nat) : (s.setLink x n).pending = s.pending := rfl

/-! ### untaken -/

@[simp] theorem State.untaken_now  : (s.untaken).now = s.now := rfl
@[simp] theorem State.untaken_free  : (s.untaken).free = s.free := rfl
@[simp] theorem State.untaken_opState  : (s.untaken).opState = s.opState := rfl
@[simp] theorem State.untaken_startup  : (s.untaken).startup = s.startup := rfl
@[simp] theorem State.untaken_cause  : (s.untaken).cause = s.cause := rfl
@[simp] theorem State.untaken_tamperIn  : (s.untaken).tamperIn = s.tamperIn := rfl
@[simp] theorem State.untaken_rxOpen  : (s.untaken).rxOpen = s.rxOpen := rfl
@[simp] theorem State.untaken_lane  : (s.untaken).lane = s.lane := rfl
@[simp] theorem State.untaken_uplink  : (s.untaken).uplink = s.uplink := rfl
@[simp] theorem State.untaken_waitOrder  : (s.untaken).waitOrder = s.waitOrder := rfl
@[simp] theorem State.untaken_ipId  : (s.untaken).ipId = s.ipId := rfl
@[simp] theorem State.untaken_identity  : (s.untaken).identity = s.identity := rfl
@[simp] theorem State.untaken_settings  : (s.untaken).settings = s.settings := rfl
@[simp] theorem State.untaken_tills  : (s.untaken).tills = s.tills := rfl
@[simp] theorem State.untaken_counters  : (s.untaken).counters = s.counters := rfl
@[simp] theorem State.untaken_keys  : (s.untaken).keys = s.keys := rfl
@[simp] theorem State.untaken_store  : (s.untaken).store = s.store := rfl
@[simp] theorem State.untaken_writer1  : (s.untaken).writer1 = s.writer1 := rfl
@[simp] theorem State.untaken_writer2  : (s.untaken).writer2 = s.writer2 := rfl
@[simp] theorem State.untaken_arbiter  : (s.untaken).arbiter = s.arbiter := rfl
@[simp] theorem State.untaken_ctxs  : (s.untaken).ctxs = s.ctxs := rfl
@[simp] theorem State.untaken_placeWait  : (s.untaken).placeWait = s.placeWait := rfl
@[simp] theorem State.untaken_outstanding  : (s.untaken).outstanding = s.outstanding := rfl
@[simp] theorem State.untaken_holdNotes  : (s.untaken).holdNotes = s.holdNotes := rfl
@[simp] theorem State.untaken_link  : (s.untaken).link = s.link := rfl
@[simp] theorem State.untaken_standIn  : (s.untaken).standIn = s.standIn := rfl
@[simp] theorem State.untaken_holding  : (s.untaken).holding = s.holding := rfl
@[simp] theorem State.untaken_drain  : (s.untaken).drain = s.drain := rfl
@[simp] theorem State.untaken_events  : (s.untaken).events = s.events := rfl
@[simp] theorem State.untaken_factory  : (s.untaken).factory = s.factory := rfl
@[simp] theorem State.untaken_pending  : (s.untaken).pending = s.pending := rfl

/-! ### setPort -/

@[simp] theorem State.setPort_now (p : Port) (x : PortState) : (s.setPort p x).now = s.now := by cases p <;> rfl
@[simp] theorem State.setPort_free (p : Port) (x : PortState) : (s.setPort p x).free = s.free := by cases p <;> rfl
@[simp] theorem State.setPort_opState (p : Port) (x : PortState) : (s.setPort p x).opState = s.opState := by cases p <;> rfl
@[simp] theorem State.setPort_startup (p : Port) (x : PortState) : (s.setPort p x).startup = s.startup := by cases p <;> rfl
@[simp] theorem State.setPort_cause (p : Port) (x : PortState) : (s.setPort p x).cause = s.cause := by cases p <;> rfl
@[simp] theorem State.setPort_tamperIn (p : Port) (x : PortState) : (s.setPort p x).tamperIn = s.tamperIn := by cases p <;> rfl
@[simp] theorem State.setPort_rxOpen (p : Port) (x : PortState) : (s.setPort p x).rxOpen = s.rxOpen := by cases p <;> rfl
@[simp] theorem State.setPort_waitOrder (p : Port) (x : PortState) : (s.setPort p x).waitOrder = s.waitOrder := by cases p <;> rfl
@[simp] theorem State.setPort_ipId (p : Port) (x : PortState) : (s.setPort p x).ipId = s.ipId := by cases p <;> rfl
@[simp] theorem State.setPort_identity (p : Port) (x : PortState) : (s.setPort p x).identity = s.identity := by cases p <;> rfl
@[simp] theorem State.setPort_settings (p : Port) (x : PortState) : (s.setPort p x).settings = s.settings := by cases p <;> rfl
@[simp] theorem State.setPort_tills (p : Port) (x : PortState) : (s.setPort p x).tills = s.tills := by cases p <;> rfl
@[simp] theorem State.setPort_counters (p : Port) (x : PortState) : (s.setPort p x).counters = s.counters := by cases p <;> rfl
@[simp] theorem State.setPort_keys (p : Port) (x : PortState) : (s.setPort p x).keys = s.keys := by cases p <;> rfl
@[simp] theorem State.setPort_store (p : Port) (x : PortState) : (s.setPort p x).store = s.store := by cases p <;> rfl
@[simp] theorem State.setPort_writer1 (p : Port) (x : PortState) : (s.setPort p x).writer1 = s.writer1 := by cases p <;> rfl
@[simp] theorem State.setPort_writer2 (p : Port) (x : PortState) : (s.setPort p x).writer2 = s.writer2 := by cases p <;> rfl
@[simp] theorem State.setPort_arbiter (p : Port) (x : PortState) : (s.setPort p x).arbiter = s.arbiter := by cases p <;> rfl
@[simp] theorem State.setPort_ctxs (p : Port) (x : PortState) : (s.setPort p x).ctxs = s.ctxs := by cases p <;> rfl
@[simp] theorem State.setPort_placeWait (p : Port) (x : PortState) : (s.setPort p x).placeWait = s.placeWait := by cases p <;> rfl
@[simp] theorem State.setPort_outstanding (p : Port) (x : PortState) : (s.setPort p x).outstanding = s.outstanding := by cases p <;> rfl
@[simp] theorem State.setPort_holdNotes (p : Port) (x : PortState) : (s.setPort p x).holdNotes = s.holdNotes := by cases p <;> rfl
@[simp] theorem State.setPort_link (p : Port) (x : PortState) : (s.setPort p x).link = s.link := by cases p <;> rfl
@[simp] theorem State.setPort_standIn (p : Port) (x : PortState) : (s.setPort p x).standIn = s.standIn := by cases p <;> rfl
@[simp] theorem State.setPort_holding (p : Port) (x : PortState) : (s.setPort p x).holding = s.holding := by cases p <;> rfl
@[simp] theorem State.setPort_drain (p : Port) (x : PortState) : (s.setPort p x).drain = s.drain := by cases p <;> rfl
@[simp] theorem State.setPort_mgmt (p : Port) (x : PortState) : (s.setPort p x).mgmt = s.mgmt := by cases p <;> rfl
@[simp] theorem State.setPort_events (p : Port) (x : PortState) : (s.setPort p x).events = s.events := by cases p <;> rfl
@[simp] theorem State.setPort_factory (p : Port) (x : PortState) : (s.setPort p x).factory = s.factory := by cases p <;> rfl
@[simp] theorem State.setPort_pending (p : Port) (x : PortState) : (s.setPort p x).pending = s.pending := by cases p <;> rfl

@[simp] theorem State.setPort_lane_lane (x : PortState) : (s.setPort .lane x).lane = x := rfl
@[simp] theorem State.setPort_lane_uplink (x : PortState) : (s.setPort .lane x).uplink = s.uplink := rfl
@[simp] theorem State.setPort_uplink_uplink (x : PortState) : (s.setPort .uplink x).uplink = x := rfl
@[simp] theorem State.setPort_uplink_lane (x : PortState) : (s.setPort .uplink x).lane = s.lane := rfl
@[simp] theorem State.port_setPort_self (p : Port) (x : PortState) : (s.setPort p x).port p = x := by cases p <;> rfl

/-! ### What a table reads after one entry is replaced -/

@[simp] theorem State.till_setTill_self (i : TillIx) (t : Till) : (s.setTill i t).till i = t := by simp [State.till, State.setTill]

theorem State.till_setTill_ne {i j : TillIx} (t : Till) (h : j ≠ i) : (s.setTill i t).till j = s.till j := by
  have : i.val ≠ j.val := fun e => h (Fin.ext e.symm)
  simp [State.till, State.setTill, this]

theorem State.till_setTill (i j : TillIx) (t : Till) : (s.setTill i t).till j = if j = i then t else s.till j := by
  split
  · subst j; simp
  · rename_i h; exact s.till_setTill_ne t h

@[simp] theorem State.ctx_setCtx_self (i : CtxIx) (x : Ctx) : (s.setCtx i x).ctx i = x := by simp [State.ctx, State.setCtx]

theorem State.ctx_setCtx_ne {i j : CtxIx} (x : Ctx) (h : j ≠ i) : (s.setCtx i x).ctx j = s.ctx j := by
  have : i.val ≠ j.val := fun e => h (Fin.ext e.symm)
  simp [State.ctx, State.setCtx, this]

theorem State.ctx_setCtx (i j : CtxIx) (x : Ctx) : (s.setCtx i x).ctx j = if j = i then x else s.ctx j := by
  split
  · subst j; simp
  · rename_i h; exact s.ctx_setCtx_ne x h

@[simp] theorem State.slot_setSlot_self (k : SlotIx) (x : KeySlot) : (s.setSlot k x).slot k = x := by simp [State.slot, State.setSlot]

theorem State.slot_setSlot_ne {k l : SlotIx} (x : KeySlot) (h : l ≠ k) : (s.setSlot k x).slot l = s.slot l := by
  have : k.val ≠ l.val := fun e => h (Fin.ext e.symm)
  simp [State.slot, State.setSlot, this]

theorem State.slot_setSlot (k l : SlotIx) (x : KeySlot) : (s.setSlot k x).slot l = if l = k then x else s.slot l := by
  split
  · subst l; simp
  · rename_i h; exact s.slot_setSlot_ne x h

@[simp] theorem State.ctr_setCtr_self (k : SlotIx) (i : TillIx) (e : CounterEntry) : (s.setCtr k i e).ctr k i = e := by
  simp [State.ctr, State.setCtr]

theorem State.ctr_setCtr_ne {k l : SlotIx} {i j : TillIx} (e : CounterEntry) (h : (l, j) ≠ (k, i)) :
    (s.setCtr k i e).ctr l j = s.ctr l j := by
  by_cases hl : l = k
  · subst hl
    have : i.val ≠ j.val := fun e => h (by rw [Fin.ext e.symm])
    simp [State.ctr, State.setCtr, this]
  · have : k.val ≠ l.val := fun e => hl (Fin.ext e.symm)
    simp [State.ctr, State.setCtr, this]

theorem State.ctr_setCtr (k l : SlotIx) (i j : TillIx) (e : CounterEntry) :
    (s.setCtr k i e).ctr l j = if (l, j) = (k, i) then e else s.ctr l j := by
  split
  · rename_i h; cases h; simp
  · rename_i h; exact s.ctr_setCtr_ne e h

/-! ### Tables an update does not touch -/

@[simp] theorem State.ctr_setTill (i : TillIx) (t : Till) (l : SlotIx) (j : TillIx) : (s.setTill i t).ctr l j = s.ctr l j := rfl
@[simp] theorem State.slot_setTill (i : TillIx) (t : Till) (l : SlotIx) : (s.setTill i t).slot l = s.slot l := rfl
@[simp] theorem State.ctx_setTill (i : TillIx) (t : Till) (j : CtxIx) : (s.setTill i t).ctx j = s.ctx j := rfl
@[simp] theorem State.till_setCtr (k : SlotIx) (i : TillIx) (e : CounterEntry) (j : TillIx) : (s.setCtr k i e).till j = s.till j := rfl
@[simp] theorem State.slot_setCtr (k : SlotIx) (i : TillIx) (e : CounterEntry) (l : SlotIx) : (s.setCtr k i e).slot l = s.slot l := rfl
@[simp] theorem State.ctx_setCtr (k : SlotIx) (i : TillIx) (e : CounterEntry) (j : CtxIx) : (s.setCtr k i e).ctx j = s.ctx j := rfl
@[simp] theorem State.till_setSlot (k : SlotIx) (x : KeySlot) (j : TillIx) : (s.setSlot k x).till j = s.till j := rfl
@[simp] theorem State.ctr_setSlot (k : SlotIx) (x : KeySlot) (l : SlotIx) (j : TillIx) : (s.setSlot k x).ctr l j = s.ctr l j := rfl
@[simp] theorem State.ctx_setSlot (k : SlotIx) (x : KeySlot) (j : CtxIx) : (s.setSlot k x).ctx j = s.ctx j := rfl
@[simp] theorem State.till_setCtx (i : CtxIx) (x : Ctx) (j : TillIx) : (s.setCtx i x).till j = s.till j := rfl
@[simp] theorem State.ctr_setCtx (i : CtxIx) (x : Ctx) (l : SlotIx) (j : TillIx) : (s.setCtx i x).ctr l j = s.ctr l j := rfl
@[simp] theorem State.slot_setCtx (i : CtxIx) (x : Ctx) (l : SlotIx) : (s.setCtx i x).slot l = s.slot l := rfl
@[simp] theorem State.till_raise (e : EventCode) (a : Option TillIx) (b : Option SlotIx) (c : Option Location) (j : TillIx) : (s.raise e a b c).till j = s.till j := rfl
@[simp] theorem State.ctr_raise (e : EventCode) (a : Option TillIx) (b : Option SlotIx) (c : Option Location) (l : SlotIx) (j : TillIx) : (s.raise e a b c).ctr l j = s.ctr l j := rfl
@[simp] theorem State.slot_raise (e : EventCode) (a : Option TillIx) (b : Option SlotIx) (c : Option Location) (l : SlotIx) : (s.raise e a b c).slot l = s.slot l := rfl
@[simp] theorem State.ctx_raise (e : EventCode) (a : Option TillIx) (b : Option SlotIx) (c : Option Location) (j : CtxIx) : (s.raise e a b c).ctx j = s.ctx j := rfl
@[simp] theorem State.till_mapJobs (f : Job → Job) (j : TillIx) : (s.mapJobs f).till j = s.till j := rfl
@[simp] theorem State.ctr_mapJobs (f : Job → Job) (l : SlotIx) (j : TillIx) : (s.mapJobs f).ctr l j = s.ctr l j := rfl
@[simp] theorem State.slot_mapJobs (f : Job → Job) (l : SlotIx) : (s.mapJobs f).slot l = s.slot l := rfl
@[simp] theorem State.ctx_mapJobs (f : Job → Job) (j : CtxIx) : (s.mapJobs f).ctx j = s.ctx j := rfl
@[simp] theorem State.till_nextIpId  (j : TillIx) : (s.nextIpId).till j = s.till j := rfl
@[simp] theorem State.ctr_nextIpId  (l : SlotIx) (j : TillIx) : (s.nextIpId).ctr l j = s.ctr l j := rfl
@[simp] theorem State.slot_nextIpId  (l : SlotIx) : (s.nextIpId).slot l = s.slot l := rfl
@[simp] theorem State.ctx_nextIpId  (j : CtxIx) : (s.nextIpId).ctx j = s.ctx j := rfl
@[simp] theorem State.till_untaken  (j : TillIx) : (s.untaken).till j = s.till j := rfl
@[simp] theorem State.ctr_untaken  (l : SlotIx) (j : TillIx) : (s.untaken).ctr l j = s.ctr l j := rfl
@[simp] theorem State.slot_untaken  (l : SlotIx) : (s.untaken).slot l = s.slot l := rfl
@[simp] theorem State.ctx_untaken  (j : CtxIx) : (s.untaken).ctx j = s.ctx j := rfl
@[simp] theorem State.till_setPort (p : Port) (x : PortState) (j : TillIx) : (s.setPort p x).till j = s.till j := by cases p <;> rfl
@[simp] theorem State.ctr_setPort (p : Port) (x : PortState) (l : SlotIx) (j : TillIx) : (s.setPort p x).ctr l j = s.ctr l j := by cases p <;> rfl
@[simp] theorem State.slot_setPort (p : Port) (x : PortState) (l : SlotIx) : (s.setPort p x).slot l = s.slot l := by cases p <;> rfl
@[simp] theorem State.ctx_setPort (p : Port) (x : PortState) (j : CtxIx) : (s.setPort p x).ctx j = s.ctx j := by cases p <;> rfl

end Sys2Proof.Machine
end

