-- ==== Sys2Proof/Laws/Ops.lean ====
section
/-! SUPPORT. What each shared operation can do, said once: for an operation, the fields of the state it may change (every other field is as it
was), and what it makes of the field it is there for. Proofs cite these and do not unfold the operations. -/

namespace Sys2Proof.Machine

/-! ### Folds -/

/-- A relation that is reflexive and transitive, and holds across each turn, holds across a fold. -/
theorem foldl_rel {α β : Type} (R : α → α → Prop) (hr : ∀ a, R a a) (ht : ∀ a b c, R a b → R b c → R a c) (f : α → β → α)
    (hf : ∀ a b, R a (f a b)) : ∀ (l : List β) (a : α), R a (l.foldl f a)
  | [], a => hr a
  | b :: l, a => ht _ _ _ (hf a b) (foldl_rel R hr ht f hf l (f a b))

/-! ### Replies: tills, events, the Lane port and the identification count -/

/-- Only what a reply to a till touches differs between two states. -/
def RepliesOnly (s t : State) : Prop :=
  ∃ tills events lane ipId, t = { s with tills := tills, events := events, lane := lane, ipId := ipId }

theorem RepliesOnly.refl (s : State) : RepliesOnly s s := ⟨_, _, _, _, rfl⟩

theorem RepliesOnly.trans {s t u : State} : RepliesOnly s t → RepliesOnly t u → RepliesOnly s u := by
  rintro ⟨_, _, _, _, rfl⟩ ⟨_, _, _, _, rfl⟩; exact ⟨_, _, _, _, rfl⟩

/-- The same, as an equation. -/
theorem RepliesOnly.eq {s t : State} (h : RepliesOnly s t) :
    t = { s with tills := t.tills, events := t.events, lane := t.lane, ipId := t.ipId } := by
  obtain ⟨_, _, _, _, h⟩ := h; rw [h]

theorem State.raise_repliesOnly (s : State) (e : EventCode) (a : Option TillIx) (b : Option SlotIx) (c : Option Location) :
    RepliesOnly s (s.raise e a b c) := ⟨_, _, _, _, rfl⟩

theorem State.setTill_repliesOnly (s : State) (i : TillIx) (t : Till) : RepliesOnly s (s.setTill i t) := ⟨_, _, _, _, rfl⟩

theorem State.offerLane_repliesOnly (s : State) (b : Bytes) : RepliesOnly s (s.offerLane b) := by
  unfold State.offerLane State.placePriority State.discardFrame
  split
  · split
    · exact ⟨_, _, _, _, rfl⟩
    · exact ⟨_, _, _, _, rfl⟩
  · exact s.raise_repliesOnly ..

theorem State.sendReply_repliesOnly (s : State) (p : ReturnPath) (b : Bytes) : RepliesOnly s (s.sendReply p b) :=
  RepliesOnly.trans (t := s.nextIpId) ⟨_, _, _, _, rfl⟩ (State.offerLane_repliesOnly _ _)

theorem State.localReply_repliesOnly (s : State) (i : TillIx) (n r : Nat) (p : ReturnPath) (x : LocalReply) :
    RepliesOnly s (s.localReply i n r p x) := by
  unfold State.localReply
  refine ((s.raise_repliesOnly x.event (some i) none none).trans ?_).trans (State.sendReply_repliesOnly _ _ _)
  split
  · exact State.setTill_repliesOnly _ _ _
  · exact RepliesOnly.refl _

theorem State.replyTo_repliesOnly (s : State) (i : TillIx) (m : TillMsg) (x : LocalReply) : RepliesOnly s (s.replyTo i m x) :=
  s.localReply_repliesOnly ..

theorem State.refuseQueue_repliesOnly (s : State) (i : TillIx) (x : LocalReply) : RepliesOnly s (s.refuseQueue i x) :=
  (s.setTill_repliesOnly i _).trans
    (foldl_rel RepliesOnly RepliesOnly.refl (fun _ _ _ => RepliesOnly.trans) _ (fun t m => t.replyTo_repliesOnly i m x) _ _)

theorem State.refuseIfBarred_repliesOnly (s : State) (i : TillIx) : RepliesOnly s (s.refuseIfBarred i) := by
  unfold State.refuseIfBarred
  split
  · exact RepliesOnly.refl _
  · exact s.refuseQueue_repliesOnly ..

theorem State.tills_offerLane (s : State) (b : Bytes) : (s.offerLane b).tills = s.tills := by
  unfold State.offerLane State.placePriority State.discardFrame
  split
  · split <;> rfl
  · rfl

@[simp] theorem State.till_offerLane (s : State) (b : Bytes) (j : TillIx) : (s.offerLane b).till j = s.till j := by
  simp only [State.till, s.tills_offerLane]

@[simp] theorem State.till_sendReply (s : State) (p : ReturnPath) (b : Bytes) (j : TillIx) : (s.sendReply p b).till j = s.till j := by
  simp only [State.sendReply, State.till_offerLane, State.till_nextIpId]

/-- What a local reply makes of the Till Entries: the till's refused count advances for a refusal, and nothing else changes. -/
theorem State.till_localReply (s : State) (i j : TillIx) (n r : Nat) (p : ReturnPath) (x : LocalReply) :
    (s.localReply i n r p x).till j =
      if j = i ∧ x.isRefusal = true then { s.till i with refused := saturate (s.till i).refused } else s.till j := by
  unfold State.localReply
  by_cases h : x.isRefusal = true
  · by_cases hj : j = i
    · subst hj; simp [h, State.countRefused]
    · simp [h, hj, State.countRefused, State.till_setTill_ne _ _ hj]
  · simp [h]

/-- A till a reply may have counted: the same but for its refused count. -/
def SameTill (x y : Till) : Prop := ∃ n, y = { x with refused := n }

theorem SameTill.refl (x : Till) : SameTill x x := ⟨x.refused, rfl⟩

theorem SameTill.trans {x y z : Till} : SameTill x y → SameTill y z → SameTill x z := by
  rintro ⟨_, rfl⟩ ⟨_, rfl⟩; exact ⟨_, rfl⟩

theorem State.localReply_sameTill (s : State) (i j : TillIx) (n r : Nat) (p : ReturnPath) (x : LocalReply) :
    SameTill (s.till j) ((s.localReply i n r p x).till j) := by
  rw [s.till_localReply]
  split
  · rename_i h; rw [h.1]; exact ⟨_, rfl⟩
  · exact SameTill.refl _

theorem State.till_localReply_ne (s : State) {i j : TillIx} (n r : Nat) (p : ReturnPath) (x : LocalReply) (h : j ≠ i) :
    (s.localReply i n r p x).till j = s.till j := by
  rw [s.till_localReply]; simp [h]

theorem State.replyTo_sameTill (s : State) (i j : TillIx) (m : TillMsg) (x : LocalReply) :
    SameTill (s.till j) ((s.replyTo i m x).till j) := s.localReply_sameTill ..

theorem State.replies_sameTill (i j : TillIx) (x : LocalReply) (l : List TillMsg) (t : State) :
    SameTill (t.till j) ((l.foldl (fun t m => t.replyTo i m x) t).till j) := by
  induction l generalizing t with
  | nil => exact SameTill.refl _
  | cons m l ih => exact (t.replyTo_sameTill i j m x).trans (ih _)

/-- A refused queue is left empty; the till is otherwise the same but for its refused count. -/
theorem State.refuseQueue_self (s : State) (i : TillIx) (x : LocalReply) :
    SameTill { s.till i with queue := [] } ((s.refuseQueue i x).till i) := by
  have h := State.replies_sameTill i i x (s.till i).queue (s.setTill i { s.till i with queue := [] })
  rw [State.till_setTill_self] at h
  unfold State.refuseQueue
  exact h

/-- A refused queue is another till's business only. -/
theorem State.refuseQueue_other (s : State) {i j : TillIx} (x : LocalReply) (h : j ≠ i) : (s.refuseQueue i x).till j = s.till j := by
  have key : ∀ (l : List TillMsg) (t : State), (l.foldl (fun t m => t.replyTo i m x) t).till j = t.till j := by
    intro l
    induction l with
    | nil => intro t; rfl
    | cons m l ih => intro t; rw [List.foldl_cons, ih]; exact t.till_localReply_ne _ _ _ _ h
  unfold State.refuseQueue
  rw [key, State.till_setTill_ne _ _ h]

/-! ### Events -/

theorem EventCode.number_lt (e : EventCode) : e.number < 60 := by cases e <;> decide

theorem EventCode.number_inj {e f : EventCode} (h : e.number = f.number) : e = f := by
  cases e <;> cases f <;> first | rfl | (revert h; decide)

theorem State.count_raise_self (s : State) (e : EventCode) (a : Option TillIx) (b : Option SlotIx) (c : Option Location) :
    (s.raise e a b c).count e = min (s.count e + 1) Config.countMax := by
  have h := e.number_lt
  simp [State.raise, State.count, Events.after, countAfter, saturate, h]

theorem State.count_raise_ne (s : State) {e f : EventCode} (a : Option TillIx) (b : Option SlotIx) (c : Option Location) (h : f ≠ e) :
    (s.raise e a b c).count f = s.count f := by
  have h' : e.number ≠ f.number := fun k => h (EventCode.number_inj k).symm
  simp [State.raise, State.count, Events.after, countAfter, h']

theorem State.count_setTill (s : State) (i : TillIx) (t : Till) (e : EventCode) : (s.setTill i t).count e = s.count e := rfl

/-- What an offer to the Lane port can count. -/
theorem State.count_offerLane (s : State) (b : Bytes) {e : EventCode} (h1 : e ≠ .laneOverflow) (h2 : e ≠ .linkDiscard) :
    (s.offerLane b).count e = s.count e := by
  unfold State.offerLane State.placePriority State.discardFrame
  split
  · split
    · rfl
    · exact s.count_raise_ne _ _ _ h2
  · exact s.count_raise_ne _ _ _ h1

/-- What a local reply can count: its own kind, and what became of its frame. -/
theorem State.count_localReply (s : State) (i : TillIx) (n r : Nat) (p : ReturnPath) (x : LocalReply) {e : EventCode} (h : e ≠ x.event)
    (h1 : e ≠ .laneOverflow) (h2 : e ≠ .linkDiscard) : (s.localReply i n r p x).count e = s.count e := by
  unfold State.localReply State.sendReply
  rw [State.count_offerLane _ _ h1 h2]
  split
  · exact s.count_raise_ne _ _ _ h
  · exact s.count_raise_ne _ _ _ h

/-! ### The switch of an activation, and what a sector 2 write records (R64, R68, R75) -/

theorem SlotState.switched_eq (x : SlotState) : x.switched = if x = .faulted then .faulted else .active := by cases x <;> rfl

/-- An activation never takes a slot out of FAULTED, nor into it (R64). -/
@[simp] theorem SlotState.switched_faulted (x : SlotState) : x.switched = .faulted ↔ x = .faulted := by cases x <;> decide

@[simp] theorem State.switched_current (s : State) (k : SlotIx) : (s.switched k).current = (s.slot k).staged := rfl
@[simp] theorem State.switched_staged (s : State) (k : SlotIx) : (s.switched k).staged = none := rfl
@[simp] theorem State.switched_state (s : State) (k : SlotIx) : (s.switched k).state = (s.slot k).state.switched := rfl
@[simp] theorem State.switched_busy (s : State) (k : SlotIx) : (s.switched k).busy = (s.slot k).busy := rfl

/-- An addition leaves the stored contents of every other slot. -/
theorem StoredSlot.withAddition_other (x : StoredSlot) (k : SlotIx) (a : KeyAddition) (h : a.slot? ≠ some k) :
    x.withAddition k a = x := by
  cases a with
  | load j r => exact if_neg (fun e => h (congrArg some e))
  | loadFp r => rfl
  | activate j => exact if_neg (fun e => h (congrArg some e))

/-- Additions for other slots leave a slot's stored contents. -/
theorem StoredSlot.withAdditions_none (k : SlotIx) (adds : List KeyAddition) (h : k ∉ adds.filterMap KeyAddition.slot?) (x : StoredSlot) :
    adds.foldl (fun x a => x.withAddition k a) x = x := by
  induction adds generalizing x with
  | nil => rfl
  | cons a rest ih =>
    have ha : a.slot? ≠ some k := fun e => h (List.mem_filterMap.2 ⟨a, List.mem_cons_self, e⟩)
    rw [List.foldl_cons, x.withAddition_other k a ha]
    exact ih (fun hk => h (by
      obtain ⟨b, hb, hbk⟩ := List.mem_filterMap.1 hk
      exact List.mem_filterMap.2 ⟨b, List.mem_cons_of_mem _ hb, hbk⟩)) x

/-- Of additions for different slots, the one for a slot is the only one its stored contents take. -/
theorem StoredSlot.withAdditions_one (k : SlotIx) (a : KeyAddition) (adds : List KeyAddition) (ha : a ∈ adds) (hk : a.slot? = some k)
    (hn : (adds.filterMap KeyAddition.slot?).Nodup) (x : StoredSlot) :
    adds.foldl (fun x a => x.withAddition k a) x = x.withAddition k a := by
  induction adds generalizing x with
  | nil => cases ha
  | cons b rest ih =>
    rw [List.foldl_cons]
    rcases List.mem_cons.1 ha with rfl | hr
    · rw [List.filterMap_cons_some hk, List.nodup_cons] at hn
      exact StoredSlot.withAdditions_none k rest hn.1 _
    · have hb : b.slot? ≠ some k := by
        intro e
        rw [List.filterMap_cons_some e, List.nodup_cons] at hn
        exact hn.1 (List.mem_filterMap.2 ⟨a, hr, hk⟩)
      rw [x.withAddition_other k b hb]
      refine ih hr ?_ x
      cases e : b.slot? with
      | none => rwa [List.filterMap_cons_none e] at hn
      | some j => rw [List.filterMap_cons_some e, List.nodup_cons] at hn; exact hn.2

/-- What a sector 2 write records of a slot (R68): the volatile slot as it stands, changed by the one addition for it, if there is one. -/
theorem State.sector2_slot (s : State) (adds : List KeyAddition) (k : SlotIx) :
    (k ∉ adds.filterMap KeyAddition.slot? → (s.sector2 adds).slots[k] = (s.slot k).stored)
      ∧ ∀ a ∈ adds, a.slot? = some k → (adds.filterMap KeyAddition.slot?).Nodup →
          (s.sector2 adds).slots[k] = (s.slot k).stored.withAddition k a := by
  have h : (s.sector2 adds).slots[k] = adds.foldl (fun x a => x.withAddition k a) (s.slot k).stored := by
    simp [State.sector2]
  rw [h]
  exact ⟨fun hk => StoredSlot.withAdditions_none k adds hk _, fun a ha hk hn => StoredSlot.withAdditions_one k a adds ha hk hn _⟩

/-! ### Sector writes -/

/-- Only what beginning a sector 1 write touches differs. -/
theorem State.kick1_frame (s : State) : s.kick1 = { s with writer1 := s.kick1.writer1, mgmt := s.kick1.mgmt } := by
  unfold State.kick1
  split
  · rfl
  · split
    · rfl
    · split <;> rfl

theorem State.kick2_frame (s : State) : s.kick2 = { s with writer2 := s.kick2.writer2, mgmt := s.kick2.mgmt } := by
  unfold State.kick2
  split
  · rfl
  · split
    · rfl
    · split <;> rfl

theorem State.kick3_frame (s : State) : s.kick3 = { s with counters := s.kick3.counters, mgmt := s.kick3.mgmt } := by
  unfold State.kick3
  split
  · rfl
  · split <;> rfl

/-- A sector 3 write that begins changes no counter entry. -/
theorem State.entries_kick3 (s : State) : s.kick3.counters.entries = s.counters.entries := by
  unfold State.kick3
  split
  · rfl
  · split <;> rfl

@[simp] theorem State.ctr_kick3 (s : State) (k : SlotIx) (i : TillIx) : s.kick3.ctr k i = s.ctr k i := by
  simp only [State.ctr, s.entries_kick3]

theorem State.request1_frame (s : State) : s.request1 = { s with writer1 := s.request1.writer1, mgmt := s.request1.mgmt } := by
  unfold State.request1
  rw [State.kick1_frame]

theorem State.request2_frame (s : State) (adds : List KeyAddition) :
    s.request2 adds = { s with writer2 := (s.request2 adds).writer2, mgmt := (s.request2 adds).mgmt } := by
  unfold State.request2
  rw [State.kick2_frame]

/-- An answer asks for a sector 1 write and adds its job, and touches nothing else (R174). -/
theorem State.answer_frame (s : State) (t : Taken) (x : Status) (r : Results) :
    s.answer t x r = { s with writer1 := (s.answer t x r).writer1, mgmt := (s.answer t x r).mgmt } := by
  unfold State.answer
  rw [State.request1_frame]
  rfl

/-! ### Contexts and grants -/

theorem State.ctxToIdle_frame (s : State) (i : CtxIx) : s.ctxToIdle i = { s with tills := (s.ctxToIdle i).tills, ctxs := (s.ctxToIdle i).ctxs } := by
  unfold State.ctxToIdle
  split
  · rfl
  · split <;> rfl

/-- A context that has returned to IDLE holds nothing; no other context changes. -/
theorem State.ctx_ctxToIdle (s : State) (i j : CtxIx) : (s.ctxToIdle i).ctx j = if j = i then idleCtx else s.ctx j := by
  unfold State.ctxToIdle
  split
  · exact s.ctx_setCtx ..
  · rw [State.ctx_setCtx]; split
    · rfl
    · split <;> rfl

/-- Only what a grant touches differs between two states. -/
def GrantsOnly (s t : State) : Prop :=
  ∃ tills events lane ipId counters mgmt ctxs arbiter,
    t = { s with tills := tills, events := events, lane := lane, ipId := ipId, counters := counters, mgmt := mgmt, ctxs := ctxs,
                 arbiter := arbiter }

theorem GrantsOnly.refl (s : State) : GrantsOnly s s := ⟨_, _, _, _, _, _, _, _, rfl⟩

theorem GrantsOnly.trans {s t u : State} : GrantsOnly s t → GrantsOnly t u → GrantsOnly s u := by
  rintro ⟨_, _, _, _, _, _, _, _, rfl⟩ ⟨_, _, _, _, _, _, _, _, rfl⟩; exact ⟨_, _, _, _, _, _, _, _, rfl⟩

theorem RepliesOnly.grantsOnly {s t : State} : RepliesOnly s t → GrantsOnly s t := by
  rintro ⟨_, _, _, _, rfl⟩; exact ⟨_, _, _, _, _, _, _, _, rfl⟩

theorem State.kick3_grantsOnly (s : State) : GrantsOnly s s.kick3 := by
  rw [s.kick3_frame]; exact ⟨_, _, _, _, _, _, _, _, rfl⟩

/-- A reservation touches the counters, the commands that wait for a checkpoint, events and a spent till's queue (R49, R50, R55, R112). -/
theorem State.reserve_grantsOnly (s : State) (k : SlotIx) (i : TillIx) : GrantsOnly s (s.reserve k i) := by
  have h1 : ∀ t : State, GrantsOnly t (if (t.ctr k i).wantsRaise then (t.requestRaise k i).kick3 else t) := by
    intro t
    split
    · exact GrantsOnly.trans (t := t.requestRaise k i) ⟨_, _, _, _, _, _, _, _, rfl⟩ (State.kick3_grantsOnly _)
    · exact GrantsOnly.refl _
  have h2 : ∀ (t : State) (c : Nat), GrantsOnly t (t.counterEvents k i c) := by
    intro t c
    unfold State.counterEvents
    split
    · exact (t.raise_repliesOnly ..).grantsOnly
    · split
      · exact (t.raise_repliesOnly ..).grantsOnly
      · exact GrantsOnly.refl _
  have h3 : ∀ (t : State) (c : Nat), GrantsOnly t (if c = Config.spent then t.refuseIfBarred i else t) := by
    intro t c
    split
    · exact (t.refuseIfBarred_repliesOnly i).grantsOnly
    · exact GrantsOnly.refl _
  unfold State.reserve
  exact ((GrantsOnly.trans (t := s.setCtr k i { s.ctr k i with c := (s.ctr k i).c + 1 }) ⟨_, _, _, _, _, _, _, _, rfl⟩ (h1 _)).trans
    (h2 _ _)).trans (h3 _ _)

theorem State.grantTo_grantsOnly (s : State) (c : CtxIx) (i : TillIx) (x : TillClass) : GrantsOnly s (s.grantTo c i x) := by
  unfold State.grantTo
  split
  · exact GrantsOnly.trans ⟨_, _, _, _, _, _, _, _, rfl⟩ (State.reserve_grantsOnly _ _ _)
  · exact GrantsOnly.refl _

theorem State.grantOnce_grantsOnly (s : State) : GrantsOnly s s.grantOnce := by
  unfold State.grantOnce
  split
  · exact s.grantTo_grantsOnly ..
  · exact GrantsOnly.refl _

/-- Grants touch the tills, the contexts, the arbiter, the counters, events, and what replies to a spent till's queue touch. -/
theorem State.grants_grantsOnly (s : State) : GrantsOnly s s.grants :=
  ((s.grantOnce_grantsOnly.trans (State.grantOnce_grantsOnly _)).trans (State.grantOnce_grantsOnly _)).trans
    (State.grantOnce_grantsOnly _)

/-! ### The Uplink Priority Queue (R19) -/

/-- Only what taking frames into the Uplink Priority Queue touches differs between two states. -/
def UplinkOnly (s t : State) : Prop :=
  ∃ uplink waitOrder events mgmt ctxs tills outstanding drain holding link,
    t = { s with uplink := uplink, waitOrder := waitOrder, events := events, mgmt := mgmt, ctxs := ctxs, tills := tills,
                 outstanding := outstanding, drain := drain, holding := holding, link := link }

theorem UplinkOnly.refl (s : State) : UplinkOnly s s := ⟨_, _, _, _, _, _, _, _, _, _, rfl⟩

theorem UplinkOnly.trans {s t u : State} : UplinkOnly s t → UplinkOnly t u → UplinkOnly s u := by
  rintro ⟨_, _, _, _, _, _, _, _, _, _, rfl⟩ ⟨_, _, _, _, _, _, _, _, _, _, rfl⟩; exact ⟨_, _, _, _, _, _, _, _, _, _, rfl⟩

theorem State.placePriority_uplinkOnly (s : State) (f : TxFrame) : UplinkOnly s (s.placePriority .uplink f) := by
  unfold State.placePriority State.discardFrame
  split
  · exact ⟨_, _, _, _, _, _, _, _, _, _, rfl⟩
  · dsimp only
    split
    · exact ⟨_, _, _, _, _, _, _, _, _, _, rfl⟩
    · exact ⟨_, _, _, _, _, _, _, _, _, _, rfl⟩

theorem State.placed_uplinkOnly (s : State) (w : Waiter) : UplinkOnly s (s.placed w) := by
  unfold State.placed
  split
  · split
    · exact UplinkOnly.refl _
    · split
      · exact UplinkOnly.refl _
      · rw [State.ctxToIdle_frame]; exact ⟨_, _, _, _, _, _, _, _, _, _, rfl⟩
  · split
    · exact UplinkOnly.refl _
    · exact ⟨_, _, _, _, _, _, _, _, _, _, rfl⟩
  · split
    · exact UplinkOnly.refl _
    · exact ⟨_, _, _, _, _, _, _, _, _, _, rfl⟩
  · exact ⟨_, _, _, _, _, _, _, _, _, _, rfl⟩
  · exact UplinkOnly.refl _

theorem State.offerUplink_uplinkOnly (s : State) (w : Waiter) (f : TxFrame) : UplinkOnly s (s.offerUplink w f) := by
  unfold State.offerUplink
  split
  · exact (s.placePriority_uplinkOnly f).trans (State.placed_uplinkOnly _ _)
  · exact ⟨_, _, _, _, _, _, _, _, _, _, rfl⟩

theorem State.serveUplink_uplinkOnly (s : State) : UplinkOnly s s.serveUplink := by
  unfold State.serveUplink
  refine foldl_rel UplinkOnly UplinkOnly.refl (fun _ _ _ => UplinkOnly.trans) _ ?_ _ _
  intro t x
  split
  · exact (UplinkOnly.trans (t := { t with waitOrder := t.waitOrder.drop 1 }) ⟨_, _, _, _, _, _, _, _, _, _, rfl⟩
      (State.placePriority_uplinkOnly _ _)).trans (State.placed_uplinkOnly _ _)
  · exact UplinkOnly.refl _

/-! ### LOCKDOWN and containment (R191, R192) -/

/-- Only what entering LOCKDOWN touches differs between two states. -/
def LockdownOnly (s t : State) : Prop :=
  ∃ opState cause ctxs tills events lane ipId waitOrder placeWait holding drain,
    t = { s with opState := opState, cause := cause, ctxs := ctxs, tills := tills, events := events, lane := lane, ipId := ipId,
                 waitOrder := waitOrder, placeWait := placeWait, holding := holding, drain := drain }

theorem LockdownOnly.refl (s : State) : LockdownOnly s s := ⟨_, _, _, _, _, _, _, _, _, _, _, rfl⟩

theorem LockdownOnly.trans {s t u : State} : LockdownOnly s t → LockdownOnly t u → LockdownOnly s u := by
  rintro ⟨_, _, _, _, _, _, _, _, _, _, _, rfl⟩ ⟨_, _, _, _, _, _, _, _, _, _, _, rfl⟩
  exact ⟨_, _, _, _, _, _, _, _, _, _, _, rfl⟩

theorem RepliesOnly.lockdownOnly {s t : State} : RepliesOnly s t → LockdownOnly s t := by
  rintro ⟨_, _, _, _, rfl⟩; exact ⟨_, _, _, _, _, _, _, _, _, _, _, rfl⟩

theorem State.abandon_lockdownOnly (s : State) (i : CtxIx) : LockdownOnly s (s.abandon i) := by
  unfold State.abandon
  rw [State.ctxToIdle_frame]
  exact ⟨_, _, _, _, _, _, _, _, _, _, _, rfl⟩

theorem State.drainToIdle_lockdownOnly (s : State) : LockdownOnly s s.drainToIdle := by
  unfold State.drainToIdle
  split
  · exact LockdownOnly.refl _
  · exact ⟨_, _, _, _, _, _, _, _, _, _, _, rfl⟩
  · exact ⟨_, _, _, _, _, _, _, _, _, _, _, rfl⟩

theorem State.enterLockdown_lockdownOnly (s : State) : LockdownOnly s s.enterLockdown := by
  unfold State.enterLockdown
  refine LockdownOnly.trans (t := { s with opState := .lockdown }) ⟨_, _, _, _, _, _, _, _, _, _, _, rfl⟩ ?_
  refine LockdownOnly.trans ?_ (State.drainToIdle_lockdownOnly _)
  refine (foldl_rel LockdownOnly LockdownOnly.refl (fun _ _ _ => LockdownOnly.trans) _ State.abandon_lockdownOnly allCtxs _).trans ?_
  exact foldl_rel LockdownOnly LockdownOnly.refl (fun _ _ _ => LockdownOnly.trans) _
    (fun t i => (t.refuseQueue_repliesOnly i _).lockdownOnly) allTills _

/-- Containment changes nothing under LENIENT. -/
theorem State.contain_lenient (s : State) (h : s.settings.store.policy = .lenient) : s.contain = s := by
  unfold State.contain; rw [h]

theorem State.contain_lockdownOnly (s : State) : LockdownOnly s s.contain := by
  unfold State.contain
  split
  · exact LockdownOnly.refl _
  · split
    · exact s.enterLockdown_lockdownOnly
    · exact ⟨_, _, _, _, _, _, _, _, _, _, _, rfl⟩
    · exact LockdownOnly.refl _
    · exact LockdownOnly.refl _

/-! ### The link and the drain -/

/-- Only what a change of the link state touches differs between two states. -/
def LinkOnly (s t : State) : Prop :=
  ∃ link drain events waitOrder holding, t = { s with link := link, drain := drain, events := events, waitOrder := waitOrder, holding := holding }

theorem LinkOnly.refl (s : State) : LinkOnly s s := ⟨_, _, _, _, _, rfl⟩

theorem LinkOnly.trans {s t u : State} : LinkOnly s t → LinkOnly t u → LinkOnly s u := by
  rintro ⟨_, _, _, _, _, rfl⟩ ⟨_, _, _, _, _, rfl⟩; exact ⟨_, _, _, _, _, rfl⟩

theorem State.tryRun_linkOnly (s : State) : LinkOnly s s.tryRun := by
  unfold State.tryRun; split
  · exact ⟨_, _, _, _, _, rfl⟩
  · exact LinkOnly.refl _

theorem State.leaveRunning_linkOnly (s : State) : LinkOnly s s.leaveRunning := by
  unfold State.leaveRunning; split
  · exact ⟨_, _, _, _, _, rfl⟩
  · exact LinkOnly.refl _

theorem State.startSettle_linkOnly (s : State) : LinkOnly s s.startSettle := by
  unfold State.startSettle; split
  · exact LinkOnly.trans ⟨_, _, _, _, _, rfl⟩ (State.tryRun_linkOnly _)
  · exact ⟨_, _, _, _, _, rfl⟩

theorem State.failureRun_linkOnly (s : State) (n : Nat) : LinkOnly s (s.failureRun n) := by
  unfold State.failureRun; split
  · exact ⟨_, _, _, _, _, rfl⟩
  · exact ⟨_, _, _, _, _, rfl⟩

theorem State.successRun_linkOnly (s : State) (n : Nat) : LinkOnly s (s.successRun n) := by
  unfold State.successRun State.enterUp; split
  · exact LinkOnly.trans ⟨_, _, _, _, _, rfl⟩ (State.startSettle_linkOnly _)
  · exact ⟨_, _, _, _, _, rfl⟩

theorem State.leaveUp_linkOnly (s : State) : LinkOnly s s.leaveUp :=
  LinkOnly.trans ⟨_, _, _, _, _, rfl⟩ (State.leaveRunning_linkOnly _)

theorem State.linkFailure_linkOnly (s : State) : LinkOnly s s.linkFailure := by
  unfold State.linkFailure; split
  · exact (s.leaveUp_linkOnly).trans (State.failureRun_linkOnly _ _)
  · exact s.failureRun_linkOnly _
  · exact LinkOnly.refl _
  · exact ⟨_, _, _, _, _, rfl⟩

theorem State.linkSuccess_linkOnly (s : State) : LinkOnly s s.linkSuccess := by
  unfold State.linkSuccess; split
  · split
    · exact LinkOnly.refl _
    · exact LinkOnly.trans ⟨_, _, _, _, _, rfl⟩ (State.startSettle_linkOnly _)
    · exact s.successRun_linkOnly _
    · exact s.successRun_linkOnly _
  · exact LinkOnly.refl _

/-! ### The row of a command -/

/-- A row that is the taken command's is carried out on the state with nothing taken (R173). -/
theorem State.carry_taken (s : State) (t : Taken) (c : Instr) (f : Taken → State → State) (h : s.mgmt.taken = some t) (hc : t.cmd = c) :
    s.carry c f = f t s.untaken := by
  unfold State.carry; rw [h]; simp [hc, State.untaken]

/-- A row that is not the taken command's changes nothing (log 11). -/
theorem State.carry_other (s : State) (c : Instr) (f : Taken → State → State) (h : ∀ t, s.mgmt.taken = some t → t.cmd ≠ c) :
    s.carry c f = s := by
  unfold State.carry
  split
  · rfl
  · rename_i t ht; rw [if_neg (h t ht)]

/-- What the end of a slot's pending raises can do (R60, log 52): the slot's raises leave the pending set, and of the jobs only what they wait
for in sector 3 changes. -/
theorem State.endPending_frame (s : State) (k : SlotIx) :
    (s.endPending k).counters = { s.counters with pending := s.counters.pending.filter (fun p => p.1 != k) }
      ∧ s.endPending k = { s with counters := (s.endPending k).counters, mgmt := { s.mgmt with jobs := (s.endPending k).mgmt.jobs } } :=
  ⟨rfl, rfl⟩

theorem State.endPending_pending (s : State) (k : SlotIx) (i : TillIx) : (k, i) ∉ (s.endPending k).counters.pending := by
  rw [(s.endPending_frame k).1]
  simp

/-- What a failed write leaves in its slot touches the non-volatile slots alone (R158). -/
theorem HoldingStore.leave_frame (h : HoldingStore) (left : Option NvSlot) : h.leave left = { h with nv := (h.leave left).nv } := by
  cases left <;> rfl

/-! ### Non-volatile slots (R155) -/

/-- What each slot reads once one slot's contents have been put in their place. -/
theorem find_putSlot (x : NvSlot) (l : List NvSlot) (h : (l.map (·.slot)).Pairwise (· < ·)) (n : Nat) :
    (putSlot x l).find? (fun y => y.slot == n) = if n = x.slot then some x else l.find? (fun y => y.slot == n) := by
  induction l with
  | nil =>
    by_cases e : n = x.slot
    · simp [putSlot, e]
    · simp only [putSlot, List.find?_cons, beq_false_of_ne (Ne.symm e), List.find?_nil, if_neg e]
  | cons a l ih =>
    obtain ⟨-, hl⟩ := List.pairwise_cons.1 h
    by_cases e : n = x.slot
    · subst e
      rcases Nat.lt_trichotomy a.slot x.slot with o | o | o
      · simp [putSlot, o, ih hl, o.ne]
      · simp [putSlot, o]
      · simp [putSlot, o.ne', o.not_gt]
    · have e' : ¬ x.slot = n := fun h => e h.symm
      rcases Nat.lt_trichotomy a.slot x.slot with o | o | o
      · simp [putSlot, o, ih hl, e, List.find?_cons]
      · simp [putSlot, o, e, e']
      · simp [putSlot, o.ne', o.not_gt, e, e']

/-! ### A placed drain frame (R165, R170) -/

@[simp] theorem HoldingStore.sent_head (h : HoldingStore) (n : Nat) (l : IndexLine) : (h.sent n l).head = l.head := rfl
@[simp] theorem HoldingStore.sent_slot (h : HoldingStore) (n : Nat) (l : IndexLine) : (h.sent n l).slot = l.slot := rfl
@[simp] theorem HoldingStore.sent_held (h : HoldingStore) (n : Nat) (l : IndexLine) : (h.sent n l).held = l.held := rfl
@[simp] theorem HoldingStore.sent_draining (h : HoldingStore) (n : Nat) (l : IndexLine) : (h.sent n l).draining = l.draining := rfl
@[simp] theorem HoldingStore.sent_freeing (h : HoldingStore) (n : Nat) (l : IndexLine) : (h.sent n l).freeing = l.freeing := rfl

/-- What the placing of the frame in hand does: nothing is in hand, and the record of its sequence is sent. -/
theorem State.placed_drain (s : State) (q : Nat) (h : s.drain.inHand = some q) :
    s.placed .drain = { s with
      drain := { s.drain with inHand := none }
      holding := { s.holding with lines := s.holding.lines.map (fun l =>
        if l.held && l.head.seq == q then s.holding.sent (s.now + 1000 * s.settings.store.ackTimeout) l else l) } } := by
  simp [State.placed, h]

/-! ### A format's beginning (R162) -/

/-- Only what the end of a queued request touches differs between two states: of the Holding Store, the index alone. -/
def EndsOnly (s t : State) : Prop :=
  ∃ lines standIn drain ctxs tills holdNotes events lane ipId,
    t = { s with holding := { s.holding with lines := lines }, standIn := standIn, drain := drain, ctxs := ctxs, tills := tills,
                 holdNotes := holdNotes, events := events, lane := lane, ipId := ipId }

theorem EndsOnly.refl (s : State) : EndsOnly s s := ⟨_, _, _, _, _, _, _, _, _, rfl⟩

theorem EndsOnly.trans {s t u : State} : EndsOnly s t → EndsOnly t u → EndsOnly s u := by
  rintro ⟨_, _, _, _, _, _, _, _, _, rfl⟩ ⟨_, _, _, _, _, _, _, _, _, rfl⟩; exact ⟨_, _, _, _, _, _, _, _, _, rfl⟩

theorem RepliesOnly.endsOnly {s t : State} : RepliesOnly s t → EndsOnly s t := by
  rintro ⟨_, _, _, _, rfl⟩; exact ⟨_, _, _, _, _, _, _, _, _, rfl⟩

theorem State.endHolding_endsOnly (s : State) (i : CtxIx) (r : LocalReply) : EndsOnly s (s.endHolding i r) := by
  unfold State.endHolding
  split
  · exact EndsOnly.refl s
  · split
    · exact EndsOnly.refl s
    · rename_i w _ _ o _
      have h := State.ctxToIdle_frame (s.localReply w.till o.number o.reference o.path r) i
      exact (s.localReply_repliesOnly w.till o.number o.reference o.path r).endsOnly.trans ⟨_, _, _, _, _, _, _, _, _, h⟩

theorem State.answerNote_endsOnly (s : State) (q : Nat) (r : LocalReply) : EndsOnly s (s.answerNote q r) := by
  unfold State.answerNote
  split
  · exact EndsOnly.refl s
  · exact EndsOnly.trans (t := { s with holdNotes := _ }) ⟨_, _, _, _, _, _, _, _, _, rfl⟩ (State.localReply_repliesOnly _ ..).endsOnly

theorem State.checkDrain_endsOnly (s : State) : EndsOnly s s.checkDrain := by
  unfold State.checkDrain State.completeDrain
  split
  · exact ⟨_, _, _, _, _, _, _, _, _, rfl⟩
  · exact EndsOnly.refl s

/-- What the end of a queued request can do. -/
theorem State.endQueued_endsOnly (s : State) (o : StoreOp) : EndsOnly s (s.endQueued o) := by
  have drop : ∀ (n : Nat) (h : RecordHead), EndsOnly s (State.release { s with holding := s.holding.dropLine n } h) :=
    fun _ _ => ⟨_, _, _, _, _, _, _, _, _, rfl⟩
  cases o with
  | write n by_ r =>
    unfold State.endQueued
    refine (drop n r.head).trans ?_
    cases by_
    · exact State.endHolding_endsOnly ..
    · exact State.answerNote_endsOnly ..
    · exact EndsOnly.refl _
    · exact EndsOnly.refl _
  | free n by_ =>
    unfold State.endQueued
    dsimp only
    split
    · exact EndsOnly.refl s
    · rename_i l _
      refine (drop n l.head).trans (EndsOnly.trans ?_ (State.checkDrain_endsOnly _))
      cases by_
      · exact State.endHolding_endsOnly ..
      · exact EndsOnly.refl _
      · exact ⟨_, _, _, _, _, _, _, _, _, rfl⟩
      · exact EndsOnly.refl _

/-- The end of a queued request leaves the queue and the format as they are. -/
theorem State.endQueued_queue (s : State) (o : StoreOp) :
    (s.endQueued o).holding.ops = s.holding.ops ∧ (s.endQueued o).holding.format = s.holding.format := by
  obtain ⟨_, _, _, _, _, _, _, _, _, h⟩ := s.endQueued_endsOnly o
  rw [h]; exact ⟨rfl, rfl⟩

/-! ### The waiting command (R114, R178) -/

/-- With no command whose wait limit runs, nothing is carried out. -/
theorem State.quietCheck_none (s : State) (h : ∀ j ∈ s.mgmt.jobs, ∀ g l, j.role ≠ .waiting g (some l)) : s.quietCheck = s := by
  have : s.mgmt.jobs.find? (fun j => j.hold?.isSome) = none := by
    rw [List.find?_eq_none]
    intro j hj
    unfold Job.hold?
    cases e : j.role with
    | waiting g l => cases l with
      | none => simp
      | some l => exact absurd e (h j hj g l)
    | current => simp
    | late => simp
    | stopped g => simp
  simp [State.quietCheck, this]

end Sys2Proof.Machine
end

