-- ==== Sys2Proof/Laws/PerInstr.lean ====
section
/-! SUPPORT. A statement about each command as syntax, one lemma a constructor: the code and operands that carry a well-formed command have a
code from 1 to 21 and the length R180 and R182 give that code, and a row that no management frame brings has none (R14). -/

namespace Sys2Proof.Laws.Carried

open Machine

/-- What carries a command, when something does, is one of the codes with operands of its length. -/
def Statement (c : Instr) : Prop :=
  c.wf = true → ∀ (code : Nat) (b : Bytes), encodeCommand c = some (code, b) →
    1 ≤ code ∧ code ≤ 21 ∧ operandLength code = some b.length

@[simp] theorem length_encodeGateway (g : Gateway) : (encodeGateway g).length = 12 := by simp [encodeGateway]

@[simp] theorem length_encodeProfile (o : ProfileOperands) : (encodeProfile o).length = 20 := by simp [encodeProfile]

@[simp] theorem length_encodeRules (r : List (Nat × Nat)) : (encodeRules r).length = 2 * r.length := by
  induction r with
  | nil => rfl
  | cons x r ih => simp only [encodeRules, List.flatMap_cons, List.length_append, length_be] at ih ⊢; simp [ih]; omega

theorem length_encodeStore (o : StoreOperands) (h : o.ports.length = 4) : (encodeStore o).length = 45 := by
  simp [encodeStore, h]

/-- A command carried by one code and operands of its length meets the statement. -/
theorem of_code {c : Instr} {code : Nat} {b : Bytes} (he : encodeCommand c = some (code, b)) (hl : operandLength code = some b.length)
    (h1 : 1 ≤ code) (h2 : code ≤ 21) : Statement c := by
  intro _ code' b' h
  rw [he] at h
  cases h
  exact ⟨h1, h2, hl⟩

/-- A row that no management frame brings meets the statement. -/
theorem of_none {c : Instr} (he : encodeCommand c = none) : Statement c := by
  intro _ code b h
  rw [he] at h
  cases h

theorem powerOn : Statement .powerOn := of_none rfl
theorem resetPinAssert : Statement .resetPinAssert := of_none rfl
theorem resetPinRelease : Statement .resetPinRelease := of_none rfl
theorem sectorReadsEnd (bad0 bad1 bad2 bad3 : Bool) : Statement (.sectorReadsEnd bad0 bad1 bad2 bad3) := of_none rfl
theorem holdingScanEnd (headerBad : Bool) (badHeads badMessages : List Nat) : Statement (.holdingScanEnd headerBad badHeads badMessages) := of_none rfl
theorem startupEnd : Statement .startupEnd := of_none rfl
theorem rxFrame (port : Port) (frame : Bytes) : Statement (.rxFrame port frame) := of_none rfl
theorem transmitStart (port : Port) : Statement (.transmitStart port) := of_none rfl
theorem transmitEnd (port : Port) : Statement (.transmitEnd port) := of_none rfl
theorem physicalLinkLost (port : Port) : Statement (.physicalLinkLost port) := of_none rfl
theorem physicalLinkRestored (port : Port) : Statement (.physicalLinkRestored port) := of_none rfl
theorem assemblyTimeout (till : TillIx) : Statement (.assemblyTimeout till) := of_none rfl
theorem derivingKeys (ctx : CtxIx) : Statement (.derivingKeys ctx) := of_none rfl
theorem wrapping (ctx : CtxIx) : Statement (.wrapping ctx) := of_none rfl
theorem authenticating (ctx : CtxIx) : Statement (.authenticating ctx) := of_none rfl
theorem deciding (ctx : CtxIx) : Statement (.deciding ctx) := of_none rfl
theorem replyWindowExpiry (till : TillIx) (reference : Nat) : Statement (.replyWindowExpiry till reference) := of_none rfl
theorem probeTimerExpiry : Statement .probeTimerExpiry := of_none rfl
theorem probeDeadlineExpiry (number : Nat) : Statement (.probeDeadlineExpiry number) := of_none rfl
theorem settleTimerExpiry : Statement .settleTimerExpiry := of_none rfl
theorem drainTimeout (sequence : Nat) : Statement (.drainTimeout sequence) := of_none rfl
theorem quietWaitLimitExpiry : Statement .quietWaitLimitExpiry := of_none rfl
theorem checkpointWriteComplete : Statement .checkpointWriteComplete := of_none rfl
theorem checkpointWriteFail : Statement .checkpointWriteFail := of_none rfl
theorem sectorWriteComplete (sector : WSector) : Statement (.sectorWriteComplete sector) := of_none rfl
theorem sectorWriteFail (sector : WSector) : Statement (.sectorWriteFail sector) := of_none rfl
theorem recordWriteComplete : Statement .recordWriteComplete := of_none rfl
theorem recordWriteFail : Statement .recordWriteFail := of_none rfl
theorem recordFreeComplete : Statement .recordFreeComplete := of_none rfl
theorem recordFreeFail : Statement .recordFreeFail := of_none rfl
theorem formatEnd : Statement .formatEnd := of_none rfl
theorem tamperAssert : Statement .tamperAssert := of_none rfl
theorem tamperDeassert : Statement .tamperDeassert := of_none rfl
theorem mgmtFrameTake : Statement .mgmtFrameTake := of_none rfl
theorem readStatus : Statement .readStatus :=
  of_code rfl (by simp [operandLength]) (by decide) (by decide)
theorem readTill (index : Nat) : Statement (.readTill index) :=
  of_code rfl (by simp [operandLength]) (by decide) (by decide)
theorem readCounters (first count : Nat) : Statement (.readCounters first count) :=
  of_code rfl (by simp [operandLength]) (by decide) (by decide)
theorem readEvents (clear : BitVec 8) : Statement (.readEvents clear) :=
  of_code rfl (by simp [operandLength]) (by decide) (by decide)
theorem readDrainSummary : Statement .readDrainSummary :=
  of_code rfl (by simp [operandLength]) (by decide) (by decide)
theorem writeTill (index : Nat) (mac : Mac) (number profile slot : Nat) : Statement (.writeTill index mac number profile slot) :=
  of_code rfl (by simp [operandLength]) (by decide) (by decide)
theorem enableTill (index : Nat) : Statement (.enableTill index) :=
  of_code rfl (by simp [operandLength]) (by decide) (by decide)
theorem disableTill (index : Nat) : Statement (.disableTill index) :=
  of_code rfl (by simp [operandLength]) (by decide) (by decide)
theorem writeProfile (ops : ProfileOperands) : Statement (.writeProfile ops) :=
  of_code rfl (by simp [operandLength]) (by decide) (by decide)
theorem writeFieldMap (index count : Nat) (rules : List (Nat × Nat)) : Statement (.writeFieldMap index count rules) := by
  intro hw
  have h : rules.length = 16 := by
    simp only [Instr.wf, Bool.and_eq_true, decide_eq_true_eq] at hw
    exact hw.1.2
  exact of_code rfl (by simp [h, operandLength]) (by decide) (by decide) hw
theorem setLimits (target l1 lt nc lc : Nat) : Statement (.setLimits target l1 lt nc lc) :=
  of_code rfl (by simp [operandLength]) (by decide) (by decide)
theorem setLink (interval nDown nUp settle : Nat) : Statement (.setLink interval nDown nUp settle) :=
  of_code rfl (by simp [operandLength]) (by decide) (by decide)
theorem setStore (ops : StoreOperands) : Statement (.setStore ops) := by
  intro hw
  have h : ops.ports.length = 4 := by
    simp only [Instr.wf, StoreOperands.wf, Bool.and_eq_true, decide_eq_true_eq] at hw
    exact hw.1.1.1.2
  exact of_code rfl (by rw [length_encodeStore ops h]; rfl) (by decide) (by decide) hw
theorem loadKey (target ksid gen : Nat) (encrypted : BitVec 384) : Statement (.loadKey target ksid gen encrypted) :=
  of_code rfl (by simp [operandLength]) (by decide) (by decide)
theorem startDrain : Statement .startDrain :=
  of_code rfl (by simp [operandLength]) (by decide) (by decide)
theorem stopDrain : Statement .stopDrain :=
  of_code rfl (by simp [operandLength]) (by decide) (by decide)
theorem releaseLockdown : Statement .releaseLockdown :=
  of_code rfl (by simp [operandLength]) (by decide) (by decide)
theorem reset : Statement .reset :=
  of_code rfl (by simp [operandLength]) (by decide) (by decide)
theorem activateKey (slot : Nat) : Statement (.activateKey slot) :=
  of_code rfl (by simp [operandLength]) (by decide) (by decide)
theorem eraseKey (slot : Nat) : Statement (.eraseKey slot) :=
  of_code rfl (by simp [operandLength]) (by decide) (by decide)
theorem decommission (force : Nat) : Statement (.decommission force) :=
  of_code rfl (by simp [operandLength]) (by decide) (by decide)
theorem writeIdentity (serial : BitVec 64) (mac : Mac) (etype : Nat) (mgmtKey transportKey : Key) : Statement (.writeIdentity serial mac etype mgmtKey transportKey) := of_none rfl
theorem closeFactory : Statement .closeFactory := of_none rfl
theorem fullErase : Statement .fullErase := of_none rfl
theorem factoryWriteEnd (ok0 ok1 ok2 ok3 : Bool) : Statement (.factoryWriteEnd ok0 ok1 ok2 ok3) := of_none rfl

end Sys2Proof.Laws.Carried
end

