-- ==== Sys2Proof/Tests/Slice0.lean ====
section
/-! SUPPORT. The model's own tests, each a named theorem: ill-formed terms that WellFormed refuses, carried commands written out from R180,
small checks of one step, and for every statement with hypotheses a concrete state and operands that meet them. Expected values come from
the manual's text or from hand calculation by its rules. -/

namespace Sys2Proof.Tests

open Sys2Proof Sys2Proof.Machine

-- Small theorems checked one after another: side by side they ask for more threads than the check of the whole package allows.
set_option Elab.async false

/-! ### WellFormed: each check refuses an ill-formed term (R180, R182) -/

theorem test_wf_index : (Instr.readTill 256).wf = false ∧ (Instr.enableTill 256).wf = false ∧ (Instr.disableTill 256).wf = false
    ∧ (Instr.activateKey 256).wf = false ∧ (Instr.eraseKey 256).wf = false ∧ (Instr.decommission 256).wf = false := by decide

theorem test_wf_readCounters : (Instr.readCounters 256 1).wf = false ∧ (Instr.readCounters 1 256).wf = false := by decide

theorem test_wf_writeTill : (Instr.writeTill 256 0 0 0 0).wf = false ∧ (Instr.writeTill 0 0 65536 0 0).wf = false
    ∧ (Instr.writeTill 0 0 0 256 0).wf = false ∧ (Instr.writeTill 0 0 0 0 256).wf = false := by decide

/-- Operands of WRITE-PROFILE that fit their fields. -/
def ops : ProfileOperands :=
  { index := 7, cls := 2, policy := 3, refunds := 1, risk := 400, window := 60, gateway := { ip := 0x0A000001, port := 65535, hop := 2 },
    dflt := 4 }

theorem test_wf_writeProfile : (Instr.writeProfile ops).wf = true ∧ (Instr.writeProfile { ops with index := 256 }).wf = false
    ∧ (Instr.writeProfile { ops with cls := 256 }).wf = false ∧ (Instr.writeProfile { ops with policy := 256 }).wf = false
    ∧ (Instr.writeProfile { ops with refunds := 256 }).wf = false ∧ (Instr.writeProfile { ops with risk := 65536 }).wf = false
    ∧ (Instr.writeProfile { ops with window := 256 }).wf = false ∧ (Instr.writeProfile { ops with dflt := 256 }).wf = false
    ∧ (Instr.writeProfile { ops with gateway := { ops.gateway with port := 65536 } }).wf = false := by decide

theorem test_wf_writeFieldMap : (Instr.writeFieldMap 256 0 (List.replicate 16 (0, 0))).wf = false
    ∧ (Instr.writeFieldMap 0 256 (List.replicate 16 (0, 0))).wf = false ∧ (Instr.writeFieldMap 0 0 (List.replicate 15 (0, 0))).wf = false
    ∧ (Instr.writeFieldMap 0 0 (List.replicate 16 (256, 0))).wf = false
    ∧ (Instr.writeFieldMap 0 0 (List.replicate 16 (0, 256))).wf = false := by decide

theorem test_wf_setLimits : (Instr.setLimits 256 0 0 0 0).wf = false ∧ (Instr.setLimits 0 281474976710656 0 0 0).wf = false
    ∧ (Instr.setLimits 0 0 281474976710656 0 0).wf = false ∧ (Instr.setLimits 0 0 0 256 0).wf = false
    ∧ (Instr.setLimits 0 0 0 0 281474976710656).wf = false := by decide

theorem test_wf_setLink : (Instr.setLink 256 0 0 0).wf = false ∧ (Instr.setLink 0 256 0 0).wf = false
    ∧ (Instr.setLink 0 0 256 0).wf = false ∧ (Instr.setLink 0 0 0 256).wf = false := by decide

/-- Operands of SET-STORE that fit their fields. -/
def storeOps : StoreOperands :=
  { mode := 1, window := 8, ackTimeout := 60, share := 8, policy := 2, asmTimeout := 2000, portCount := 1, ports := [9000, 0, 0, 0],
    ownIp := 0x0A000064, drainGw := { ip := 0x0A000002, port := 7000, hop := 2 }, probeGw := { ip := 0x0A000003, port := 7100, hop := 2 },
    classes := 0xFF }

theorem test_wf_setStore : (Instr.setStore storeOps).wf = true ∧ (Instr.setStore { storeOps with mode := 256 }).wf = false
    ∧ (Instr.setStore { storeOps with window := 256 }).wf = false ∧ (Instr.setStore { storeOps with ackTimeout := 256 }).wf = false
    ∧ (Instr.setStore { storeOps with share := 256 }).wf = false ∧ (Instr.setStore { storeOps with policy := 256 }).wf = false
    ∧ (Instr.setStore { storeOps with asmTimeout := 65536 }).wf = false ∧ (Instr.setStore { storeOps with portCount := 256 }).wf = false
    ∧ (Instr.setStore { storeOps with ports := [9000] }).wf = false ∧ (Instr.setStore { storeOps with ports := [65536, 0, 0, 0] }).wf = false
    ∧ (Instr.setStore { storeOps with drainGw := { ip := 0, port := 65536, hop := 0 } }).wf = false
    ∧ (Instr.setStore { storeOps with probeGw := { ip := 0, port := 65536, hop := 0 } }).wf = false := by decide

theorem test_wf_loadKey : (Instr.loadKey 256 0 1 0).wf = false ∧ (Instr.loadKey 0 4294967296 1 0).wf = false
    ∧ (Instr.loadKey 0 0 65536 0).wf = false := by decide

theorem test_wf_expiries : (Instr.replyWindowExpiry 0 4294967296).wf = false ∧ (Instr.probeDeadlineExpiry 4294967296).wf = false
    ∧ (Instr.drainTimeout 4294967296).wf = false := by decide

theorem test_wf_writeIdentity : (Instr.writeIdentity 0 1 65536 0 0).wf = false := by decide

theorem test_wf_holdingScanEnd : (Instr.holdingScanEnd false [4096] []).wf = false
    ∧ (Instr.holdingScanEnd false [] [4096]).wf = false := by decide

/-! ### Carried commands, written out from R180 -/

theorem test_decode_reads : decodeCommand 1 [] = some .readStatus ∧ decodeCommand 2 [0x7F] = some (.readTill 127)
    ∧ decodeCommand 3 [0x01, 0x3B] = some (.readCounters 1 59) ∧ decodeCommand 4 [0x80] = some (.readEvents 0x80)
    ∧ decodeCommand 5 [] = some .readDrainSummary := by decide

theorem test_decode_writes :
    decodeCommand 6 [0x21, 0x0C, 0x00, 0x00, 0x00, 0x00, 0x11, 0x04, 0x09, 0x02, 0x04] = some (.writeTill 33 0x0C0000000011 1033 2 4)
      ∧ decodeCommand 12 [0x05, 0x03, 0x04, 0x0A] = some (.setLink 5 3 4 10)
      ∧ decodeCommand 11 [0xFF, 0, 0, 0, 0, 1, 0, 0, 0, 0, 0, 0, 0, 0, 0, 0, 0, 0, 0, 0] = some (.setLimits 255 256 0 0 0)
      ∧ decodeCommand 21 [0x01] = some (.decommission 1) := by decide

theorem test_decode_format : decodeCommand 22 [] = none ∧ decodeCommand 0 [] = none ∧ decodeCommand 2 [] = none
    ∧ decodeCommand 1 [0] = none := by decide

/-! ### States the tests start from -/

/-- A sector 0 in service. -/
def ident : Identity := { serial := 9, mac := 0x020000000001, etype := 0x88B5, mgmtKey := 3, transportKey := 4, closed := true }

/-- An enabled till's binding. -/
def bound : Binding := { enabled := true, mac := 0x0C0000000011, number := 1033, profile := 0, slot := 0 }

/-- A return path. -/
def path : ReturnPath :=
  { tillMac := 0x0C0000000011, dstMac := 0x0C0000000099, vlan := none, tillIp := 1, tillPort := 4000, dstIp := 2, dstPort := 9000 }

/-- A SALE of 5.00 with a card number. -/
def sale : TillMsg :=
  { kind := .sale, number := 1033, reference := 7, items := [⟨1, [0x35, 0x30, 0x30]⟩, ⟨3, List.replicate 16 0x34⟩],
    card := some (List.replicate 16 0x34), path := path }

/-- A VOID of reference 7. -/
def void : TillMsg := { sale with kind := .void, reference := 8, items := [⟨7, [0, 0, 0, 7]⟩], card := none }

/-- A key record that passes its check for a target. -/
def goodRecord (target gen : Nat) : KeyRecord :=
  { base := 5, ksid := 1, gen := gen, checkValue := 0, integrity := integrityCode 4 target 1 gen 5, failed := false }

/-- A key record that fails its check for every target it is tried with. -/
def badRecord (target gen : Nat) : KeyRecord := { goodRecord target gen with integrity := ~~~(integrityCode 4 target 1 gen 5) }

/-- A wrap of the SALE. -/
def wrap0 : Wrap :=
  { till := 0, msg := some sale, profileIx := 0, profile := { blankProfile with gateway := { ip := 7, port := 6000, hop := 2 } },
    map := blankMap, slot := 0, counter := 0, gen := 1, ksid := 1, dataKey := none, authKey := none, fp := none, entries := [],
    wrapped := [1], place := false, inHand := none, formerTill := false }

/-- A SERVING part with one enabled till, an ACTIVE slot and an open counter entry. -/
def serving : State :=
  ({ State.reset with
      opState := .serving, startup := .over, rxOpen := true, identity := some ident
      settings := { blankSettings with store := { blankStore with policy := .lenient, ports := [9000], ownIp := 100 } }
      link := { resetLink with state := .up, physicalUp := true, settled := true } }.setTill 0 { vacantTill with binding := some bound }
    |>.setCtr 0 0 { c := 0, k := 256, raise := none, failed := false }
    |>.setSlot 0 { emptySlot with current := some (goodRecord 0 1), state := .active, floor := 1 })

/-- The SERVING part with one context in a phase. -/
def inPhase (p : Phase) (w : Wrap) : State := serving.setCtx 0 { phase := p, wrap := some w }

/-- The SERVING part that has taken a command. -/
def taking (s : State) (c : Instr) : State :=
  { s with mgmt := { s.mgmt with taken := some { cmd := c, number := 1, code := 1, src := 1, vlan := none } } }

/-- What `taking` takes. -/
def taken (c : Instr) : Taken := { cmd := c, number := 1, code := 1, src := 1, vlan := none }

/-! ### Small checks -/

/-- R146: W is rounded up: 101 × 150 / 100 is 151.5. -/
theorem test_weight : weightOf .sale 101 150 = 152 ∧ weightOf .sale 1 50 = 1 ∧ weightOf .sale 999999999999 400 = 3999999999996
    ∧ weightOf .refund 500 100 = 0 := by decide

/-- R2: the header checksum of a sample header, by hand: 4500 001C 0001 4000 4011 0000 0A00 0001 0A00 0002 sum to D931. -/
theorem test_checksum : ipChecksum [0x45, 0, 0, 0x1C, 0, 1, 0x40, 0, 0x40, 0x11, 0, 0, 0x0A, 0, 0, 1, 0x0A, 0, 0, 2] = 0x26CE := by decide

/-- R50: a raise is requested with 64 values left, and not with 65. -/
theorem test_raise_margin :
    (CounterEntry.wantsRaise { c := 192, k := 256, raise := none, failed := false }) = true
      ∧ (CounterEntry.wantsRaise { c := 191, k := 256, raise := none, failed := false }) = false
      ∧ (CounterEntry.wantsRaise { c := 1048570, k := 1048576, raise := none, failed := false }) = false := by decide

/-- R7: the first digit run of a track is the card number only when it is 12 to 19 long. -/
theorem test_card_from_track :
    cardNumber [⟨5, [0x25, 0x42] ++ List.replicate 12 0x31 ++ [0x5E] ++ List.replicate 15 0x32⟩] = some (List.replicate 12 0x31)
      ∧ cardNumber [⟨5, [0x25, 0x42] ++ List.replicate 11 0x31 ++ [0x5E] ++ List.replicate 15 0x32⟩] = none := by decide

/-- R117: with both classes eligible, N attended grants go before each kiosk grant. -/
theorem test_arbiter_after : ({ g := 2, attended := 127, kiosk := 5 } : Arbiter).after 3 127 .attended = { g := 3, attended := 0, kiosk := 5 }
    ∧ ({ g := 3, attended := 0, kiosk := 5 } : Arbiter).after 3 9 .kiosk = { g := 0, attended := 0, kiosk := 10 } := by decide

/-- R92: the blank map is safe with either default; an empty one only with REMOVE. -/
theorem test_map_safe : mapSafe blankMap .pass = true ∧ mapSafe [] .remove = true ∧ mapSafe [] .pass = false
    ∧ mapSafe [⟨3, .pass⟩, ⟨5, .remove⟩, ⟨6, .remove⟩] .remove = false := by decide

/-- R11: the nine bytes of HELD for till 1,033 and reference 7. -/
theorem test_held_payload : localReplyPayload LocalReply.held.kind 1033 7 LocalReply.held.reason = [1, 2, 4, 9, 0, 0, 0, 7, 0] := by decide

/-- A record of a message of two segments, with its first. -/
def halfRecord : AssemblyRecord :=
  { reference := 7, expected := 2, received := 1, version := 1, kind := 1, number := 1033, path := path, items := [], itemBytes := 0,
    structureGood := true, deadline := 500 }

/-- R31: the expiry of a deadline discards the record. -/
theorem test_assembly_timeout :
    (match exec (.assemblyTimeout 0) (serving.setTill 0 { vacantTill with binding := some bound, record := some halfRecord }) with
      | .next t => decide ((t.till 0).record = none ∧ t.count .assemblyTimeout = 1)
      | .fault _ => false
      | .refused _ => false) = true := by decide +kernel

/-- R141: three failures take UP to DOWN with the blank threshold of 3, and LINK-DOWN is counted once. -/
theorem test_three_failures :
    (serving.linkFailure.linkFailure.linkFailure.link.state = .down) ∧ serving.linkFailure.linkFailure.linkFailure.count .linkDown = 1
      ∧ serving.linkFailure.linkFailure.link.state = .suspect := by decide +kernel

/-- R190: WRITE-IDENTITY outside FACTORY is refused. -/
theorem test_identity_refused :
    (match exec (.writeIdentity 1 2 0x88B5 0 0) serving with
      | .next t => decide (t.factory.answers = [(.refused, .serving)])
      | .fault _ => false
      | .refused _ => false) = true := by decide +kernel

/-! ### Every statement's hypotheses can be met: machine and invariants -/

theorem test_hyp_StepTakesFrontCommand : ({ State.reset with pending := [.powerOn, .reset] }).pending = .powerOn :: [.reset] := rfl

theorem test_hyp_StepTakesFrontCommand_choices : State.reset.pending = [] ∧ (encodeCommand .readStatus).isSome = true
    ∧ ∀ t, (taking serving .startDrain).mgmt.taken = some t → t.cmd ≠ .readStatus := by
  refine ⟨rfl, by decide, ?_⟩
  intro t h
  cases h
  decide

theorem test_hyp_CommandEncodingRoundTrip : (Instr.readCounters 255 255).wf = true
    ∧ encodeCommand (.readCounters 255 255) = some (3, [0xFF, 0xFF]) ∧ decodeCommand 3 [0xFF, 0x00] = some (.readCounters 255 0) := by decide

/-- A part whose counter entries are all near the end, a raise in flight for each. -/
def nearEnd : State :=
  { State.reset with counters :=
    { blankCounters with
      entries := Vector.replicate 16 (Vector.replicate 128 { c := 1048500, k := 1048500, raise := some 1048576, failed := false }) } }

theorem test_hyp_StepKeepsCountersBounded : nearEnd.countersBounded ∧ ∃ t, step nearEnd = .next t := by
  refine ⟨⟨?_, ?_, ?_⟩, _, rfl⟩
  · intro k i
    have h : nearEnd.ctr k i = { c := 1048500, k := 1048500, raise := some 1048576, failed := false } := by simp [State.ctr, nearEnd]
    rw [h]
    refine ⟨by decide, by decide, ?_⟩
    intro t ht
    cases ht
    decide
  · intro x hx; cases hx
  · intro w hw; cases hw

/-- A part with one context in WRAPPING. -/
def busy : State := State.reset.setCtx 3 { phase := .wrapping, wrap := some { wrap0 with authKey := some 6 } }

theorem test_ctx_busy : ∀ i, (busy.ctx i = idleCtx) ∨ (i = 3 ∧ busy.ctx i = { phase := .wrapping, wrap := some { wrap0 with authKey := some 6 } }) := by
  intro i
  unfold busy
  rw [State.ctx_setCtx]
  split
  · rename_i h; exact .inr ⟨h, rfl⟩
  · exact .inl (by fin_cases i <;> rfl)

theorem test_hyp_StepKeepsFieldMapsSafe : busy.mapsSafe ∧ ∃ t, step busy = .next t := by
  refine ⟨⟨by unfold Settings.mapsSafe; decide +kernel, ?_, ?_, ?_⟩, _, rfl⟩
  · intro c hc; cases hc
  · intro c hc; cases hc
  · intro i w hw
    rcases test_ctx_busy i with h | ⟨-, h⟩
    · rw [h] at hw; cases hw
    · rw [h] at hw; cases hw; decide

theorem test_hyp_StepKeepsContextsClean : busy.ctxsClean ∧ ∃ t, step busy = .next t := by
  refine ⟨?_, _, rfl⟩
  intro i
  rcases test_ctx_busy i with h | ⟨-, h⟩
  · rw [h]; exact ⟨by simp [idleCtx], by simp [idleCtx]⟩
  · rw [h]
    refine ⟨by simp, ?_⟩
    intro w hw
    cases hw
    exact ⟨fun _ => rfl, fun _ h => absurd rfl h⟩

/-- A part whose first till has a full Pending Queue. -/
def fullQueue : State := State.reset.setTill 0 { vacantTill with queue := [sale, void] }

theorem test_hyp_StepKeepsQueuesWithinDepth : fullQueue.withinDepths ∧ ∃ t, step fullQueue = .next t := by
  refine ⟨⟨by decide +kernel, ?_, ?_, ?_, by decide +kernel⟩, _, rfl⟩
  · intro i r h
    have : ∀ i, (fullQueue.till i).record = none := by decide +kernel
    rw [this i] at h; cases h
  · intro p; cases p <;> decide +kernel
  · intro p; cases p <;> decide +kernel

/-- The head of a held record of till 5. -/
def head5 : RecordHead :=
  { seq := 1, till := 5, number := 9999, reference := 3, kind := .sale, weight := 500, fp := none, forwardedOnce := false }

/-- Its line in the index. -/
def line5 : IndexLine :=
  { slot := 4095, held := true, head := head5, draining := false, freeing := false, deadline := none, noticed := false }

/-- A part that holds one record. -/
def holdingOne : State :=
  { State.reset with
    opState := .serving, startup := .over
    holding := { formattedStore with lines := [line5], last := 1, next := 2 }
    standIn := { emptyStandIn with tillTotals := emptyStandIn.tillTotals.set 5 500, storeTotal := 500 } }

/-- A part that holds two records of one card and one of none, with the totals they make. -/
def holdingThree : State :=
  let x : Nat → Option Fingerprint → IndexLine := fun n f => { line5 with slot := n, head := { head5 with seq := n, fp := f } }
  { State.reset with
    opState := .serving, startup := .over
    holding := { formattedStore with lines := [x 1 (some ⟨7, 1⟩), x 2 none, x 3 (some ⟨7, 1⟩)], last := 3, next := 4 }
    standIn :=
      { tillTotals := emptyStandIn.tillTotals.set 5 1500, storeTotal := 1500, cards := [{ fp := ⟨7, 1⟩, count := 2, total := 1000 }] } }

theorem test_hyp_StepKeepsMoneySound : holdingThree.moneySound ∧ ∃ t, step holdingThree = .next t := by
  refine ⟨⟨⟨by decide +kernel, by decide +kernel, rfl, by decide +kernel, ?_, ?_, ?_⟩,
    by unfold State.totalsMatch; decide +kernel, by decide +kernel, by decide +kernel, ?_⟩, _, rfl⟩
  · intro o ho; exact absurd ho (by simp [holdingThree, formattedStore])
  · intro h; exact absurd rfl h
  · intro h; cases h
  · intro l hl f hf
    simp only [holdingThree, List.mem_cons, List.not_mem_nil, or_false] at hl
    rcases hl with rfl | rfl | rfl
    · exact ⟨_, List.mem_singleton.2 rfl, Option.some.inj hf⟩
    · cases hf
    · exact ⟨_, List.mem_singleton.2 rfl, Option.some.inj hf⟩

theorem test_hyp_SettleIsBounded : State.reset.noReset ∧ State.reset.calm ∧ busy.noReset
    ∧ (busy.ctx 3).phase ∈ [Phase.reserved, .derivingKeys, .wrapping, .authenticating, .deciding] ∧ (3 : CtxIx) ∉ busy.placeWait := by
  refine ⟨⟨rfl, by simp [State.reset, resetMgmt], by simp [State.reset, resetMgmt]⟩,
    ⟨rfl, rfl, by decide, rfl, .inr (.inl (by decide)), by decide +kernel⟩, ⟨rfl, by simp [busy, State.reset, resetMgmt],
    by simp [busy, State.reset, resetMgmt]⟩, by decide +kernel, by decide +kernel⟩

theorem test_hyp_EventAdvancesItsCounterAndLatch : EventCode.tamper.eventClass = some .fault ∧ State.reset.events.fault = none
    ∧ (State.reset.raise .tamper).events.fault.isSome = true ∧ EventCode.stale.eventClass ≠ some .fault
    ∧ EventCode.stale ≠ EventCode.tamper := by decide

/-! ### Resets and start-up -/

theorem test_hyp_ResetsTakeVolatileState : serving.erasing = false ∧ serving.holding.ops = [] ∧ serving.holding.format ≠ .running
    ∧ ({ serving with startup := .held }).startup = .held ∧ serving.startup ≠ .held := by decide +kernel

/-- Four sectors in service. -/
def sectors : KeyStore :=
  { sec0 := .good ident
    sec1 := .good { settings := blankSettings, bindings := (Vector.replicate 128 none).set 0 (some bound), lastNumber := 7 }
    sec2 := .good { slots := Vector.replicate 16 { current := none, staged := none, state := .empty, floor := 0 }, fp := none, fpFloor := 0 }
    sec3 := .good (Vector.replicate 16 (Vector.replicate 128 256)) }

theorem test_hyp_SectorReadsRestoreTheTables :
    ∃ c0 c1 c2 c3, ({ State.reset with store := sectors }).store = { sec0 := .good c0, sec1 := .good c1, sec2 := .good c2, sec3 := .good c3 }
      ∧ c0.closed = true ∧ State.reset.startup = .reading ∧ State.reset.opState = .starting ∧ State.reset.erasing = false
      ∧ State.reset.writer2.inFlight = none ∧ State.reset.factory.waiting = [] :=
  ⟨_, _, _, _, rfl, rfl, rfl, rfl, rfl, rfl, rfl⟩

theorem test_hyp_SectorReadsRestoreTheTables_zeroising :
    let w : Write2 := { contents := none, additions := [], zeroise := true, thenErase3 := false, void := false }
    let s : State := { State.reset with store := sectors, writer2 := { inFlight := some w, waiting := [], wanted := false, eraseWanted := false } }
    s.writer2.inFlight.isSome = true ∧ s.startup = .reading ∧ s.erasing = false ∧ s.factory.waiting = [] := ⟨rfl, rfl, rfl, rfl⟩

theorem test_hyp_BadSectorsAtStartup :
    ((State.reset.store.sec0.damage false).contents?.map (·.closed)) ≠ some true
      ∧ (((Sector.good ident).damage true).contents?.map (·.closed)) ≠ some true
      ∧ State.reset.startup = .reading ∧ State.reset.cause = false ∧ State.reset.events = noEvents
      ∧ ∃ c0 c1 c2 c3, ({ State.reset with store := sectors }).store
          = { sec0 := .good c0, sec1 := .good c1, sec2 := .good c2, sec3 := .good c3 } ∧ c0.closed = true :=
  ⟨by decide, by decide, rfl, rfl, rfl, _, _, _, _, rfl, rfl⟩

/-- R70: sectors 1 to 3 blank, failing, and damaged while good. -/
theorem test_hyp_BadSectorsAtStartup_each :
    let s : State := { State.reset with store := { sec0 := .good ident, sec1 := .blank, sec2 := .failing, sec3 := sectors.sec3 } }
    s.startup = .reading ∧ s.opState = .starting ∧ s.erasing = false ∧ s.cause = false ∧ s.factory.waiting = [] ∧ s.events = noEvents
      ∧ s.store = { sec0 := .good ident, sec1 := .blank, sec2 := .failing, sec3 := sectors.sec3 } ∧ ident.closed = true
      ∧ (s.store.sec1.damage true).contents? = none ∧ (s.store.sec2.damage false).isFailing = true
      ∧ s.store.sec3.damage true = .failing ∧ (Sector.blank : Sector Sector3).damage true = .blank :=
  ⟨rfl, rfl, rfl, rfl, rfl, rfl, rfl, rfl, rfl, rfl, rfl, rfl⟩

/-- A record as the store keeps it. -/
def record5 : HeldRecord := { head := head5, message := [1, 2, 3], checkPasses := true }

theorem test_hyp_ScanKeepsSoundRecords :
    let s : State :=
      { State.reset with
        startup := .scanning true false
        holding := { formattedStore with
          nv := [{ slot := 4095, contents := some record5, commit := some 1, headPasses := true }]
          header := { passes := true, last := 1, bad := [0] } } }
    let recs := [(4095, record5)]
    s.startup = .scanning true false ∧ s.erasing = false ∧ s.holding.header.passes = true ∧ (recs.map (·.1)).Pairwise (· < ·)
      ∧ (∀ p ∈ recs, p.2.head.seq ≤ s.holding.header.last ∧ p.1 ∉ s.holding.header.bad)
      ∧ s.holding.nv = recs.map (fun p => { slot := p.1, contents := some p.2, commit := some p.2.head.seq, headPasses := true }) := by
  decide

theorem test_hyp_StartupEndEntersServingOrLockdown :
    let s : State := { State.reset with startup := .scanning true true }
    let r : State := { s with tamperIn := true }
    s.startup = .scanning true true ∧ s.opState = .starting ∧ s.erasing = false ∧ s.tamperIn = false ∧ r.tamperIn = true
      ∧ s.cause = false := by decide +kernel

/-- R139, R189: a first probe placed at once, and one that waits behind a full queue. -/
theorem test_hyp_StartupEndEntersServingOrLockdown_probe :
    let f : TxFrame := { bytes := [], isReset := false }
    let gw : Gateway := { ip := 9, port := 7100, hop := 2 }
    let s : State := { State.reset with
      startup := .scanning true true, settings := { blankSettings with store := { blankStore with probeGw := gw } } }
    let r : State := { s with uplink := { quietPort true with priority := List.replicate 32 f } }
    s.startup = .scanning true true ∧ s.opState = .starting ∧ s.erasing = false ∧ s.link.inHand = none ∧ s.settings.store.probeGw.ip ≠ 0
      ∧ s.waitOrder = [] ∧ s.uplink.priority.length < 32 ∧ 32 ≤ r.uplink.priority.length ∧ s.count .counterLow ≤ 65535 := by
  decide +kernel

/-! ### Frames received -/

/-- A frame from its parts, with the check sequence R2 gives it. -/
def good (dst src : Mac) (etype : Nat) (payload : Bytes) : Bytes := ethFrame dst src none etype payload

/-- An IPv4/UDP payload of one segment for the payment destination port. -/
def udpTo (port : Nat) (srcIp dstIp : Ip) (srcPort : Nat) (p : Bytes) : Bytes :=
  ipHead (28 + p.length) 0 ++ [0, 0] ++ beVec 4 srcIp ++ beVec 4 dstIp ++ be 2 srcPort ++ be 2 port ++ be 2 (8 + p.length) ++ [0, 0] ++ p

theorem test_hyp_LaneFrameOutcomes_path : State.reset.rxOpen = false ∧ serving.rxOpen = true ∧ frameGood [] = false
    ∧ frameGood (List.replicate 64 0) = false ∧ frameGood (good 1 2 0x1234 []) = true ∧ (good 1 2 0x1234 []).length = 64
    ∧ (serving.port .lane).linkUp = true ∧ (serving.port .uplink).linkUp = true
    ∧ ({ serving with lane := quietPort false }.port .lane).linkUp = false := by decide +kernel

/-- R20: a port whose link is down receives nothing, however bad the frame; the other port receives. -/
theorem test_rx_link_down :
    (match exec (.rxFrame .lane []) { serving with lane := quietPort false }, exec (.rxFrame .uplink []) { serving with lane := quietPort false } with
      | .next t, .next u => decide (t.count .rxError = 0 ∧ u.count .rxError = 1)
      | _, _ => false) = true := by decide +kernel

/-- R21: one frame for each outcome of the Lane table. -/
theorem test_hyp_LaneFrameOutcomes :
    let twice := ethFrame 1 2 (some 5) 0x8100 ([0, 6, 0x12, 0x34] ++ List.replicate 46 0)
    let mgmt := good 1 2 0x88B5 []
    let own := good 0x020000000001 2 0x1234 []
    let other := good 1 2 0x1234 []
    let seg := be 1 1 ++ be 1 1 ++ be 2 1033 ++ be 4 7 ++ be 1 1 ++ be 1 2
    let pay := good 1 0x0C0000000011 0x0800 (udpTo 9000 1 2 4000 seg)
    let short := good 1 0x0C0000000011 0x0800 (udpTo 9000 1 2 4000 (seg.take 9))
    let stray := good 1 0x0C0000000012 0x0800 (udpTo 9000 1 2 4000 seg)
    let elsewhere := good 1 0x0C0000000011 0x0800 (udpTo 9001 1 2 4000 seg)
    (serving.rxOpen = true ∧ serving.lane.linkUp = true) ∧ (frameGood twice = true ∧ 2 ≤ (readEth twice).tags.length)
      ∧ (frameGood mgmt = true ∧ serving.isMgmt (readEth mgmt) = true)
      ∧ (frameGood own = true ∧ serving.isMgmt (readEth own) = false ∧ serving.toPart (readEth own) = true)
      ∧ (frameGood other = true ∧ (readEth other).etype ≠ 0x0800 ∧ serving.toPart (readEth other) = false)
      ∧ (frameGood pay = true ∧ (readEth pay).etype = 0x0800 ∧ serving.toPart (readEth pay) = false
          ∧ (readIp (readEth pay).payload).protocol = 17 ∧ (readIp (readEth pay).payload).isFragment = false
          ∧ serving.toPayment (readIp (readEth pay).payload) = true ∧ (readIp (readEth pay).payload).udpWhole = true
          ∧ serving.tillAddressed (readEth pay).src = some 0 ∧ 10 ≤ (readIp (readEth pay).payload).udpPayload.length)
      ∧ (serving.tillAddressed (readEth short).src = some 0 ∧ (readIp (readEth short).payload).udpPayload.length = 9)
      ∧ (serving.tillAddressed (readEth stray).src = none ∧ serving.toPayment (readIp (readEth stray).payload) = true)
      ∧ (serving.toPayment (readIp (readEth elsewhere).payload) = false) := by decide +kernel

/-- R3, R21: a fragment, and an IPv4 frame for the payment port that is not UDP. -/
theorem test_hyp_LaneFrameOutcomes_ip :
    let piece := good 1 2 0x0800 ([0x45, 0, 0, 28, 0, 0, 0x20, 0, 64, 17, 0, 0] ++ List.replicate 16 0)
    let tcp := good 1 2 0x0800 ([0x45, 0, 0, 28, 0, 0, 0, 0, 64, 6, 0, 0] ++ List.replicate 8 0 ++ [0, 1, 0x23, 0x28, 0, 8, 0, 0])
    (frameGood piece = true ∧ (readIp (readEth piece).payload).protocol = 17 ∧ (readIp (readEth piece).payload).isFragment = true)
      ∧ (frameGood tcp = true ∧ (readIp (readEth tcp).payload).protocol ≠ 17 ∧ serving.toPayment (readIp (readEth tcp).payload) = true) := by
  decide +kernel

theorem test_hyp_BridgedFrameJoinsTheTail :
    let f : TxFrame := { bytes := [], isReset := false }
    (State.reset.port .uplink).bridge.length < 64 ∧ (State.reset.port .uplink).linkUp = true ∧ Port.uplink ≠ Port.lane
      ∧ ({ State.reset with uplink := { quietPort true with bridge := List.replicate 63 f } }.port .uplink).bridge.length < 64
      ∧ 64 ≤ ({ State.reset with uplink := { quietPort true with bridge := List.replicate 64 f } }.port .uplink).bridge.length
      ∧ ({ State.reset with uplink := quietPort false }.port .uplink).linkUp = false := by decide +kernel

/-- R28 to R30: a segment 1 of two, of one, and of five; the second of two; and one of another reference. -/
theorem test_hyp_SegmentOpensFillsOrBreaksRecord :
    let seg : Nat → Nat → Nat → Bytes := fun index count reference =>
      be 1 1 ++ be 1 1 ++ be 2 1033 ++ be 4 reference ++ be 1 index ++ be 1 count
    let r := halfRecord
    (serving.till 0).record = none
      ∧ (field (seg 1 2 7) 8 1 = 1 ∧ field (seg 1 2 7) 9 1 = 2) ∧ (field (seg 1 4 7) 9 1 = 4)
      ∧ (field (seg 1 1 7) 8 1 = 1 ∧ field (seg 1 1 7) 9 1 = 1)
      ∧ ¬ (1 ≤ field (seg 1 5 7) 9 1 ∧ field (seg 1 5 7) 9 1 ≤ 4) ∧ field (seg 2 2 7) 8 1 ≠ 1
      ∧ (field (seg 2 2 7) 8 1 = r.received + 1 ∧ field (seg 2 2 7) 9 1 = r.expected ∧ field (seg 2 2 7) 4 4 = r.reference
          ∧ field (seg 2 2 7) 8 1 = r.expected)
      ∧ (field (seg 2 3 7) 8 1 ≠ ({ r with expected := 3 } : AssemblyRecord).expected ∧ field (seg 2 3 7) 9 1 = 3)
      ∧ field (seg 2 2 8) 4 4 ≠ r.reference
      ∧ ((serving.setTill 0 { vacantTill with record := some r }).till 0).record = some r := by decide +kernel

/-- R6: a record of one sale, and records at and above 1,280 item bytes. -/
theorem test_hyp_MessageFormIsChecked :
    let r : AssemblyRecord :=
      { halfRecord with expected := 1, items := [1, 1, 0x35, 3, 12] ++ List.replicate 12 0x34, itemBytes := 17 }
    let long : AssemblyRecord := { r with itemBytes := 1281 }
    (match r.message with | .inl _ => none | .inr m => some m.number) = some 1033
      ∧ (match long.message with | .inl x => some x | .inr _ => none) = some .tooLong
      ∧ (match ({ long with itemBytes := 1280, structureGood := false } : AssemblyRecord).message with
          | .inl x => some x | .inr _ => none) = some .malformed := by decide

/-- R7: the clauses' item lists, with runs of 11, 12, 19 and 20 digits. -/
theorem test_hyp_CardNumberComesFromItemOrTrack :
    let track : Nat → List Item := fun n => [⟨5, [0x25] ++ List.replicate n 0x31 ++ [0x5E]⟩]
    itemValue [⟨3, [0x31]⟩] 3 = some [0x31] ∧ itemValue ([] : List Item) 3 = none ∧ itemValue ([] : List Item) 5 = none
      ∧ itemValue (track 12) 3 = none ∧ itemValue (track 12) 5 = some ([0x25] ++ List.replicate 12 0x31 ++ [0x5E])
      ∧ isDigit 0x25 = false ∧ isDigit 0x31 = true ∧ isDigit 0x5E = false ∧ isDigit 0x30 = true ∧ isDigit 0x39 = true
      ∧ isDigit 0x2F = false ∧ isDigit 0x3A = false
      ∧ (cardNumber (track 11)).isSome = false ∧ (cardNumber (track 12)).isSome = true ∧ (cardNumber (track 19)).isSome = true
      ∧ (cardNumber (track 20)).isSome = false := by decide

/-- The SERVING part with its till's entry, slot and binding changed. -/
def barred (enabled : Bool) (c : Nat) (failed : Bool) (state : SlotState) : State :=
  ((serving.setTill 0 { vacantTill with binding := some { bound with enabled := enabled } }).setCtr 0 0
    { c := c, k := 1048576, raise := none, failed := failed }).setSlot 0 { emptySlot with state := state }

theorem test_hyp_CompletionChecksThenAdmission :
    let r : AssemblyRecord :=
      { halfRecord with expected := 1, items := [1, 1, 0x35, 3, 12] ++ List.replicate 12 0x34, itemBytes := 17 }
    let made := fun (r : AssemblyRecord) => match r.message with | .inl _ => false | .inr m => decide (m.number = 1033)
    State.reset.opState ≠ .serving ∧ serving.opState = .serving ∧ made r = true ∧ made { r with version := 2 } = false
      ∧ (∀ b, (serving.till 0).binding = some b → b.number = 1033) ∧ (serving.till 1).binding = none
      ∧ ((barred false 0 false .active).till 0).binding = some { bound with enabled := false }
      ∧ ((barred true 1048576 false .active).ctr 0 0).c = 1048576 ∧ ((barred true 1048575 true .active).ctr 0 0).failed = true
      ∧ ((barred true 0 false .empty).slot 0).state = .empty ∧ ((barred true 0 false .faulted).slot 0).state = .faulted
      ∧ ((barred true 0 false .active).slot 0).state = .active := by
  refine ⟨by decide, rfl, by decide, by decide, ?_, by decide +kernel, by decide +kernel, by decide +kernel, by decide +kernel,
    by decide +kernel, by decide +kernel, by decide +kernel⟩
  intro b hb
  have : (serving.till 0).binding = some bound := by decide +kernel
  rw [this] at hb; cases hb; rfl

/-- R110, R111: a pair in the queue, in a context, in the Outstanding List, held, and nowhere, with a queue of 1 and of 2. -/
theorem test_hyp_CompletionChecksThenAdmission_admission :
    let queued := serving.setTill 0 { vacantTill with queue := [sale] }
    let full := serving.setTill 0 { vacantTill with queue := [void, void] }
    (∃ x ∈ (queued.till 0).queue, x.reference = 7)
      ∧ (∃ w x, ((inPhase .wrapping wrap0).ctx 0).wrap = some w ∧ w.till = 0 ∧ w.msg = some x ∧ x.reference = 7)
      ∧ ((holdingOne.holding.findPair 5 3).isSome = true ∧ (holdingOne.till 5).queue = [] ∧ holdingOne.outstanding = []
          ∧ ∀ c, ((holdingOne.ctx c).wrap).isSome = false)
      ∧ (2 ≤ (full.till 0).queue.length ∧ full.holding.findPair 0 7 = none ∧ ∀ x ∈ (full.till 0).queue, x.reference ≠ 7)
      ∧ ((queued.till 0).queue.length < 2 ∧ ∀ x ∈ (queued.till 0).queue, x.reference ≠ 9) := by
  refine ⟨⟨sale, by decide +kernel⟩, ⟨wrap0, sale, by simp [inPhase], rfl, rfl, rfl⟩, by decide +kernel, by decide +kernel, by decide +kernel⟩

theorem test_hyp_LocalReplyIsCountedAndPlaced :
    let f : TxFrame := { bytes := [], isReset := false }
    serving.lane.priority.length < 32 ∧ serving.lane.linkUp = true
      ∧ ({ serving with lane := { quietPort true with priority := List.replicate 31 f } }).lane.priority.length < 32
      ∧ 32 ≤ ({ serving with lane := { quietPort true with priority := List.replicate 32 f } }).lane.priority.length := by
  decide +kernel

/-- The SERVING part with three gateways at one address and port, and one more for drain records alone. -/
def gated : State :=
  { serving with settings := { serving.settings with
      profiles := serving.settings.profiles.set 0 { blankProfile with gateway := { ip := 7, port := 6000, hop := 2 } }
      store := { serving.settings.store with
        drainGw := { ip := 7, port := 6000, hop := 2 }, probeGw := { ip := 7, port := 6000, hop := 2 } } } }

theorem test_hyp_UplinkFrameOutcomes :
    let twice := ethFrame 1 2 (some 5) 0x8100 ([0, 6, 0x12, 0x34] ++ List.replicate 46 0)
    let mgmt := good 0x020000000001 2 0x88B5 []
    let others := good 1 2 0x88B5 []
    let ask := good 1 2 0x0806 ([0, 1, 8, 0, 6, 4, 0, 1] ++ List.replicate 16 0 ++ [0, 0, 0, 100])
    let piece := good 1 2 0x0800 ([0x45, 0, 0, 28, 0, 0, 0x20, 0, 64, 17, 0, 0, 0, 0, 0, 7] ++ List.replicate 12 0)
    let from_ : Nat → Bytes := fun n => good 0x020000000001 2 0x0800 (udpTo 1 7 100 6000 (List.replicate n 0))
    let own := good 0x020000000001 2 0x1234 []
    let other := good 1 2 0x1234 []
    (gated.rxOpen = true ∧ gated.uplink.linkUp = true) ∧ (frameGood twice = true ∧ 2 ≤ (readEth twice).tags.length)
      ∧ (frameGood mgmt = true ∧ gated.isMgmt (readEth mgmt) = true ∧ gated.toPart (readEth mgmt) = true ∧ gated.mgmt.arrivals.length < 4)
      ∧ (gated.isMgmt (readEth others) = true ∧ gated.toPart (readEth others) = false)
      ∧ 4 ≤ ({ gated with mgmt := { gated.mgmt with arrivals := List.replicate 4 [] } }).mgmt.arrivals.length
      ∧ (frameGood ask = true ∧ gated.isMgmt (readEth ask) = false ∧ gated.asksForPart (readEth ask) = true)
      ∧ (frameGood piece = true ∧ gated.asksForPart (readEth piece) = false ∧ (readEth piece).isIp = true
          ∧ (readIp (readEth piece).payload).isUdp = true ∧ (readIp (readEth piece).payload).isFragment = true
          ∧ gated.gatewayIp (readIp (readEth piece).payload).src = true)
      ∧ (gated.gatewayTraffic (readEth (from_ 17)) (readIp (readEth (from_ 17)).payload) = some .acquirer)
      ∧ (gated.gatewayTraffic (readEth (from_ 13)) (readIp (readEth (from_ 13)).payload) = some .drain)
      ∧ (gated.gatewayTraffic (readEth (from_ 14)) (readIp (readEth (from_ 14)).payload) = some .probe)
      ∧ (gated.gatewayTraffic (readEth own) (readIp (readEth own).payload) = none ∧ gated.toPart (readEth own) = true)
      ∧ (gated.gatewayTraffic (readEth other) (readIp (readEth other).payload) = none ∧ gated.toPart (readEth other) = false) := by
  decide +kernel

/-- R24: sources that are no gateway's, one kind's, and three kinds'. -/
theorem test_hyp_UplinkFrameOutcomes_consumer :
    let lone : State := { gated with settings := { gated.settings with store := { gated.settings.store with
      drainGw := { ip := 8, port := 6001, hop := 2 }, probeGw := { ip := 9, port := 6002, hop := 2 } } } }
    let both : State := { lone with settings := { lone.settings with store := { lone.settings.store with
      probeGw := { ip := 8, port := 6001, hop := 2 } } } }
    (gated.matchesKind .acquirer 7 6000 = true ∧ gated.matchesKind .drain 7 6000 = true ∧ gated.matchesKind .probe 7 6000 = true)
      ∧ (lone.matchesKind .acquirer 7 6000 = true ∧ lone.matchesKind .drain 7 6000 = false ∧ lone.matchesKind .probe 7 6000 = false)
      ∧ (lone.matchesKind .drain 8 6001 = true ∧ lone.matchesKind .acquirer 8 6001 = false ∧ lone.matchesKind .probe 8 6001 = false)
      ∧ (lone.matchesKind .probe 9 6002 = true ∧ lone.matchesKind .drain 9 6002 = false)
      ∧ (both.matchesKind .acquirer 8 6001 = false ∧ both.matchesKind .drain 8 6001 = true ∧ both.matchesKind .probe 8 6001 = true)
      ∧ (lone.matchesKind .acquirer 7 6001 = false ∧ lone.matchesKind .drain 7 6001 = false ∧ lone.matchesKind .probe 7 6001 = false) := by
  decide +kernel

/-- R24, R25: a datagram meant for the part, and one that is not; an address request for the part, with the responder free, waiting, and the
queue full. -/
theorem test_hyp_UplinkFrameOutcomes_meant :
    let f : TxFrame := { bytes := [], isReset := false }
    let e := readEth (good 0x020000000001 2 0x0800 (udpTo 1 7 100 6000 [0]))
    let ask := readEth (good 1 2 0x0806 ([0, 1, 8, 0, 6, 4, 0, 1] ++ List.replicate 16 0 ++ [0, 0, 0, 100]))
    let full : State := { gated with uplink := { quietPort true with priority := List.replicate 32 f } }
    let waits : State := { full with waitOrder := [(.responder, f)] }
    (e.etype = 0x0800 ∧ (readIp e.payload).protocol = 17 ∧ (readIp e.payload).isFragment = false
        ∧ gated.identity.map (·.mac) = some e.dst ∧ (readIp e.payload).dst = gated.settings.store.ownIp)
      ∧ gated.identity.map (·.mac) ≠ some ask.dst ∧ gated.asksForPart ask = true ∧ gated.uplinkOpen
      ∧ (32 ≤ full.uplink.priority.length ∧ ∀ x ∈ full.waitOrder, x.1 ≠ .responder) ∧ ∃ x ∈ waits.waitOrder, x.1 = .responder := by
  refine ⟨by decide +kernel, by decide +kernel, by decide +kernel, ⟨rfl, by decide, rfl⟩, ⟨by decide, ?_⟩, _, List.mem_singleton.2 rfl, rfl⟩
  intro x hx
  exact absurd hx List.not_mem_nil

/-- An Outstanding entry of the SALE. -/
def entry0 : OutEntry :=
  { till := 0, number := 1033, path := path, kind := .sale, reference := 7, profileIx := 0, slot := 0, gen := 1, counter := 0,
    amount := some 500, fp := none, copy := some [1, 2], deadline := 15000 }

/-- The SERVING part with the entry. -/
def awaiting : State := { serving with outstanding := [entry0] }

/-- The bytes of a reply to it before its code. -/
def replyHead : Bytes := be 1 1 ++ be 1 1 ++ be 2 1033 ++ be 4 7 ++ be 1 0

theorem test_record_passes (s : State) (h : s.transportKey = 4) (n g : Nat) : s.checkRecord n (goodRecord n g) = .passes := by
  simp [State.checkRecord, State.recordIntact, goodRecord, h]

theorem test_record_fails (s : State) (h : s.transportKey = 4) (n g : Nat) : s.checkRecord n (badRecord n g) = .fails := by
  have hx : ∀ x : Code, (x == ~~~x) = false := by
    intro x
    rw [beq_eq_false_iff_ne]
    intro e
    have := congrArg (fun y : Code => y.getLsbD 0) e
    simp at this
  simp [State.checkRecord, State.recordIntact, badRecord, goodRecord, h, hx]

theorem test_record_marked (s : State) (n : Nat) (r : KeyRecord) : s.checkRecord n { r with failed := true } = .marked := by
  simp [State.checkRecord]

theorem test_hyp_RepliesAreProvenBeforeForwarding :
    let r := goodRecord 0 1
    let p := replyHead ++ beVec 8 (authCode (deriveKey 3 r 0 0) replyHead)
    let q := replyHead ++ beVec 8 (~~~(authCode (deriveKey 3 r 0 0) replyHead))
    isAcquirerReply p = true ∧ isAcquirerReply (p.take 16) = false
      ∧ awaiting.matchReply (field p 2 2) (field p 4 4) = some entry0
      ∧ serving.matchReply (field p 2 2) (field p 4 4) = none ∧ (awaiting.slot entry0.slot).recordOf entry0.gen = some r
      ∧ awaiting.checkRecord entry0.slot.val r = .passes
      ∧ authCode (deriveKey 3 r entry0.till entry0.counter) (p.take (p.length - 8)) = codeOf p
      ∧ authCode (deriveKey 3 r entry0.till entry0.counter) (q.take (q.length - 8)) ≠ codeOf q
      ∧ awaiting.placeWait = [] ∧ awaiting.laneOpen := by
  intro r p q
  have hp : p.take (p.length - 8) = replyHead := withoutCode_append _ _
  have hq : q.take (q.length - 8) = replyHead := withoutCode_append _ _
  refine ⟨rfl, rfl, by rfl, by rfl, by rfl, test_record_passes _ rfl 0 1, ?_, ?_, rfl, by decide, rfl⟩
  · rw [hp]; exact (codeOf_append _ _).symm
  · rw [hq, codeOf_append]
    intro e
    have := congrArg (fun y : Code => y.getLsbD 0) e
    simp [entry0] at this

/-- R65, R83, R84, R125: a reply whose record is marked, fails now, or is gone; and one that leaves its slot's previous record unneeded. -/
theorem test_hyp_RepliesAreProvenBeforeForwarding_records :
    let s : KeyRecord → State := fun r => awaiting.setSlot 0 { emptySlot with previous := some r, state := .active, floor := 2 }
    let p := replyHead ++ List.replicate 8 0
    isAcquirerReply p = true ∧ (s (badRecord 0 1)).matchReply (field p 2 2) (field p 4 4) = some entry0
      ∧ ((s (badRecord 0 1)).slot entry0.slot).recordOf entry0.gen = some (badRecord 0 1)
      ∧ (s (badRecord 0 1)).checkRecord entry0.slot.val (badRecord 0 1) = .fails
      ∧ (s { goodRecord 0 1 with failed := true }).checkRecord entry0.slot.val { goodRecord 0 1 with failed := true } = .marked
      ∧ ((s (goodRecord 0 2)).slot entry0.slot).recordOf entry0.gen = none
      ∧ (((s (goodRecord 0 1)).slot entry0.slot).recordOf entry0.gen = some (goodRecord 0 1)
          ∧ (s (goodRecord 0 1)).checkRecord entry0.slot.val (goodRecord 0 1) = .passes
          ∧ ((s (goodRecord 0 1)).slot entry0.slot).previous = some (goodRecord 0 1) ∧ (goodRecord 0 1).gen = entry0.gen)
      ∧ (s (badRecord 0 1)).settings.store.policy = .lenient ∧ (s (badRecord 0 1)).opState = .serving
      ∧ (s (badRecord 0 1)).events.fault = none := by
  intro s p
  exact ⟨rfl, by rfl, by rfl, test_record_fails _ rfl 0 1, test_record_marked _ _ _, by rfl, ⟨by rfl, test_record_passes _ rfl 0 1, by rfl, rfl⟩,
    rfl, rfl, rfl⟩

/-- R123: two entries of one number and reference, of the till that now holds the number and of another. -/
theorem test_hyp_RepliesAreProvenBeforeForwarding_match :
    let old : OutEntry := { entry0 with till := 5, counter := 3 }
    let s : State := { serving with outstanding := [old, entry0] }
    let t : State := { serving with outstanding := [old, { old with counter := 4 }] }
    (s.outstanding.filter (fun e => e.number == 1033 && e.reference == 7) = [old] ++ entry0 :: [] ∧ entry0.till = 0 ∧ old.till ≠ 0
        ∧ (s.till 0).binding = some bound ∧ bound.number = 1033 ∧ ∀ i, i ≠ 0 → (s.till i).binding = none)
      ∧ s.matchReply 1033 7 = some entry0 ∧ t.matchReply 1033 7 = some old ∧ s.matchReply 1033 8 = none := by decide +kernel

/-- The SERVING part with a record HELD, DRAINING and placed, and the drain RUNNING. -/
def draining (deadline : Option Nat) : State :=
  { serving with
    holding := { formattedStore with lines := [{ line5 with draining := true, deadline := deadline }], last := 1, next := 2 }
    drain := { resetDrain with state := .running, cursor := 1 } }

theorem test_hyp_AcknowledgementAsksForTheFree :
    let p := (be 1 1 ++ be 4 1) ++ beVec 8 (authCode serving.mgmtKey (be 1 1 ++ be 4 1))
    let q := (be 1 1 ++ be 4 1) ++ beVec 8 (~~~(authCode serving.mgmtKey (be 1 1 ++ be 4 1)))
    p.length = 13 ∧ field p 0 1 = 1 ∧ authCode serving.mgmtKey (p.take 5) = codeOf p
      ∧ authCode serving.mgmtKey (q.take 5) ≠ codeOf q
      ∧ serving.holding.findSeq (field p 1 4) = none
      ∧ (draining (some 9)).holding.findSeq (field p 1 4) = some { line5 with draining := true, deadline := some 9 }
      ∧ (draining none).holding.findSeq (field p 1 4) = some { line5 with draining := true, deadline := none } := by
  intro p q
  refine ⟨rfl, rfl, ?_, ?_, rfl, rfl, rfl⟩
  · have : p.take 5 = be 1 1 ++ be 4 1 := rfl
    rw [this]; exact (codeOf_append _ _).symm
  · have : q.take 5 = be 1 1 ++ be 4 1 := rfl
    rw [this, codeOf_append]
    intro e
    have := congrArg (fun y : Code => y.getLsbD 0) e
    simp at this

/-! ### The ports -/

theorem test_hyp_TransmissionTakesTheHeadAndFreesThePort :
    let f : TxFrame := { bytes := [1], isReset := false }
    let g : TxFrame := { bytes := [2], isReset := false }
    let up : PortState → State := fun x => { serving with uplink := x }
    ((up { quietPort true with priority := [f, g] }).uplink.priority = f :: [g] ∧ serving.waitOrder = [] ∧ serving.uplink.sending = none)
      ∧ (({ up { quietPort true with priority := f :: List.replicate 31 g } with waitOrder := [(.drain, g)] } : State).waitOrder
            = (.drain, g) :: [] ∧ (List.replicate 31 g).length = 31)
      ∧ ((up { quietPort true with bridge := [f] }).port .uplink).priority = []
      ∧ ((up { quietPort true with bridge := [f] }).port .uplink).bridge = f :: []
      ∧ ({ serving with lane := { quietPort true with priority := [f] } }).lane.priority = f :: []
      ∧ (((up { quietPort true with sending := some f }).port .uplink).sending.isSome = true)
      ∧ ((up (quietPort false)).port .uplink).linkUp = false := by decide +kernel

theorem test_hyp_TransmissionTakesTheHeadAndFreesThePort_end :
    let s : Bool → State := fun b => { serving with uplink := { quietPort true with sending := some { bytes := [1], isReset := b } } }
    ((s true).port .uplink).sending = some { bytes := [1], isReset := true }
      ∧ ((s false).port .uplink).sending = some { bytes := [1], isReset := false } ∧ (serving.port .uplink).sending = none
      ∧ (s true).erasing = false := by decide +kernel

theorem test_hyp_LinkLossDiscardsAndRestorationRecovers :
    serving.lane.linkUp = true ∧ serving.uplink.linkUp = true ∧ serving.opState = .serving ∧ serving.waitOrder = []
      ∧ serving.count .linkDiscard ≤ 65535 ∧ serving.link.state = .up
      ∧ ({ serving with uplink := quietPort false, link := resetLink }).uplink.linkUp = false
      ∧ ({ serving with uplink := quietPort false, link := resetLink }).link.state = .down
      ∧ ({ serving with lane := quietPort false }).lane.linkUp = false := by decide +kernel

theorem test_hyp_LinkLossDiscardsAndRestorationRecovers_more :
    let f : TxFrame := { bytes := [1], isReset := false }
    let s : State := { (inPhase .emitting wrap0) with waitOrder := [(.ctx 0, f)] }
    let down : State := { serving with uplink := quietPort false }
    (s.uplink.linkUp = true ∧ (.ctx 0, f) ∈ s.waitOrder ∧ (s.ctx 0).wrap = some wrap0 ∧ wrap0.msg = some sale)
      ∧ (State.reset.uplink.linkUp = true ∧ State.reset.opState = .starting)
      ∧ ({ State.reset with uplink := quietPort false }).uplink.linkUp = false
      ∧ (Port.uplink ≠ Port.lane ∧ (down.port .uplink).bridge.length < 64 ∧ (down.port .uplink).linkUp = false)
      ∧ (serving.port .lane).linkUp = true := by
  refine ⟨⟨rfl, List.mem_singleton.2 rfl, rfl, rfl⟩, ⟨rfl, rfl⟩, rfl, ⟨by decide, by decide, rfl⟩, rfl⟩

theorem test_hyp_AssemblyTimeoutDiscardsTheRecord :
    (((serving.setTill 0 { vacantTill with record := some halfRecord }).till 0).record.isSome = true)
      ∧ (serving.till 0).record = none ∧ field [1, 1, 0, 1, 0, 0, 0, 7, 2, 2] 8 1 ≠ 1
      ∧ (field [1, 1, 0, 1, 0, 0, 0, 7, 1, 1] 8 1 = 1 ∧ field [1, 1, 0, 1, 0, 0, 0, 7, 1, 1] 9 1 = 1) := by decide +kernel

/-! ### Keys, wrapping and routing -/

theorem test_hyp_DerivationBlocksNeverRepeat : (3 : Nat) < 256 ∧ (65535 : Nat) < 65536 ∧ (1048575 : Nat) < 4294967296
    ∧ (goodRecord 0 1).gen < 65536 ∧ (goodRecord 0 1).ksid < 4294967296
    ∧ ∃ p i c, deriveKey p (goodRecord 0 1) i c = deriveKey 3 (goodRecord 0 1) 127 1048575 :=
  ⟨by decide, by decide, by decide, by decide, by decide, 3, 127, 1048575, rfl⟩

theorem test_hyp_SafeMapsNeverSendCardDataClear :
    mapSafe [⟨3, .remove⟩, ⟨5, .remove⟩, ⟨6, .remove⟩, ⟨1, .pass⟩] .remove = true
      ∧ (∀ x ∈ ([⟨1, [0x35]⟩, ⟨3, [0x34]⟩, ⟨254, [1]⟩] : List Item), x.tag < 256)
      ∧ buildEntries 5 [⟨3, .remove⟩, ⟨5, .remove⟩, ⟨6, .remove⟩, ⟨1, .pass⟩] .remove [] 0 37
          [⟨1, [0x35]⟩, ⟨3, [0x34]⟩, ⟨254, [1]⟩] = some [[1, 1, 1, 0x35]] := by decide

/-- The SERVING part with a fingerprint key. -/
def withFp (s : State) (r : KeyRecord) : State := { s with keys := { s.keys with fp := some r } }

theorem test_hyp_DerivingTakesKeysOrFaults :
    let s := inPhase .reserved wrap0
    let t := withFp s (goodRecord 255 1)
    let u := withFp s (badRecord 255 1)
    let slotOf : KeyRecord → State := fun r => s.setSlot 0 { emptySlot with current := some r, state := .active, floor := 1 }
    (serving.ctx 0).phase ≠ .reserved ∧ s.ctx 0 = { phase := .reserved, wrap := some wrap0 } ∧ wrap0.msg = some sale
      ∧ (s.slot wrap0.slot).current = some (goodRecord 0 1) ∧ s.checkRecord wrap0.slot.val (goodRecord 0 1) = .passes
      ∧ s.usableFp = none ∧ sale.card = some (List.replicate 16 0x34)
      ∧ (t.usableFp = some (goodRecord 255 1) ∧ t.recordIntact 255 (goodRecord 255 1) = true)
      ∧ (u.usableFp = some (badRecord 255 1) ∧ u.recordIntact 255 (badRecord 255 1) = false ∧ u.settings.store.policy = .lenient)
      ∧ (slotOf { goodRecord 0 1 with failed := true }).checkRecord 0 { goodRecord 0 1 with failed := true } = .marked
      ∧ (slotOf (badRecord 0 1)).checkRecord 0 (badRecord 0 1) = .fails
      ∧ ((slotOf (badRecord 0 1)).slot 0).current = some (badRecord 0 1)
      ∧ ((slotOf (badRecord 0 1)).settings.store.policy = .lenient ∧ (slotOf (badRecord 0 1)).laneOpen
          ∧ (slotOf (badRecord 0 1)).erasing = false ∧ (slotOf (badRecord 0 1)).events.fault = none
          ∧ ∀ j, ((slotOf (badRecord 0 1)).till j).queue = []) := by
  intro s t u slotOf
  have hu : u.recordIntact 255 (badRecord 255 1) = false := by
    have := test_record_fails u rfl 255 1
    unfold State.checkRecord at this
    revert this
    cases u.recordIntact 255 (badRecord 255 1) <;> simp [badRecord, goodRecord]
  have ht : t.recordIntact 255 (goodRecord 255 1) = true := by
    have := test_record_passes t rfl 255 1
    unfold State.checkRecord at this
    revert this
    cases t.recordIntact 255 (goodRecord 255 1) <;> simp [goodRecord]
  exact ⟨by decide +kernel, rfl, rfl, rfl, test_record_passes s rfl 0 1, rfl, rfl, ⟨rfl, ht⟩, ⟨rfl, hu, rfl⟩, test_record_marked _ _ _,
    test_record_fails _ rfl 0 1, rfl, rfl, ⟨by decide, rfl⟩, by decide +kernel, rfl, by decide +kernel⟩

/-- R83, R95: a record that fails its check now, under LENIENT: the slot is FAULTED and the message is answered REFUSED / KEY-FAULT. -/
theorem test_deriving_fails :
    let s := (inPhase .reserved wrap0).setSlot 0 { emptySlot with current := some (badRecord 0 1), state := .active, floor := 1 }
    let u := s.deriveFails 0 wrap0 sale (badRecord 0 1)
    s.checkRecord wrap0.slot.val (badRecord 0 1) = .fails ∧ (u.slot 0).state = .faulted ∧ (u.ctx 0).phase = .idle
      ∧ u.lane.priority.map (·.bytes) = [replyFrame path 0 [1, 5, 4, 9, 0, 0, 0, 7, 23]] ∧ (u.till 0).refused = 1 := by
  refine ⟨test_record_fails _ rfl 0 1, ?_⟩
  decide +kernel

/-- A state under STRICT. -/
def strictly (s : State) : State :=
  { s with settings := { s.settings with store := { s.settings.store with policy := .strict } } }

theorem test_hyp_DerivingTakesKeysOrFaults_strict :
    let u := strictly (withFp (inPhase .reserved wrap0) (badRecord 255 1))
    u.ctx 0 = { phase := .reserved, wrap := some wrap0 } ∧ (u.slot wrap0.slot).current = some (goodRecord 0 1)
      ∧ u.checkRecord wrap0.slot.val (goodRecord 0 1) = .passes ∧ u.usableFp = some (badRecord 255 1)
      ∧ u.recordIntact 255 (badRecord 255 1) = false ∧ u.settings.store.policy = .strict ∧ u.opState = .serving
      ∧ u.events.fault = none := by
  intro u
  have hu : u.recordIntact 255 (badRecord 255 1) = false := by
    have := test_record_fails u rfl 255 1
    unfold State.checkRecord at this
    revert this
    cases u.recordIntact 255 (badRecord 255 1) <;> simp [badRecord, goodRecord]
  exact ⟨rfl, rfl, test_record_passes u rfl 0 1, rfl, hu, rfl, rfl, rfl⟩

/-- A wrap whose five items of 255 bytes and one of 90 fill a wrapped message to 1,420 bytes, and one byte more. -/
def widest (n : Nat) : Wrap :=
  { wrap0 with
    map := [⟨30, .pass⟩, ⟨3, .remove⟩, ⟨5, .remove⟩, ⟨6, .remove⟩], dataKey := some 5
    msg := some { sale with items := List.replicate 5 ⟨30, List.replicate 255 1⟩ ++ [⟨30, List.replicate n 1⟩] } }

theorem test_hyp_WrappedMessageIsBuiltAndSealed :
    let sizeOf_ : Wrap → Option Nat := fun w => w.msg.map (fun m => 37 + ((m.items.zipIdx.flatMap (fun x =>
      itemEntries 5 (treatmentFor w.map w.profile.dflt x.1.tag) x.2 x.1 (m.card.getD []))).map List.length).sum)
    (inPhase .derivingKeys (widest 90)).ctx 0 = { phase := .derivingKeys, wrap := some (widest 90) }
      ∧ (widest 90).dataKey = some 5 ∧ sizeOf_ (widest 90) = some 1420 ∧ sizeOf_ (widest 91) = some 1421
      ∧ (inPhase .wrapping { wrap0 with authKey := some 6 }).ctx 0 = { phase := .wrapping, wrap := some { wrap0 with authKey := some 6 } }
      ∧ (serving.ctx 0).phase ≠ .derivingKeys ∧ (serving.ctx 0).phase ≠ .wrapping := by
  refine ⟨rfl, rfl, by decide +kernel, by decide +kernel, rfl, by decide +kernel, by decide +kernel⟩

/-- The SERVING part with profile 0 able to stand in. -/
def standing (s : State) : State :=
  { s with settings := { s.settings with
      storeLimit := 100000
      profiles := s.settings.profiles.set 0 { blankProfile with policy := .alsoOnTimeout, refundsAllowed := true, l1 := 50000, lt := 50000 } } }

/-- A REFUND wrap: stood in without card checks. -/
def refundWrap (p : StandInPolicy) (allowed : Bool) : Wrap :=
  { wrap0 with
    msg := some { sale with kind := .refund }
    profile := { blankProfile with policy := p, refundsAllowed := allowed } }

theorem test_hyp_DecidingRoutesTheMessage :
    let s := inPhase .authenticating wrap0
    let t := standing (inPhase .authenticating (refundWrap .alsoOnTimeout true))
    let r : StandInRequest := { kind := .refund, amount := 500, risk := 100, till := 0, profileIx := 0, fp := none }
    let held : RecordHead → State := fun h =>
      { serving with holding := { formattedStore with lines := [{ line5 with head := { h with till := 0, reference := 7 } }] } }
    (serving.ctx 0).phase ≠ .authenticating ∧ s.ctx 0 = { phase := .authenticating, wrap := some wrap0 }
      ∧ sale.kind ≠ .void ∧ void.kind = .void ∧ originalReference void.items = some 7
      ∧ (s.lookupVoid 0 sale = .open_ ∧ wrap0.profile.gateway.ip ≠ 0 ∧ s.link.state = .up ∧ s.placeWait = [] ∧ s.usedPlaces < 256
          ∧ s.uplinkOpen ∧ wrap0.formerTill = false)
      ∧ ((refundWrap .never true).profile.gateway.ip = 0 ∧ (refundWrap .never true).profile.policy = .never)
      ∧ ((refundWrap .linkDownOnly false).profile.refundsAllowed = false ∧ (refundWrap .linkDownOnly false).profile.policy ≠ .never)
      ∧ ((inPhase .authenticating (refundWrap .alsoOnTimeout true)).standInOutcome { r with kind := .sale } = .inl .cardCheckUnavailable)
      ∧ (t.standInOutcome r = .inr (0, 0))
      ∧ ((held head5).holding.findPair 0 7).isSome = true ∧ (held head5).lookupVoid 0 void = .local_ 4095
      ∧ (held { head5 with forwardedOnce := true }).lookupVoid 0 void = .open_ ∧ serving.lookupVoid 0 void = .open_ := by
  refine ⟨by decide +kernel, rfl, by decide, rfl, by decide, ⟨rfl, by decide, rfl, rfl, by decide +kernel, ⟨rfl, by decide, rfl⟩, rfl⟩,
    by decide, by decide, by decide +kernel, by decide +kernel, by decide +kernel, by decide +kernel, by decide +kernel, by decide +kernel⟩

/-- R101: a full Uplink Priority Queue, and a context that waits for a place already. -/
theorem test_hyp_DecidingRoutesTheMessage_full :
    let f : TxFrame := { bytes := [], isReset := false }
    let s := inPhase .authenticating wrap0
    let full : State := { s with uplink := { quietPort true with priority := List.replicate 32 f } }
    let waits : State := { s with placeWait := [3] }
    (full.ctx 0 = { phase := .authenticating, wrap := some wrap0 } ∧ full.lookupVoid 0 sale = .open_ ∧ full.placeWait = []
        ∧ full.usedPlaces < 256 ∧ 32 ≤ full.uplink.priority.length)
      ∧ waits.ctx 0 = { phase := .authenticating, wrap := some wrap0 } ∧ waits.placeWait ≠ []
      ∧ 256 ≤ ({ s with outstanding := List.replicate 256 entry0 } : State).usedPlaces := by
  refine ⟨⟨rfl, rfl, rfl, by decide +kernel, by decide +kernel⟩, rfl, by decide, by decide +kernel⟩

theorem test_hyp_StandInChecksInOrder :
    let s := standing serving
    let r : StandInRequest := { kind := .refund, amount := 0, risk := 100, till := 0, profileIx := 0, fp := none }
    s.holding.usableSlot = some 0 ∧ s.standInRefusal r 0 = none ∧ s.standInRefusal r 50000 = none
      ∧ s.standInRefusal r 50001 = some .overSingle
      ∧ s.standInRefusal { r with kind := .sale } 0 = some .cardCheckUnavailable
      ∧ ({ s with standIn := { s.standIn with tillTotals := s.standIn.tillTotals.set 0 50000 } }).standInRefusal r 1 = some .overTill
      ∧ ({ s with standIn := { s.standIn with storeTotal := 100000 } }).standInRefusal r 1 = some .overStore
      ∧ ({ s with holding := { s.holding with next := 4294967296 } }).standInRefusal r 0 = some .storeFull
      ∧ ({ s with holding := { s.holding with next := 4294967295, bad := [0], claimed := [1] } }).holding.usableSlot = some 2 := by
  decide +kernel

/-- R147: the card checks, with the limits reached, one below, and the list full. -/
theorem test_hyp_StandInChecksInOrder_cards :
    let f : Fingerprint := { value := 1, gen := 1 }
    let full : List CardEntry := List.replicate 512 { fp := { value := 2, gen := 1 }, count := 1, total := 0 }
    let s0 := withFp (standing serving) (goodRecord 255 1)
    let s : Nat → Nat → State := fun nc count =>
      { s0 with
        settings := { s0.settings with profiles := s0.settings.profiles.set 0 { s0.settings.profiles[0] with nc := nc, lc := 50000 } }
        standIn := { s0.standIn with cards := [{ fp := f, count := count, total := 0 }] } }
    let r : StandInRequest := { kind := .sale, amount := 100, risk := 100, till := 0, profileIx := 0, fp := some f }
    (s 3 2).cardCheckable r.fp = true ∧ (s 3 2).standInRefusal r 100 = none ∧ (s 3 3).standInRefusal r 100 = some .overCard
      ∧ (s 3 2).cardEntry r.fp = some { fp := f, count := 2, total := 0 }
      ∧ ({ s 3 0 with standIn := { s0.standIn with cards := full } }).standInRefusal r 100 = some .cardListFull := by
  decide +kernel

/-- R148, R149: a list with the fingerprint's entry between two others, and a fingerprint it lacks. -/
theorem test_hyp_StandInChecksInOrder_charge :
    let f : Nat → Fingerprint := fun n => { value := BitVec.ofNat 128 n, gen := 1 }
    let e : Nat → CardEntry := fun n => { fp := f n, count := 1, total := 7 }
    let x : StandIn := { emptyStandIn with cards := [e 1, e 2, e 3] }
    (x.cards = [e 1] ++ e 2 :: [e 3] ∧ (e 2).fp = f 2 ∧ ∀ d ∈ [e 1], d.fp ≠ f 2) ∧ (∀ c ∈ x.cards, c.fp ≠ f 4)
      ∧ (x.charge 0 5 (some (f 2))).cards = [e 1, { e 2 with count := 2, total := 12 }, e 3]
      ∧ (x.release 0 7 (some (f 2))).cards = [e 1, e 3] := by decide

theorem test_hyp_ReplyWindowExpiryAnswersTheTill :
    let e : OutEntry := { entry0 with kind := .refund }
    let s : State := { standing serving with outstanding := [e] }
    let request : StandInRequest :=
      { kind := e.kind, amount := e.amount.getD 0, risk := (s.profile e.profileIx).risk, till := e.till, profileIx := e.profileIx,
        fp := e.fp }
    serving.entryOf 0 7 = none ∧ s.entryOf 0 7 = some e ∧ s.placeWait = [] ∧ s.opState = .serving ∧ e.copy = some [1, 2]
      ∧ (s.profile e.profileIx).refundsAllowed = true ∧ s.standInOutcome request = .inr (0, 0) ∧ s.laneOpen
      ∧ ({ awaiting with opState := .lockdown }).opState ≠ .serving ∧ awaiting.entryOf 0 7 = some entry0
      ∧ awaiting.standInOutcome { kind := .sale, amount := 500, risk := (awaiting.profile 0).risk, till := 0, profileIx := 0, fp := none }
          = .inl .cardCheckUnavailable
      ∧ (awaiting.profile 0).refundsAllowed = false ∧ ({ entry0 with copy := none } : OutEntry).copy = none := by
  refine ⟨by decide +kernel, by decide +kernel, rfl, rfl, rfl, by decide +kernel, by decide +kernel, ⟨by decide, rfl⟩, by decide,
    by decide +kernel, by decide +kernel, by decide +kernel, rfl⟩

theorem test_hyp_ReplyWindowExpiryAnswersTheTill_previous :
    let s := awaiting.setSlot 0 { emptySlot with previous := some (goodRecord 0 1), state := .active, floor := 2 }
    let two : State := { s with outstanding := [entry0, { entry0 with reference := 9 }] }
    s.entryOf 0 7 = some entry0 ∧ s.placeWait = [] ∧ (s.slot entry0.slot).previous = some (goodRecord 0 1)
      ∧ (goodRecord 0 1).gen = entry0.gen ∧ two.entryOf 0 7 = some entry0
      ∧ two.outstanding.eraseP (fun x => x.till == 0 && x.reference == 7) = [{ entry0 with reference := 9 }]
      ∧ (awaiting.slot entry0.slot).previous = none := by
  refine ⟨by rfl, rfl, rfl, rfl, by rfl, by rfl, by rfl⟩

/-! ### The link, timers and the ends of writes -/

/-- The SERVING part with a link state, a run and thresholds. -/
def line (x : LinkState) (run nDown nUp : Nat) : State :=
  { serving with
    link := { serving.link with state := x, run := run }
    settings := { serving.settings with link := { blankLink with nDown := nDown, nUp := nUp } } }

theorem test_hyp_LinkStateFollowsItsTable :
    (line .up 0 1 1).link.physicalUp = true ∧ (line .up 0 1 1).settings.link.nDown ≤ 1 ∧ 1 < (line .up 0 2 2).settings.link.nDown
      ∧ (line .suspect 1 2 2).settings.link.nDown ≤ (line .suspect 1 2 2).link.run + 1
      ∧ (line .suspect 1 3 2).link.run + 1 < (line .suspect 1 3 2).settings.link.nDown
      ∧ (line .down 0 1 1).settings.link.nUp ≤ 1 ∧ 1 < (line .down 0 1 2).settings.link.nUp
      ∧ (line .recovering 1 1 2).settings.link.nUp ≤ (line .recovering 1 1 2).link.run + 1
      ∧ (line .recovering 1 1 3).link.run + 1 < (line .recovering 1 1 3).settings.link.nUp
      ∧ State.reset.link.physicalUp = false := by decide +kernel

/-- R143, R168: a RUNNING drain whose line leaves UP, and an ARMED one whose line enters UP with a settle time of 0. -/
theorem test_hyp_LinkStateFollowsItsTable_drain :
    let l := line .suspect 1 2 2
    let s : State := { l with
      drain := { resetDrain with state := .armed }
      settings := { l.settings with link := { l.settings.link with settle := 0 },
                                    store := { l.settings.store with drainGw := { ip := 7, port := 6000, hop := 2 } } } }
    ((draining (some 9)).link.state = .up ∧ (draining (some 9)).drain.state = .running)
      ∧ s.linkSuccess.link.state = .up ∧ s.link.state ≠ .up ∧ s.settings.link.settle = 0 ∧ s.drain.state = .armed
      ∧ s.settings.store.drainGw.ip ≠ 0 ∧ s.linkSuccess.drain.state = .running
      ∧ (draining (some 9)).linkFailure.holding.lines = [line5] := by decide +kernel

theorem test_hyp_ProbeSettleDrainAndQuietTimers :
    let s : State := { gated with link := { gated.link with probeTimer := some 5, awaited := [(1, 2000)], settleTimer := some 9 } }
    let p := (be 1 1 ++ be 1 2 ++ be 4 1) ++ beVec 8 (authCode s.mgmtKey (be 1 1 ++ be 1 2 ++ be 4 1))
    s.link.probeTimer.isSome = true ∧ s.link.inHand = none ∧ s.settings.store.probeGw.ip ≠ 0 ∧ s.uplinkOpen
      ∧ serving.settings.store.probeGw.ip = 0 ∧ serving.link.probeTimer = none ∧ (1, 2000) ∈ s.link.awaited
      ∧ (∀ d, (1, d) ∉ serving.link.awaited) ∧ s.link.settleTimer.isSome = true ∧ serving.link.settleTimer = none
      ∧ (p.length = 14 ∧ field p 0 1 = 1 ∧ field p 1 1 = 2 ∧ authCode s.mgmtKey (p.take 6) = codeOf p
          ∧ ∃ d, (field p 2 4, d) ∈ s.link.awaited) ∧ ¬ ([] : Bytes).length = 14 := by
  intro s p
  have hc : authCode s.mgmtKey (p.take 6) = codeOf p := by
    have : p.take 6 = be 1 1 ++ be 1 2 ++ be 4 1 := rfl
    rw [this]
    exact (codeOf_append _ _).symm
  refine ⟨rfl, rfl, by decide, ⟨rfl, by decide, rfl⟩, rfl, rfl, List.mem_singleton.2 rfl, ?_, rfl, rfl, ⟨?_, rfl, rfl, hc, 2000, ?_⟩, ?_⟩
  · intro d h; exact absurd h (List.not_mem_nil)
  · rfl
  · have : field p 2 4 = 1 := rfl
    rw [this]; exact List.mem_singleton.2 rfl
  · decide

theorem test_hyp_ProbeSettleDrainAndQuietTimers_full :
    let f : TxFrame := { bytes := [], isReset := false }
    let s : State := { gated with
      link := { gated.link with probeTimer := some 5 }, uplink := { quietPort true with priority := List.replicate 32 f } }
    s.link.probeTimer.isSome = true ∧ s.link.inHand = none ∧ s.settings.store.probeGw.ip ≠ 0 ∧ 32 ≤ s.uplink.priority.length := by
  decide +kernel

/-- A job that waits for quiet. -/
def waitingJob (h : Hold) (limit : Option Nat) : Job :=
  { (taken (.activateKey 3)).job .ok (.bytes []) with role := .waiting h limit, s1 := .no }

theorem test_hyp_ProbeSettleDrainAndQuietTimers_limits :
    (draining (some 9)).drain.state = .running
      ∧ (∃ l ∈ (draining (some 9)).holding.lines, l.head.seq = 1 ∧ l.draining = true ∧ l.deadline.isSome = true)
      ∧ serving.drain.state ≠ .running ∧ (∀ l ∈ (draining none).holding.lines, l.head.seq = 1 → l.draining = true → l.deadline = none)
      ∧ (∃ j ∈ [waitingJob (.slot 3) (some 2000)], ∃ h limit, j.role = .waiting h (some limit))
      ∧ ∀ j ∈ [waitingJob (.slot 3) none], ∀ h limit, j.role ≠ .waiting h (some limit) := by
  refine ⟨rfl, ⟨_, List.mem_singleton.2 rfl, rfl, rfl, rfl⟩, by decide +kernel, by decide +kernel, ⟨_, List.mem_singleton.2 rfl, _, _, rfl⟩,
    ?_⟩
  intro j hj h limit
  rw [List.mem_singleton.1 hj]
  simp [waitingJob]

/-- The SERVING part with a record HELD whose message passes its check or does not, and the drain RUNNING, in AUTO or not. -/
def toDrain (drain : DrainState) (passes : Bool) : State :=
  { serving with
    holding := { formattedStore with
      lines := [line5], last := 1, next := 2
      nv := [{ slot := 4095, contents := some { record5 with checkPasses := passes }, commit := some 1, headPasses := true }] }
    drain := { resetDrain with state := drain }
    settings := { serving.settings with store := { serving.settings.store with drainGw := { ip := 8, port := 7000, hop := 2 } } } }

theorem test_hyp_DrainTakesRecordsInOrder :
    let f : TxFrame := { bytes := [], isReset := false }
    let s := toDrain .running true
    let full : State := { s with uplink := { quietPort true with priority := List.replicate 32 f } }
    let past : State := { s with drain := { s.drain with cursor := 1 } }
    let none_ : State := { serving with drain := { resetDrain with state := .running } }
    let idle := toDrain .idle true
    ((idle.settings.store.mode = .auto ∧ idle.drain.state = .idle ∧ idle.opState = .serving ∧ idle.settings.suspended = false
          ∧ line5 ∈ idle.holding.lines ∧ line5.held = true)
        ∧ (idle.link.state = .up ∧ idle.link.settled = true ∧ idle.settings.store.drainGw.ip ≠ 0)
        ∧ ({ idle with link := { idle.link with settled := false } }).link.settled = false ∧ serving.holding.lines = [])
      ∧ (s.drain.state = .running ∧ s.drain.inHand = none ∧ (s.holding.lines.filter (·.draining)).length < s.settings.store.window
          ∧ line5.draining = false ∧ line5.freeing = false ∧ s.drain.cursor < line5.head.seq)
      ∧ past.drain.cursor = 1 ∧ line5.head.seq = 1 ∧ (none_.holding.lines = [] ∧ none_.drain.state = .running)
      ∧ (∃ l ∈ (draining none).holding.lines, l.draining = true) ∧ s.uplinkOpen ∧ 32 ≤ full.uplink.priority.length
      ∧ s.holding.nv.find? (fun x => x.slot == line5.slot)
          = some { slot := 4095, contents := some { record5 with checkPasses := true }, commit := some 1, headPasses := true }
      ∧ (toDrain .running false).holding.nv.find? (fun x => x.slot == line5.slot)
          = some { slot := 4095, contents := some { record5 with checkPasses := false }, commit := some 1, headPasses := true } := by
  refine ⟨⟨⟨rfl, rfl, rfl, rfl, List.mem_singleton.2 rfl, rfl⟩, ⟨rfl, rfl, by decide⟩, rfl, rfl⟩, ⟨rfl, rfl, by decide +kernel, rfl, rfl, by decide⟩,
    rfl, rfl, ⟨rfl, rfl⟩, ⟨_, List.mem_singleton.2 rfl, rfl⟩, ⟨rfl, by decide, rfl⟩, by decide, rfl, rfl⟩

/-- R12, R165: the record taken is DRAINING with its deadline set, and its frame is placed; a damaged one is counted. -/
theorem test_drain_turn :
    (toDrain .running true).drainTurn.holding.lines = [{ line5 with draining := true, deadline := some 10000 }]
      ∧ (toDrain .running true).drainTurn.count .recordDamaged = 0 ∧ (toDrain .running false).drainTurn.count .recordDamaged = 1
      ∧ (toDrain .running true).drainTurn.uplink.priority.length = 1 := by decide +kernel

theorem test_hyp_CheckpointWriteEndsItsRaises :
    let w : Write3 :=
      { raises := [(0, 0)], activations := [15], erase := false, void := false, contents := Vector.replicate 16 (Vector.replicate 128 256) }
    let s : State := { serving with counters := { serving.counters with inFlight := some w } }
    s.counters.inFlight = some w ∧ w.erase = false ∧ w.void = false ∧ (∀ p ∈ w.raises, p.1 ∉ w.activations)
      ∧ s.settings.store.policy = .lenient ∧ serving.counters.inFlight = none ∧ (0, 0) ∈ w.raises ∧ (15 : SlotIx) ∈ w.activations
      ∧ s.count .keyActivated ≤ 65535 ∧ (s.till 0).binding = some bound ∧ (s.ctr bound.slot 0).c ≠ 1048576 := by
  decide +kernel

/-- R60: an activation in flight that replaced a raise, and a raise requested since. -/
theorem test_hyp_CheckpointWriteEndsItsRaises_replaced :
    let w : Write3 :=
      { raises := [], activations := [0], erase := false, void := false, contents := Vector.replicate 16 (Vector.replicate 128 256) }
    let e : CounterEntry := { c := 200, k := 256, raise := some 512, failed := false }
    let s : State := { (serving.setCtr 0 0 e) with counters := { (serving.setCtr 0 0 e).counters with inFlight := some w, pending := [(0, 1)] } }
    s.counters.inFlight = some w ∧ (∀ p ∈ w.raises, p.1 ∉ w.activations) ∧ (0 : SlotIx) ∈ w.activations
      ∧ (s.ctr 0 0).raise.isSome = true ∧ ((0 : SlotIx), (0 : TillIx)) ∉ s.counters.pending ∧ (0, 1) ∈ s.counters.pending := by
  refine ⟨rfl, by simp, by decide, by decide +kernel, by decide, by decide⟩

/-- The command of an ENABLE-TILL retry that waits for its raise. -/
def retrying : Job := { (taken (.enableTill 1)).job .ok (.till 1) with s1 := .no, s3 := .queued }

/-- The SERVING part with an activation's sector 3 write in flight, and the retry requested since. -/
def retried : State :=
  { serving with
    counters := { serving.counters with
      pending := [(0, 1), (3, 1)]
      inFlight := some { raises := [], activations := [0], erase := false, void := false,
                         contents := Vector.replicate 16 (Vector.replicate 128 256) } }
    mgmt := { serving.mgmt with jobs := [retrying] } }

theorem test_hyp_CheckpointWriteEndsItsRaises_retry :
    retried.mgmt.jobs[0]? = some retrying ∧ retrying.cmd = some (.enableTill (1 : TillIx).val) ∧ retrying.s3 = .queued
      ∧ ((0 : SlotIx), (1 : TillIx)) ∈ retried.counters.pending := by
  refine ⟨rfl, rfl, rfl, by decide⟩

/-- R52, R60: the activation's write ends the retry of its own slot, and the other raise is carried by the next write. -/
theorem test_activation_ends_retry :
    (match exec .checkpointWriteComplete retried with
      | .next t => decide (t.mgmt.jobs = [] ∧ t.counters.inFlight.map (·.raises) = some [(3, 1)] ∧ t.counters.pending = [])
      | .fault _ => false
      | .refused _ => false) = true := by decide +kernel

theorem test_hyp_SectorWriteEndsInstallWhatTheyCarry :
    let c1 : Sector1 := { settings := blankSettings, bindings := Vector.replicate 128 none, lastNumber := 1 }
    let c2 : Sector2 := { slots := Vector.replicate 16 { current := none, staged := none, state := .empty, floor := 0 }, fp := none, fpFloor := 0 }
    let w : KeyAddition → Write2 := fun a => { contents := some c2, additions := [a], zeroise := false, thenErase3 := false, void := false }
    let s : State := { serving with writer1 := { inFlight := some (some c1), wanted := false, eraseWanted := false } }
    let t : KeyAddition → State := fun a =>
      { serving with writer2 := { inFlight := some (w a), waiting := [], wanted := false, eraseWanted := false } }
    serving.writer1.inFlight = none ∧ serving.writer2.inFlight = none ∧ s.writer1.inFlight = some (some c1)
      ∧ s.settings.store.policy = .lenient ∧ (t (.activate 15)).writer2.inFlight = some (w (.activate 15))
      ∧ (w (.load 0 (goodRecord 0 2))).additions = [.load 0 (goodRecord 0 2)] ∧ (w (.loadFp (goodRecord 255 2))).void = false
      ∧ (t (.activate 15)).counters.inFlight = none ∧ (t (.activate 15)).counters.eraseWanted = false
      ∧ (t (.activate 15)).erasing = false := by
  exact ⟨rfl, rfl, rfl, rfl, rfl, rfl, rfl, rfl, rfl, by decide +kernel⟩

/-- A sector 2 write of three additions, for two slots and the fingerprint key. -/
theorem test_hyp_SectorWriteEndsInstallWhatTheyCarry_several :
    let adds : List KeyAddition := [.load 0 (goodRecord 0 2), .loadFp (goodRecord 255 2), .activate 15]
    (adds.filterMap KeyAddition.slot?) = [0, 15] ∧ (adds.filterMap KeyAddition.slot?).Nodup
      ∧ (∀ r r', KeyAddition.loadFp r ∈ adds → .loadFp r' ∈ adds → r = r') ∧ .load 0 (goodRecord 0 2) ∈ adds ∧ .activate 15 ∈ adds
      ∧ serving.counters.eraseWanted = false := by
  refine ⟨rfl, by decide, ?_, by simp, by simp, rfl⟩
  intro r r' h h'
  simp at h h'
  rw [h, h']

/-- Slot 15's activation is in flight, its record fails meanwhile, and a second write waits with what follows. -/
def faultedMeanwhile (waiting : List KeyAddition) : State :=
  let s := serving.setSlot 15
    { emptySlot with current := some (goodRecord 15 1), staged := some (goodRecord 15 2), state := .active, floor := 1, busy := true }
  let w : Write2 :=
    { contents := some (s.sector2 [.activate 15]), additions := [.activate 15], zeroise := false, thenErase3 := false, void := false }
  State.faultSlot { s with writer2 := { inFlight := some w, waiting := waiting, wanted := false, eraseWanted := false } } 15 1 0

theorem test_hyp_SectorWriteEndsInstallWhatTheyCarry_waits :
    let a : KeyAddition := .load 0 (goodRecord 0 2)
    let s := faultedMeanwhile [a]
    let t : State := { s with writer2 := { s.writer2 with
      inFlight := s.writer2.inFlight.map (fun w : Write2 => { w with additions := [a] }), waiting := [.activate 15] } }
    ((s.slot 15).state = .faulted ∧ s.writer2.wanted = true ∧ s.writer2.eraseWanted = false ∧ s.erasing = false)
      ∧ (s.writer2.inFlight.map (·.additions) = some [.activate 15] ∧ s.writer2.waiting = [a])
      ∧ (([a].filterMap KeyAddition.slot?).Nodup ∧ a ∈ [a] ∧ (15 : SlotIx) ∉ [a].filterMap KeyAddition.slot?)
      ∧ (t.writer2.inFlight.map (·.additions) = some [a] ∧ t.writer2.waiting = [.activate 15] ∧ t.writer2.wanted = true)
      ∧ ((t.slot 15).state = .faulted ∧ (t.slot 15).staged.isSome = true) := by
  refine ⟨by decide +kernel, ⟨rfl, rfl⟩, ⟨by decide, List.mem_singleton.2 rfl, by decide⟩, ⟨rfl, rfl, by decide +kernel⟩, by decide +kernel⟩

/-- R64, R75, R84: the switch of an activation leaves a slot that has been faulted meanwhile FAULTED, with the new record current, and the
write that R84 requested carries it FAULTED. -/
theorem test_switch_keeps_faulted :
    (match exec (.sectorWriteComplete .keys) (faultedMeanwhile []) with
      | .next t => decide ((t.slot 15).state = .faulted ∧ (t.slot 15).current.map (·.gen) = some 2 ∧ (t.slot 15).floor = 2
          ∧ (t.writer2.inFlight.bind (·.contents)).map (fun c => (c.slots[15]).state) = some .faulted)
      | .fault _ => false
      | .refused _ => false) = true := by decide +kernel

theorem test_hyp_HoldingOperationsEnd :
    let o : InHand := { isVoid := false, number := 1033, reference := 7, path := path }
    let w : Wrap := { wrap0 with msg := none, inHand := some o }
    let s : StoreOp → Bool → State := fun op held =>
      { inPhase .holding w with holding := { formattedStore with lines := [{ line5 with held := held }], ops := [op] } }
    (s (.write 4095 (.ctx 0) record5) false).holding.ops = .write 4095 (.ctx 0) record5 :: []
      ∧ (s (.write 4095 (.ctx 0) record5) false).holding.format = .none ∧ (s (.write 4095 (.ctx 0) record5) false).erasing = false
      ∧ ((s (.write 4095 (.ctx 0) record5) false).ctx 0).wrap = some w ∧ w.inHand = some o
      ∧ (s (.write 4095 (.ctx 0) record5) false).laneOpen
      ∧ (s (.free 4095 .drain) true).holding.ops = .free 4095 .drain :: []
      ∧ (s (.free 4095 .drain) true).holding.lines.find? (fun x => x.slot == 4095) = some { line5 with held := true }
      ∧ (s (.free 4095 .drain) true).drain.state = .idle
      ∧ (∀ x ∈ (s (.free 4095 .drain) true).holding.lines, x.held = true → x.slot = 4095)
      ∧ (s (.free 4095 .drain) true).settings.store.policy = .lenient := by
  refine ⟨rfl, rfl, by decide +kernel, rfl, rfl, ⟨by decide, rfl⟩, rfl, by decide +kernel, rfl, by decide +kernel, rfl⟩

/-- R130, R170: a write the Reply Matcher asked for, with its hold note; and the free of the last HELD record under an ARMED drain. -/
theorem test_hyp_HoldingOperationsEnd_note :
    let o : HoldNote := { seq := 1, till := 0, number := 1033, reference := 7, path := path }
    let s : State := { serving with
      holdNotes := [o], holding := { formattedStore with lines := [{ line5 with held := false }], ops := [.write 4095 .matcher record5] } }
    let t : State := { serving with
      drain := { resetDrain with state := .armed }
      holding := { formattedStore with lines := [{ line5 with freeing := true }], ops := [.free 4095 .drain] } }
    (s.holding.ops = .write 4095 .matcher record5 :: [] ∧ s.holding.format = .none ∧ s.erasing = false
        ∧ s.holdNotes.find? (fun h => h.seq == record5.head.seq) = some o ∧ s.laneOpen)
      ∧ (t.holding.ops = .free 4095 .drain :: [] ∧ t.holding.format = .none ∧ t.erasing = false ∧ t.drain.state ≠ .idle
          ∧ t.holding.lines.find? (fun x => x.slot == 4095) = some { line5 with freeing := true }
          ∧ (∀ x ∈ t.holding.lines, x.held = true → x.slot = 4095)) := by
  refine ⟨⟨rfl, rfl, by decide +kernel, rfl, ⟨by decide, rfl⟩⟩, rfl, rfl, by decide +kernel, by decide, rfl, by decide +kernel⟩

theorem test_hyp_FormatEndAndTamper :
    ({ serving with holding := { formattedStore with format := .running } }).holding.format = .running ∧ serving.erasing = false
      ∧ serving.holding.format ≠ .running ∧ serving.startup ≠ .held ∧ ({ serving with startup := .held }).startup = .held
      ∧ serving.opState = .serving ∧ awaiting.count .lostToTamper ≤ 65535 ∧ State.reset.opState = .starting
      ∧ State.reset.startup ≠ .held ∧ ({ serving with opState := .lockdown }).opState = .lockdown := by decide +kernel

/-- R191: the failing writes of `StrictFailuresEnterLockdown`, each in a SERVING part under STRICT. -/
theorem test_hyp_StrictFailuresEnterLockdown :
    let s := strictly serving
    let w3 : Write3 :=
      { raises := [(0, 0)], activations := [15], erase := false, void := false, contents := Vector.replicate 16 (Vector.replicate 128 256) }
    let c2 : Sector2 := { slots := Vector.replicate 16 { current := none, staged := none, state := .empty, floor := 0 }, fp := none, fpFloor := 0 }
    let load : Write2 := { contents := some c2, additions := [.load 3 (goodRecord 3 1)], zeroise := false, thenErase3 := false, void := false }
    let zero : Write2 := { contents := none, additions := [], zeroise := true, thenErase3 := false, void := false }
    let two : Write2 → State := fun w => { s with writer2 := { inFlight := some w, waiting := [], wanted := false, eraseWanted := false } }
    let o : HoldNote := { seq := 1, till := 0, number := 1033, reference := 7, path := path }
    let h : StoreOp → Bool → State := fun op held =>
      { s with holdNotes := [o], holding := { formattedStore with lines := [{ line5 with held := held }], ops := [op] } }
    s.settings.store.policy = .strict ∧ s.opState = .serving ∧ s.events.fault = none
      ∧ ({ s with counters := { s.counters with inFlight := some w3 } }).counters.inFlight = some w3
      ∧ (w3.erase = false ∧ w3.void = false ∧ (0, 0) ∈ w3.raises ∧ (15 : SlotIx) ∈ w3.activations)
      ∧ ({ s with writer1 := { s.writer1 with inFlight := some none } }).writer1.inFlight = some none
      ∧ ((two load).writer2.inFlight = some load ∧ load.contents = some c2 ∧ load.additions = [.load 3 (goodRecord 3 1)]
          ∧ load.void = false ∧ load.zeroise = false ∧ (KeyAddition.load 3 (goodRecord 3 1)).slot? = some 3)
      ∧ ((two zero).writer2.inFlight = some zero ∧ zero.zeroise = true ∧ zero.additions = [])
      ∧ ((h (.write 4095 .matcher record5) false).holding.ops = .write 4095 .matcher record5 :: []
          ∧ (h (.write 4095 .matcher record5) false).holding.format = .none ∧ (h (.write 4095 .matcher record5) false).erasing = false
          ∧ (h (.write 4095 .matcher record5) false).holdNotes.find? (fun x => x.seq == record5.head.seq) = some o ∧ s.laneOpen)
      ∧ ((h (.free 4095 .drain) true).holding.ops = .free 4095 .drain :: []
          ∧ (h (.free 4095 .drain) true).holding.lines.find? (fun x => x.slot == 4095) = some { line5 with held := true })
      ∧ (strictly State.reset).settings.store.policy = .strict ∧ State.reset.opState = .starting
      ∧ w3.raises ≠ [] ∧ ([.load 3 (goodRecord 3 1), .loadFp (goodRecord 255 2), .activate 15] : List KeyAddition).filterMap
          KeyAddition.slot? = [3, 15] := by
  refine ⟨rfl, rfl, rfl, rfl, ⟨rfl, rfl, by decide, by decide⟩, rfl, ⟨rfl, rfl, rfl, rfl, rfl, rfl⟩, ⟨rfl, rfl, rfl⟩,
    ⟨rfl, rfl, by decide +kernel, rfl, ⟨by decide, rfl⟩⟩, ⟨rfl, rfl⟩, rfl, rfl, by decide, rfl⟩

/-- R191, R192: a free that fails under STRICT takes a SERVING part to LOCKDOWN, its record still HELD. -/
theorem test_free_fails_strict :
    (match exec .recordFreeFail { strictly serving with
        holding := { formattedStore with lines := [{ line5 with freeing := true }], ops := [.free 4095 .drain] } } with
      | .next t => decide (t.opState = .lockdown ∧ t.holding.lines = [line5] ∧ t.holding.ops = []
          ∧ t.events.fault.map (·.location) = some (some (.holding 4095)))
      | .fault _ => false
      | .refused _ => false) = true := by decide +kernel

/-! ### Counters and grants -/

theorem test_hyp_GrantTakesTheChosenTill_reservation :
    let near : CounterEntry → Prop := fun e => e.k - (e.c + 1) ≤ 64 ∧ e.k < 1048576 ∧ e.raise = none ∧ e.failed = false
    near { c := 191, k := 256, raise := none, failed := false } ∧ ¬ near { c := 190, k := 256, raise := none, failed := false }
      ∧ ¬ near { c := 1048575, k := 1048576, raise := none, failed := false }
      ∧ serving.counters.inFlight = none ∧ serving.erasing = false ∧ serving.counters.eraseWanted = false
      ∧ (0 : SlotIx) ∉ serving.counters.activations := by
  refine ⟨by decide, by decide, by decide, rfl, rfl, rfl, by decide⟩

/-- The SERVING part with a message waiting. -/
def ready : State := serving.setTill 0 { vacantTill with binding := some bound, queue := [sale, void] }

theorem test_hyp_GrantTakesTheChosenTill :
    ready.eligible 0 = true ∧ ready.chooseTill = some (0, .attended) ∧ (∀ i, serving.eligible i = false) ∧ (ready.ctx 0).phase = .idle
      ∧ (∀ d < (0 : CtxIx), (ready.ctx d).phase ≠ .idle) ∧ (ready.till 0).binding = some bound ∧ (ready.till 0).queue = sale :: [void] := by
  decide +kernel

/-! ### Management -/

theorem test_payload_read (d e p c : Bytes) (hd : d.length = 12) (hc : c.length = 4) (he : e = be 2 0x88B5) :
    (readEth (d ++ (e ++ p) ++ c)).payload = p := by
  have h1 : (d ++ (e ++ p) ++ c).take ((d ++ (e ++ p) ++ c).length - 4) = d ++ (e ++ p) := by
    rw [List.length_append, hc, Nat.add_sub_cancel, List.take_left]
  have h2 : (d ++ (e ++ p)).drop 12 = e ++ p := by rw [← hd, List.drop_left]
  have h3 : splitTags (e ++ p) = ([], e ++ p) := by
    subst he
    match p with
    | [] => rfl
    | [_] => rfl
    | _ :: _ :: _ => rfl
  unfold readEth
  simp only [h1, h2, h3]
  subst he
  rfl

/-- A management frame's bytes, as the arrival list holds them. -/
def mgmtFrame (number code : Nat) (operands : Bytes) : Bytes :=
  be 12 1 ++ (be 2 0x88B5 ++ (sealed 3 (be 1 1 ++ be 4 number ++ be 1 code ++ be 2 operands.length ++ operands) ++ [])) ++ be 4 0

theorem test_mgmt_frame_read (number code : Nat) (operands : Bytes) (h1 : number < 4294967296) (h2 : code < 256)
    (h3 : operands.length < 65536) : readCommand 3 (readEth (mgmtFrame number code operands)).payload = some (number, code, operands) := by
  unfold mgmtFrame
  rw [test_payload_read _ _ _ _ (length_be _ _) (length_be _ _) rfl]
  exact readCommand_built 3 number code operands [] h1 h2 h3

/-- The SERVING part with a frame waiting for the Unit. -/
def arrived (f : Bytes) : State := { serving with mgmt := { serving.mgmt with arrivals := [f] } }

/-- R173: each answer's hypotheses on one state: an empty list, a busy Unit, a frame that is not authentic, a STALE number, a command of no
known form, one that a STARTING part refuses, and one that passes. -/
theorem test_hyp_ManagementFrameIsJudgedInOrder :
    let judged : State → Bytes → Nat → Nat → Prop := fun s f number code =>
      s.mgmt.arrivals = f :: [] ∧ s.unitBusy = false ∧ s.opState ≠ .factory
        ∧ readCommand s.mgmtKey (readEth f).payload = some (number, code, [])
    let status : State := { (arrived (mgmtFrame 1 1 [])) with opState := .starting }
    serving.mgmt.arrivals = [] ∧ (taking serving .reset).unitBusy = true
      ∧ ((arrived (be 64 0)).unitBusy = false ∧ readCommand (arrived (be 64 0)).mgmtKey (readEth (be 64 0)).payload = none)
      ∧ (judged (arrived (mgmtFrame 0 9 [])) (mgmtFrame 0 9 []) 0 9 ∧ 0 ≤ serving.mgmt.last)
      ∧ (judged (arrived (mgmtFrame 1 13 [])) (mgmtFrame 1 13 []) 1 13 ∧ serving.mgmt.last < 1 ∧ decodeCommand 13 [] = none)
      ∧ (∃ f c, judged { arrived f with opState := .starting } f 1 15 ∧ serving.mgmt.last < 1 ∧ decodeCommand 15 [] = some c
          ∧ ({ arrived f with opState := .starting } : State).opState = .starting ∧ (15 : Nat) ≠ 1)
      ∧ (judged status (mgmtFrame 1 1 []) 1 1 ∧ status.mgmt.last < 1 ∧ decodeCommand 1 [] = some .readStatus)
 := by
  refine ⟨rfl, rfl, ⟨rfl, by decide +kernel⟩, ⟨⟨rfl, rfl, by decide, test_mgmt_frame_read 0 9 [] (by decide) (by decide) (by decide)⟩, by decide⟩,
    ⟨⟨rfl, rfl, by decide, test_mgmt_frame_read 1 13 [] (by decide) (by decide) (by decide)⟩, by decide, rfl⟩,
    ⟨mgmtFrame 1 15 [], _, ⟨rfl, rfl, by decide, test_mgmt_frame_read 1 15 [] (by decide) (by decide) (by decide)⟩, by decide, rfl, rfl,
      by decide⟩,
    ⟨⟨rfl, rfl, by decide, test_mgmt_frame_read 1 1 [] (by decide) (by decide) (by decide)⟩, by decide, rfl⟩⟩

/-- R14: a payload a byte too short for its code, one of another version, and numbers, codes and operands at their largest. -/
theorem test_hyp_ManagementFrameIsJudgedInOrder_form :
    let p := be 1 1 ++ be 4 1 ++ be 1 15 ++ be 2 0
    ¬ (16 + field (p ++ List.replicate 7 0) 6 2 ≤ (p ++ List.replicate 7 0).length)
      ∧ field (be 1 2 ++ List.replicate 15 0) 0 1 ≠ 1
      ∧ (16 + field (p ++ beVec 8 (authCode 3 p)) 6 2 ≤ (p ++ beVec 8 (authCode 3 p)).length ∧ field (p ++ beVec 8 (authCode 3 p)) 0 1 = 1)
      ∧ 4294967295 < 4294967296 ∧ 255 < 256 ∧ (List.replicate 65535 (0 : Byte)).length < 65536 := by
  refine ⟨by decide, by decide, ⟨by decide, by decide⟩, by decide, by decide, ?_⟩
  rw [List.length_replicate]
  decide

/-- The SERVING part with one response built. -/
def responding (r : Response) : State := { serving with mgmt := { serving.mgmt with responses := [r] } }

theorem test_hyp_ResponsesAreBuiltInOrder :
    let f : TxFrame := { bytes := [1], isReset := false }
    let r : Response := { frame := [1], keepsUnit := true, isReset := false }
    let s := responding r
    let full : State := { s with uplink := { quietPort true with priority := List.replicate 32 f } }
    let waits : State := { full with waitOrder := [(.mgmt, f)] }
    let done : Job := { (taken (.activateKey 3)).job .ok (.activation 3) with s1 := .no }
    (done.s1 = .no ∧ done.s2 = .no ∧ done.s3 = .no ∧ done.format = false ∧ done.role = .current)
      ∧ (s.mgmt.responses = r :: [] ∧ s.uplinkOpen)
      ∧ (full.mgmt.responses = r :: [] ∧ 32 ≤ full.uplink.priority.length ∧ ∀ x ∈ full.waitOrder, x.1 ≠ .mgmt)
      ∧ (waits.mgmt.responses = r :: [] ∧ (∃ x ∈ waits.waitOrder, x.1 = .mgmt) ∧ waits.uplink.sending = none
          ∧ waits.uplink.linkUp = true ∧ waits.uplink.priority.length = 32 ∧ waits.waitOrder = (.mgmt, f) :: [])
      ∧ (0 < 64 ∧ 1 + 0 = EventCode.rxError.number) := by
  refine ⟨⟨rfl, rfl, rfl, rfl, rfl⟩, ⟨rfl, rfl, by decide, rfl⟩, ⟨rfl, by decide, ?_⟩,
    ⟨rfl, ⟨_, List.mem_singleton.2 rfl, rfl⟩, rfl, rfl, by decide, rfl⟩, by decide⟩
  intro x hx
  exact absurd hx List.not_mem_nil

/-- R15, R175: a command that has ended is answered once, behind the responses that wait. -/
theorem test_answer_jobs :
    let done : Job := { (taken (.activateKey 3)).job .ok (.activation 3) with s1 := .no }
    let s : State := { serving with mgmt := { serving.mgmt with jobs := [{ done with s1 := .queued }, done] } }
    s.answerJobs.mgmt.jobs = [{ done with s1 := .queued }] ∧ s.answerJobs.mgmt.responses.length = 1 := by
  refine ⟨rfl, rfl⟩

theorem test_hyp_ReadingCommandsAnswer :
    serving.erasing = false ∧ serving.writer1.eraseWanted = false ∧ serving.writer1.inFlight = none
      ∧ ({ serving with writer1 := { serving.writer1 with inFlight := some none } }).writer1.inFlight.isSome = true
      ∧ (taking serving .readStatus).mgmt.taken = some (taken .readStatus)
      ∧ (taking serving (.readTill 127)).mgmt.taken = some (taken (.readTill 127)) ∧ ((127 : TillIx)).val = 127
      ∧ (taking serving (.readTill 128)).mgmt.taken = some (taken (.readTill 128))
      ∧ (taking serving (.readCounters 1 64)).mgmt.taken = some (taken (.readCounters 1 64))
      ∧ (taking serving (.readCounters 1 65)).mgmt.taken = some (taken (.readCounters 1 65))
      ∧ (taking serving (.readEvents 0x80)).mgmt.taken = some (taken (.readEvents 0x80))
      ∧ (taking serving .readDrainSummary).mgmt.taken = some (taken .readDrainSummary) :=
  ⟨rfl, rfl, rfl, rfl, rfl, rfl, rfl, rfl, rfl, rfl, rfl, rfl⟩

theorem test_no_wrap (i : TillIx) : ∀ c w, (serving.ctx c).wrap = some w → w.till ≠ i := by
  intro c w h
  have : ∀ c, (serving.ctx c).wrap = none := by decide +kernel
  rw [this c] at h; cases h

/-- R40 to R43: an entry refused, one in conflict, one created, one rewritten and one emptied. -/
theorem test_hyp_WriteTillCreatesRewritesEmpties :
    let c : Instr := .writeTill 1 0x0C0000000022 1034 7 15
    (taking serving c).mgmt.taken = some (taken c) ∧ (1 : TillIx).val = 1 ∧ (7 : ProfIx).val = 7 ∧ (15 : SlotIx).val = 15
      ∧ (0x0C0000000022 : Mac) ≠ 0 ∧ (0x0C0000000022 : Mac).getLsbD 40 = false
      ∧ serving.identity.map (·.mac) ≠ some 0x0C0000000022 ∧ serving.identity.map (·.mac) = some 0x020000000001
      ∧ (bound.mac = 0x0C0000000011 ∧ bound.number = 1033) ∧ (serving.till 1).binding = none
      ∧ (∀ j : TillIx, j ≠ 0 → (serving.till j).binding = none) ∧ (serving.till 0).binding = some bound
      ∧ (∀ d : TillIx, d < 0 → False) ∧ (bound.mac ≠ 0x0C0000000022 ∧ bound.number ≠ 1034)
      ∧ (∀ c w, (serving.ctx c).wrap = some w → w.till ≠ 1) ∧ ∀ c w, (serving.ctx c).wrap = some w → w.till ≠ 0 :=
  ⟨rfl, rfl, rfl, rfl, by decide, by decide, by decide +kernel, by decide +kernel, by decide, by decide +kernel, by decide +kernel,
    by decide +kernel, by decide, by decide, test_no_wrap 1, test_no_wrap 0⟩

/-- R56, R57: a wrap of the till in flight, waiting for an Outstanding place too, with an empty and a full queue behind it. -/
theorem test_hyp_WriteTillCreatesRewritesEmpties_inFlight :
    let s : List TillMsg → State := fun q =>
      { (inPhase .emitting wrap0).setTill 0 { vacantTill with binding := some bound, queue := q } with placeWait := [0] }
    ((s []).ctx 0).wrap = some wrap0 ∧ wrap0.till = 0 ∧ wrap0.msg = some sale ∧ ((s []).ctx 0).phase ≠ .idle
      ∧ ((s []).ctx 0).phase ≠ .holding ∧ (∀ d ∈ (s []).placeWait, d = 0)
      ∧ (∀ d v, d ≠ 0 → ((s []).ctx d).wrap = some v → v.till = 0 → ((s []).ctx d).phase = .holding)
      ∧ ((s []).till 0).binding = some bound ∧ ((s [void]).till 0).queue.length < 2 ∧ ((s [void, void]).till 0).queue = [void, void]
      ∧ (∀ j : TillIx, j ≠ 0 → ((s []).till j).binding = none) ∧ ¬ ((bound.mac = 0x0C0000000022 ∧ bound.number = 1034) ∧ bound.slot = 0)
      ∧ (s []).count .localRefused ≤ 65535
      ∧ (((inPhase .holding wrap0).ctx 0).wrap = some wrap0 ∧ ((inPhase .holding wrap0).ctx 0).phase = .holding) := by
  refine ⟨rfl, rfl, rfl, by decide +kernel, by decide +kernel, by decide, ?_, by decide +kernel, by decide +kernel, by decide +kernel,
    by decide +kernel, by decide, by decide +kernel, rfl, rfl⟩
  intro d v hd h
  have : ∀ d, d ≠ 0 → ((inPhase .emitting wrap0).ctx d).wrap = none := by decide +kernel
  rw [show ((({ (inPhase .emitting wrap0).setTill 0 { vacantTill with binding := some bound, queue := [] } with placeWait := [0] } : State)).ctx d).wrap
    = ((inPhase .emitting wrap0).ctx d).wrap from rfl, this d hd] at h
  cases h

/-- R57: the message of a lost reservation goes to the head of the queue, and the tail of a full one is refused. -/
theorem test_rewrite_returns_message :
    (((({ (inPhase .wrapping wrap0).setTill 0 { vacantTill with binding := some bound, queue := [void, void] } with placeWait := [] } : State).rewriteTill
      0 bound { bound with number := 1034 }).till 0).queue = [sale, void])
      ∧ ((({ (inPhase .wrapping wrap0).setTill 0 { vacantTill with binding := some bound, queue := [void, void] } with placeWait := [] } : State).rewriteTill
        0 bound { bound with number := 1034 }).count .localRefused = 1) := by decide +kernel

theorem test_hyp_EnableAndDisableTill :
    (taking serving (.enableTill 0)).mgmt.taken = some (taken (.enableTill 0)) ∧ (serving.till 0).binding = some bound
      ∧ (serving.ctr bound.slot 0).failed = false ∧ (serving.till 127).binding = none
      ∧ (((serving.setCtr 0 0 { c := 250, k := 256, raise := none, failed := true }).ctr bound.slot 0).failed = true
          ∧ ((serving.setCtr 0 0 { c := 250, k := 256, raise := none, failed := true }).ctr bound.slot 0).raise = none)
      ∧ serving.counters.inFlight = none ∧ serving.counters.activations = [] ∧ serving.counters.eraseWanted = false
      ∧ serving.erasing = false ∧ (∀ c w, (serving.ctx c).wrap = some w → w.till ≠ 0)
      ∧ ((inPhase .wrapping wrap0).ctx 0) = { phase := .wrapping, wrap := some wrap0 } ∧ wrap0.till = 0 ∧ wrap0.msg = some sale
      ∧ (∀ d v, d ≠ 0 → ((inPhase .wrapping wrap0).ctx d).wrap = some v → v.till ≠ 0) ∧ (inPhase .wrapping wrap0).placeWait = []
      ∧ serving.count .localRefused ≤ 65535 := by
  refine ⟨rfl, by decide +kernel, by decide +kernel, by decide +kernel, by decide +kernel, rfl, rfl, rfl, rfl, test_no_wrap 0, rfl, rfl, rfl, ?_,
    rfl, by decide +kernel⟩
  intro d v hd h
  have : ∀ d, d ≠ 0 → ((inPhase .wrapping wrap0).ctx d).wrap = none := by decide +kernel
  rw [this d hd] at h; cases h

/-- R87 to R92, R177, R182: operands that fit at both ends of their ranges, one past them, and a safe and an unsafe map. -/
theorem test_hyp_SettingsCommandsWriteTheirSetting :
    let gwFits : Gateway → Bool := fun g => g.ip == 0 || (g.hop != 0 && !g.hop.getLsbD 40)
    let low : FieldMap := [⟨1, .pass⟩, ⟨254, .encrypt⟩, ⟨3, .encryptMask⟩, ⟨5, .remove⟩, ⟨6, .encrypt⟩]
    (taking serving (.writeProfile ops)).mgmt.taken = some (taken (.writeProfile ops))
      ∧ ((7 : ProfIx).val = ops.index ∧ TillClass.kiosk.code = ops.cls ∧ StandInPolicy.alsoOnTimeout.code = ops.policy
          ∧ refundsCode true = ops.refunds ∧ DefaultTreatment.remove.code = ops.dflt ∧ 50 ≤ ops.risk ∧ ops.risk ≤ 400
          ∧ gwFits ops.gateway = true)
      ∧ mapSafe (serving.fieldMap 7) .remove = true ∧ mapSafe [⟨3, .pass⟩] .remove = false
      ∧ low.map (fun r => (r.tag, r.treatment.code)) = [(1, 1), (254, 2), (3, 3), (5, 4), (6, 2)]
      ∧ (∀ r ∈ low, 1 ≤ r.tag ∧ r.tag ≤ 254 ∧ (r.treatment = .encryptMask → r.tag = 3)) ∧ (low.map (·.tag)).Nodup
      ∧ mapSafe low (serving.profile 0).dflt = true ∧ ¬ ([3, 3] : List Nat).Nodup
      ∧ (taking serving (.setLimits 255 17592186044415 0 0 0)).mgmt.taken = some (taken (.setLimits 255 17592186044415 0 0 0))
      ∧ (taking serving (.setLimits 7 0 0 255 0)).mgmt.taken = some (taken (.setLimits 7 0 0 255 0))
      ∧ (taking serving (.setLink 0 9 16 61)).mgmt.taken = some (taken (.setLink 0 9 16 61))
      ∧ (taking serving (.setStore storeOps)).mgmt.taken = some (taken (.setStore storeOps)) ∧ storeOps.ports.length = 4
      ∧ (TriggerMode.auto.code = storeOps.mode ∧ Containment.strict.code = 1 ∧ Containment.lenient.code = storeOps.policy
          ∧ 1 ≤ storeOps.window ∧ storeOps.window ≤ 8 ∧ 1 ≤ storeOps.share ∧ storeOps.share ≤ 8 ∧ storeOps.portCount ≤ 4
          ∧ 0 ∉ storeOps.ports.take storeOps.portCount ∧ gwFits storeOps.drainGw = true ∧ gwFits storeOps.probeGw = true) := by
  exact ⟨rfl, by decide, by decide +kernel, by decide, rfl, by decide, by decide, by decide +kernel, by decide, rfl, rfl, rfl, rfl, rfl,
    by decide⟩

/-- R151, R154, R168: limits below a till's total and a card's, and a drain that each change of the drain gateway moves, or does not. -/
theorem test_hyp_SettingsCommandsWriteTheirSetting_drain :
    let above : State := { serving with standIn := { emptyStandIn with tillTotals := emptyStandIn.tillTotals.set 0 501 } }
    let card : State := { serving with standIn := { emptyStandIn with cards := [{ fp := { value := 1, gen := 1 }, count := 2, total := 501 }] } }
    let armed : State := { serving with drain := { resetDrain with state := .armed } }
    ((above.till 0).binding = some bound ∧ bound.profile = 0 ∧ 500 < above.standIn.tillTotals[(0 : TillIx)])
      ∧ (∃ x ∈ card.standIn.cards, 1 < x.count ∨ 600 < x.total) ∧ (serving.standIn.cards = [] ∧ serving.standIn.tillTotals[(0 : TillIx)] = 0)
      ∧ (draining none).drain.state = .running
      ∧ (armed.drain.state = .armed ∧ armed.link.state = .up ∧ armed.link.settled = true ∧ storeOps.drainGw.ip ≠ 0)
      ∧ serving.drain.state = .idle := by
  refine ⟨⟨rfl, rfl, by decide +kernel⟩, ⟨_, List.mem_singleton.2 rfl, by decide⟩, ⟨rfl, by decide +kernel⟩, rfl, ⟨rfl, rfl, rfl, by decide⟩, rfl⟩

/-- A base key of two blocks carried for a target under a transport key, with the verification block of R71. -/
def carried (k : Key) (p1 p2 : Block) (target ksid gen : Nat) : BitVec 384 :=
  cipher k p1 ++ cipher k (p2 ^^^ cipher k p1) ++ cipher k (verificationBlock target ksid gen ^^^ cipher k (p2 ^^^ cipher k p1))

theorem test_carried (s : State) (p1 p2 : Block) (target ksid gen : Nat) :
    s.decryptKey target ksid gen (carried s.transportKey p1 p2 target ksid gen) = some (p1 ++ p2 : BitVec 256) := by
  have e := plainBlocks_built s.transportKey p1 p2 (verificationBlock target ksid gen)
  unfold State.decryptKey carried
  rw [e]
  exact if_pos rfl

theorem test_hyp_KeyAndQuietCommands :
    let staged : State := serving.setSlot 3 { emptySlot with staged := some (goodRecord 3 1) }
    let c : Instr := .loadKey 15 1 65535 (carried serving.transportKey 1 2 15 1 65535)
    (taking serving c).mgmt.taken = some (taken c) ∧ (15 : SlotIx).val = 15 ∧ 65535 ≤ 65535
      ∧ serving.decryptKey 15 1 65535 (carried serving.transportKey 1 2 15 1 65535) = some ((1 : Block) ++ (2 : Block) : BitVec 256)
      ∧ serving.decryptKey 255 1 1 (carried serving.transportKey 1 2 255 1 1) = some ((1 : Block) ++ (2 : Block) : BitVec 256)
      ∧ (serving.writer2.inFlight = none ∧ serving.writer2.waiting = [] ∧ serving.writer2.eraseWanted = false ∧ serving.erasing = false)
      ∧ serving.holding.lines = [] ∧ holdingOne.holding.lines ≠ [] ∧ serving.keys.fpFloor < 1 ∧ (serving.slot 15).floor < 65535
      ∧ (serving.slot 0).floor = 1 ∧ (serving.slot 15).busy = false
      ∧ (taking serving (.activateKey 3)).mgmt.taken = some (taken (.activateKey 3))
      ∧ (∀ j ∈ serving.mgmt.jobs, ∀ g l, j.role ≠ .waiting g l)
      ∧ (∃ j ∈ [waitingJob (.slot 3) (some 2000)], ∃ g l, j.role = .waiting g l)
      ∧ (∀ i w, (serving.ctx i).wrap = some w → w.slot ≠ 3) ∧ (staged.slot 3).state ≠ .faulted ∧ (staged.slot 3).busy = false
      ∧ (staged.slot 3).staged.isSome = true ∧ (staged.slot 3).previous = none
      ∧ (serving.slot 0).state ≠ .empty ∧ (awaiting.outstanding.map (fun e => (e.till, e.reference))).Nodup ∧ awaiting.placeWait = []
      ∧ (∀ i, (serving.ctx i).phase = .idle) ∧ serving.outstanding = [] ∧ serving.placeWait = [] := by
  refine ⟨rfl, rfl, by decide, test_carried _ _ _ _ _ _, test_carried _ _ _ _ _ _, ⟨rfl, rfl, rfl, rfl⟩, rfl, by decide, by decide +kernel,
    by decide +kernel, rfl, rfl, rfl, ?_, ⟨_, List.mem_singleton.2 rfl, _, _, rfl⟩, ?_, by decide +kernel, by decide +kernel,
    by decide +kernel, by decide +kernel, by decide +kernel, by decide, rfl, by decide +kernel, rfl, rfl⟩
  · intro j hj; exact absurd hj (List.not_mem_nil)
  · intro i w h
    have : ∀ i, (serving.ctx i).wrap = none := by decide +kernel
    rw [this i] at h; cases h

/-- R74, R78, R184: the slots each check of ACTIVATE-KEY and ERASE-KEY is for, and a store that is not empty. -/
theorem test_hyp_KeyAndQuietCommands_checks :
    let s : KeySlot → State := fun x => serving.setSlot 3 x
    ((s { emptySlot with state := .faulted }).slot 3).state = .faulted ∧ ((s { emptySlot with busy := true }).slot 3).busy = true
      ∧ ((s { emptySlot with busy := true }).slot 3).state ≠ .faulted
      ∧ (((s emptySlot).slot 3).busy = false ∧ ((s emptySlot).slot 3).staged = none ∧ ((s emptySlot).slot 3).state = .empty)
      ∧ (let x : KeySlot := { emptySlot with staged := some (goodRecord 3 2), previous := some (goodRecord 3 1), state := .active }
        ((s x).slot 3).staged.isSome = true ∧ ((s x).slot 3).previous.isSome = true ∧ ((s x).slot 3).busy = false)
      ∧ (taking (s emptySlot) (.eraseKey 3)).mgmt.taken = some (taken (.eraseKey 3)) ∧ (taken (.eraseKey 3)).cmd = .eraseKey (3 : SlotIx).val
      ∧ (taking holdingOne (.decommission 0)).mgmt.taken = some (taken (.decommission 0)) ∧ holdingOne.holding.lines ≠ []
      ∧ (∀ i, (holdingOne.ctx i).phase = .idle) ∧ ∀ j ∈ holdingOne.mgmt.jobs, ∀ g l, j.role ≠ .waiting g l := by
  refine ⟨rfl, rfl, by decide +kernel, ⟨rfl, rfl, rfl⟩, ⟨rfl, rfl, rfl⟩, rfl, rfl, rfl, by decide, by decide +kernel, ?_⟩
  intro j hj
  exact absurd hj List.not_mem_nil

/-- R78, R132, R185: an erasure with an entry to remove and a message to refuse, one with a sector 2 write in flight, a decommissioning with
an entry, and the end of a sector 1 write with DECOMMISSION's erase wanted. -/
theorem test_hyp_KeyAndQuietCommands_erasure :
    let s : State := awaiting.setTill 0 { vacantTill with binding := some bound, queue := [void] }
    let w2 : Write2 := { contents := none, additions := [], zeroise := false, thenErase3 := false, void := false }
    let w1 : State := { serving with writer1 := { inFlight := some none, wanted := true, eraseWanted := true } }
    (s.outstanding.filter (fun e => e.slot == 0) = [entry0] ∧ (s.boundTills 0).flatMap (fun i => (s.till i).queue) = [void])
      ∧ ((s.slot 0).busy = false ∧ (s.slot 0).state ≠ .empty ∧ s.placeWait = [] ∧ s.ipId < 65536 ∧ s.lane.linkUp = true
          ∧ s.lane.priority.length + 2 ≤ 32 ∧ s.count .localTimedOut ≤ 65535 ∧ s.count .entryErased ≤ 65535)
      ∧ ({ s with writer2 := { s.writer2 with inFlight := some w2 } } : State).writer2.inFlight.isSome = true
      ∧ (s.erasing = false ∧ s.writer2.inFlight = none ∧ ∀ i, (s.ctx i).phase = .idle)
      ∧ (w1.writer1.inFlight = some none ∧ w1.writer1.eraseWanted = true ∧ w1.erasing = false
          ∧ w1.settings.store.policy = .lenient) := by
  refine ⟨⟨by decide +kernel, by decide +kernel⟩, by decide +kernel, rfl, by decide +kernel, rfl, rfl, by decide +kernel, rfl⟩

/-- R78, R79, R132: the entry's till is answered TIMED-OUT, and then the waiting message REFUSED / NO-KEY. -/
theorem test_erase_key_replies :
    (match exec (.eraseKey 0) (taking (awaiting.setTill 0 { vacantTill with binding := some bound, queue := [void] }) (.eraseKey 0)) with
      | .next t => decide (t.outstanding = []
          ∧ t.lane.priority.map (·.bytes) = [replyFrame path 0 [1, 6, 4, 9, 0, 0, 0, 7, 0], replyFrame path 1 [1, 5, 4, 9, 0, 0, 0, 8, 22]]
          ∧ (t.slot 0).state = .empty ∧ t.writer2.inFlight.isSome = true)
      | .fault _ => false
      | .refused _ => false) = true := by decide +kernel

theorem test_hyp_DrainReleaseAndResetCommands :
    let ordered : State := { holdingOne with settings := { blankSettings with store := { blankStore with mode := .command } } }
    let erasing2 : Write2 → State := fun w => { serving with writer2 := { serving.writer2 with inFlight := some w } }
    (taking serving .startDrain).mgmt.taken = some (taken .startDrain) ∧ (taking serving .stopDrain).mgmt.taken = some (taken .stopDrain)
      ∧ (taking serving .releaseLockdown).mgmt.taken = some (taken .releaseLockdown)
      ∧ (taking serving .reset).mgmt.taken = some (taken .reset)
      ∧ (ordered.settings.store.mode = .command ∧ ordered.opState = .serving ∧ ordered.drain.state = .idle
          ∧ ordered.anyHeld = true)
      ∧ holdingOne.settings.store.mode = .auto ∧ (draining none).drain.state = .running ∧ serving.opState ≠ .lockdown
      ∧ ({ serving with opState := .lockdown }).opState = .lockdown ∧ serving.tamperIn = false
      ∧ ({ serving with tamperIn := true }).tamperIn = true ∧ serving.zeroising = false
      ∧ (erasing2 { contents := none, additions := [], zeroise := true, thenErase3 := false, void := false }).zeroising = true := by
  decide +kernel

theorem test_hyp_FactoryPortCommands :
    let made : State := { State.reset with opState := .factory, startup := .over }
    let open_ : Identity := { ident with closed := false }
    let s : FactoryOp → State := fun x => { made with factory := { made.factory with op := some x } }
    made.factoryReady = true ∧ made.factory.waiting = [] ∧ made.opState = .factory ∧ made.isClosed = false
      ∧ ((0x020000000001 : Mac) ≠ 0 ∧ (0x020000000001 : Mac).getLsbD 40 = false)
      ∧ ({ made with store := { made.store with sec0 := .good open_ } }).store.sec0 = .good open_ ∧ made.store.sec0 = .blank
      ∧ serving.opState ≠ .factory ∧ made.erasing = false ∧ State.reset.factoryReady = false ∧ made.factory.op = none
      ∧ (s (.identity open_)).factory.op = some (.identity open_) ∧ (s (.close ident)).factory.op = some (.close ident)
      ∧ (s .erase).factory.op = some .erase ∧ (s .erase).factoryReady = false := by
  decide +kernel

/-- R190: a failed CLOSE-FACTORY, and a port with a command waiting when it becomes ready. -/
theorem test_hyp_FactoryPortCommands_waiting :
    let made : State := { State.reset with opState := .factory, startup := .over }
    let s : State := { made with factory := { made.factory with op := some (.close ident), waiting := [.closeFactory] } }
    let t : State := { made with factory := { made.factory with waiting := [.closeFactory, .fullErase] } }
    s.factory.op = some (.close ident) ∧ (t.factory.waiting = .closeFactory :: [.fullErase] ∧ t.factoryReady = true)
      ∧ (∀ w, s.writer2.inFlight = some w → w.zeroise = false) := by
  refine ⟨rfl, ⟨rfl, rfl⟩, ?_⟩
  intro w h
  cases h

/-- R190: each command has its answer: a write that ends and a command refused after it. -/
theorem test_factory_answers :
    let s : State := { State.reset with
      opState := .factory, startup := .over
      factory := { op := some (.identity { ident with closed := false }), waiting := [.writeIdentity 1 0 0x88B5 0 0], answers := [] } }
    (match exec (.factoryWriteEnd true true true true) s with
      | .next t => decide (t.factory.answers = [(.done, .factory), (.refused, .factory)])
      | .fault _ => false
      | .refused _ => false) = true := by decide +kernel

/-! ### Places, cards, late frames, cut operations and the writes of a DECOMMISSION -/

/-- Entries of till 0, of references from 100 on. -/
def entries (n : Nat) : List OutEntry := (List.range n).map (fun j => { entry0 with reference := 100 + j })

/-- A part with `n` Outstanding entries, context 0 in EMITTING with its place taken and its frame waiting, and contexts 1 and 2 waiting for a
place. -/
def crowded (n : Nat) (order : List (Waiter × TxFrame)) : State :=
  { ((serving.setCtx 0 { phase := .emitting, wrap := some { wrap0 with place := true } }).setCtx 1
      { phase := .emitting, wrap := some { wrap0 with till := 1 } }).setCtx 2 { phase := .emitting, wrap := some { wrap0 with till := 2 } } with
    outstanding := entries n, placeWait := [1, 2], waitOrder := order }

/-- A frame that waits. -/
def waitingFrame : TxFrame := { bytes := [1], isReset := false }

theorem test_hyp_StepKeepsPlacesAndCardsBounded :
    (crowded 255 [(.ctx 0, waitingFrame)]).placesSound ∧ (crowded 255 [(.ctx 0, waitingFrame)]).usedPlaces = 256
      ∧ (∃ t, step (crowded 255 [(.ctx 0, waitingFrame)]) = .next t) ∧ serving.cardsBounded
      ∧ ({ serving with standIn := { serving.standIn with
            cards := List.replicate 512 { fp := { value := 0, gen := 1 }, count := 1, total := 1 } } } : State).cardsBounded
      ∧ ∀ bad heads messages, serving.pending.head? ≠ some (.holdingScanEnd bad heads messages) := by
  refine ⟨⟨by decide +kernel, ?_, by decide, ?_, ?_, ?_⟩, by decide +kernel, ⟨_, rfl⟩, by unfold State.cardsBounded; decide,
    by unfold State.cardsBounded; decide +kernel,
    fun _ _ _ h => by cases h⟩
  · have h : ∀ i, ((crowded 255 [(.ctx 0, waitingFrame)]).ctx i).wrap.all (fun w =>
        decide ((w.place = true → ((crowded 255 [(.ctx 0, waitingFrame)]).ctx i).phase = .emitting)
          ∧ (w.inHand.isSome = true → ((crowded 255 [(.ctx 0, waitingFrame)]).ctx i).phase = .holding))) = true := by decide +kernel
    intro i w hw
    have := h i
    rw [hw] at this
    exact of_decide_eq_true this
  · intro i hi
    have : i = 1 ∨ i = 2 := by simpa [crowded] using hi
    rcases this with rfl | rfl
    · exact ⟨rfl, _, rfl, rfl⟩
    · exact ⟨rfl, _, rfl, rfl⟩
  · have h : ∀ i, ((crowded 255 [(.ctx 0, waitingFrame)]).ctx i).wrap.all (fun w =>
        decide (((crowded 255 [(.ctx 0, waitingFrame)]).waitOrder.filter (fun x => x.1 == .ctx i)).length ≤ (if w.place then 1 else 0)))
          = true := by decide +kernel
    intro i w hw
    have := h i
    rw [hw] at this
    simpa using this
  · have h : ∀ i, ((crowded 255 [(.ctx 0, waitingFrame)]).ctx i).wrap = none → i = 3 := by decide +kernel
    intro i hi x hx
    rw [h i hi]
    have : x = (.ctx 0, waitingFrame) := by simpa [crowded] using hx
    rw [this]
    decide

theorem test_hyp_FreedPlaceGoesToTheEarliestWaiting :
    let s := crowded 254 [(.ctx 0, waitingFrame)]
    let t := crowded 254 []
    let u := crowded 255 [(.ctx 0, waitingFrame)]
    (serving.placeWait = [] ∧ 256 ≤ u.usedPlaces)
      ∧ (s.placeWait = 1 :: [2] ∧ s.usedPlaces = 255 ∧ (s.ctx 1).wrap = some { wrap0 with till := 1 } ∧ wrap0.msg = some sale
          ∧ wrap0.place = false ∧ s.waitOrder ≠ [])
      ∧ (t.usedPlaces = 255 ∧ t.uplinkOpen)
      ∧ (u.placeWait = 1 :: [2] ∧ u.usedPlaces = 256 ∧ { entry0 with reference := 100 } ∈ u.outstanding
          ∧ (u.outstanding.map (fun x => (x.till, x.reference))).Nodup)
      ∧ ((0 : CtxIx) ∉ u.placeWait ∧ (u.ctx 0).wrap = some { wrap0 with place := true } ∧ (u.ctx 0).phase = .emitting
          ∧ ∀ d, d ≠ 0 → ∀ v, (u.ctx d).wrap = some v → v.till ≠ 0) := by
  intro s t u
  refine ⟨⟨rfl, by decide +kernel⟩, ⟨rfl, by decide +kernel, rfl, rfl, rfl, by decide⟩, ⟨by decide +kernel, rfl, by decide, rfl⟩,
    ⟨rfl, by decide +kernel, by decide +kernel, ?_⟩, ⟨by decide, rfl, rfl, ?_⟩⟩
  · have : u.outstanding.map (fun x => (x.till, x.reference)) = (List.range 255).map (fun j => ((0 : TillIx), 100 + j)) := by
      simp [u, crowded, entries, entry0]
    rw [this]
    exact List.nodup_range.map (fun a b h => by simpa using h)
  · have h : ∀ d, d ≠ 0 → (u.ctx d).wrap.all (fun v => decide (v.till ≠ 0)) = true := by decide +kernel
    intro d hd v hv
    have := h d hd
    rw [hv] at this
    simpa using this

/-- R101: the place freed by an entry's window goes to context 1, which waits for the queue behind context 0; context 2 waits on. -/
theorem test_place_served :
    (match exec (.replyWindowExpiry 0 100) (crowded 255 [(.ctx 0, waitingFrame)]) with
      | .next t => decide (t.usedPlaces = 256 ∧ t.placeWait = [2] ∧ t.waitOrder.map (·.1) = [.ctx 0, .ctx 1]
          ∧ (t.ctx 1).wrap.map (·.place) = some true)
      | .fault _ => false
      | .refused _ => false) = true := by decide +kernel

/-- R23, R24, R26, R88: once its gateway has been replaced, a reply to the part is UNCLAIMED by step 7, and one addressed elsewhere is
bridged by step 8. -/
theorem test_replaced_gateway :
    let late : State := { gated with settings := { gated.settings with
      profiles := serving.settings.profiles.set 0 { blankProfile with gateway := { ip := 8, port := 6000, hop := 2 } }
      store := { gated.settings.store with drainGw := noGateway, probeGw := noGateway } } }
    let f : Nat → Bytes := fun dst => good dst 2 0x0800 (udpTo 1 7 100 6000 (List.replicate 17 0))
    (gated.classifyUplink (f 0x020000000001)).count .unclaimed = gated.count .unclaimed
      ∧ (late.classifyUplink (f 0x020000000001)).count .unclaimed = late.count .unclaimed + 1
      ∧ (late.classifyUplink (f 0x020000000001)).lane.bridge = late.lane.bridge
      ∧ (late.classifyUplink (f 1)).lane.bridge.length = late.lane.bridge.length + 1 := by decide +kernel

theorem test_hyp_LocalReplyIsCountedAndPlaced_down :
    ({ serving with lane := quietPort false } : State).lane.priority.length < 32
      ∧ ({ serving with lane := quietPort false } : State).lane.linkUp = false := by decide

theorem test_hyp_AcknowledgementAsksForTheFree_other : (List.replicate 14 (1 : Byte)).length ≠ 13
    ∧ (List.replicate 13 (2 : Byte)).length = 13 ∧ field (List.replicate 13 (2 : Byte)) 0 1 ≠ 1 := by decide

/-- R158, R159, R162, R190: a write, a free, a format and a full erase for a reset to cut short. -/
theorem test_hyp_ResetsTakeVolatileState_cut :
    let s : List StoreOp → Format → State := fun o x =>
      { serving with holding := { formattedStore with
          nv := [{ slot := 1, contents := some record5, commit := some 1, headPasses := true }], ops := o, format := x } }
    ((s [] .running).erasing = false ∧ (s [] .running).holding.format = .running)
      ∧ ((s [.write 0 .nobody record5] .none).holding.ops = .write 0 .nobody record5 :: [] ∧ (s [] .none).holding.format ≠ .running
          ∧ ((s [] .none).holding.nv.map (·.slot)).Pairwise (· < ·))
      ∧ (s [.free 1 .drain] .none).holding.ops = .free 1 .drain :: []
      ∧ ({ serving with factory := { serving.factory with op := some .erase } } : State).erasing = true := by
  refine ⟨⟨by decide +kernel, rfl⟩, ⟨rfl, by decide, by decide⟩, rfl, by decide +kernel⟩

/-- A store with a slot for each line of the table of R161: BAD, HELD, torn without a commit mark, HELD with a damaged message, lost, torn by
its sequence. -/
def tableStore : HoldingStore :=
  let x : Nat → Option Nat → NvSlot := fun n q =>
    { slot := n, contents := some { record5 with head := { head5 with seq := q.getD 0, fp := some { value := 1, gen := 1 } } }, commit := q,
      headPasses := true }
  { formattedStore with
    nv := [x 0 (some 1), x 1 (some 3), x 2 none, x 3 (some 2), x 4 (some 4), x 5 (some 9)], header := { passes := true, last := 4, bad := [0] } }

/-- The scan of it is about to end. -/
def scanning : State := { State.reset with startup := .scanning true false, holding := tableStore }

theorem test_hyp_ScanKeepsSoundRecords_table :
    scanning.startup = .scanning true false ∧ scanning.erasing = false ∧ scanning.opState = .starting
      ∧ (scanning.holding.nv.map (·.slot)).Pairwise (· < ·) ∧ scanning.count .tornRecord ≤ 65535 ∧ scanning.count .recordLost ≤ 65535
      ∧ scanning.events.fault = none
      ∧ (match exec (.holdingScanEnd true [4] [3]) scanning with
          | .next t => ∃ l : List IndexLine, l.Perm t.holding.lines ∧ l.Pairwise (fun x y => x.head.seq < y.head.seq)
          | .fault _ => False
          | .refused _ => False) := by
  refine ⟨rfl, by decide, rfl, by decide, by decide, by decide, rfl, ?_⟩
  have h : ∀ t, exec (.holdingScanEnd true [4] [3]) scanning = .next t →
      (bySequence t.holding.lines).Perm t.holding.lines
        ∧ (bySequence t.holding.lines).Pairwise (fun x y => x.head.seq < y.head.seq) := by
    intro t ht
    cases ht
    decide +kernel
  exact ⟨_, h _ rfl⟩

/-- R153, R161: by the header's list and sequence, and with the header failing. -/
theorem test_scan_table :
    (match exec (.holdingScanEnd false [4] [3]) scanning with
      | .next t => decide (t.holding.lines.map (·.slot) = [1, 3] ∧ t.holding.bad = [0, 4] ∧ t.holding.header.bad = [0, 4]
          ∧ t.count .tornRecord = 2 ∧ t.count .recordLost = 1 ∧ t.holding.next = 5 ∧ t.standIn.storeTotal = 1000
          ∧ t.standIn.cards.map (·.count) = [2] ∧ t.cause = true)
      | .fault _ => false
      | .refused _ => false) = true
    ∧ (match exec (.holdingScanEnd true [4] [3]) scanning with
      | .next t => decide (t.holding.lines.map (·.slot) = [0, 1, 3, 5] ∧ t.holding.bad = [4] ∧ t.holding.header.bad = [0]
          ∧ t.count .tornRecord = 1 ∧ t.count .storeHeaderFail = 1 ∧ t.holding.next = 10
          ∧ t.events.fault.map (·.code) = some .storeHeaderFail)
      | .fault _ => false
      | .refused _ => false) = true := by decide +kernel

/-- A sector 2 write of a kind, with what it adds. -/
def write2 (contents : Option Sector2) (thenErase3 void : Bool) : Write2 :=
  { contents := contents, additions := [.load 3 (goodRecord 3 2)], zeroise := false, thenErase3 := thenErase3, void := void }

/-- The job of a DECOMMISSION that waits for its erases. -/
def decommissioning : Job := { waitingJob .engine none with s1 := .inFlight, s2 := .inFlight, s3 := .no, format := true }

theorem test_hyp_DecommissionWritesEnd :
    let c2 : Sector2 := { slots := Vector.replicate 16 { current := none, staged := none, state := .empty, floor := 0 }, fp := none, fpFloor := 0 }
    let s : Write2 → Option Write3 → State := fun w x =>
      { serving with
        writer2 := { inFlight := some w, waiting := [], wanted := false, eraseWanted := w.void }
        counters := { serving.counters with inFlight := x }
        mgmt := { serving.mgmt with jobs := [decommissioning] } }
    let w3 : Bool → Write3 := fun e => { raises := [], activations := [], erase := e, void := !e, contents := Vector.replicate 16 (Vector.replicate 128 0) }
    let e := write2 none true false
    let v := write2 (some c2) false true
    ((s e none).writer2.inFlight = some e ∧ e.contents = none ∧ e.thenErase3 = true ∧ e.void = false ∧ e.zeroise = false
        ∧ (s e none).counters.inFlight = none ∧ (s e none).erasing = false ∧ (s e none).mgmt.jobs[0]? = some decommissioning
        ∧ decommissioning.isWaiting = true ∧ (s e none).writer2.wanted = false ∧ (s e none).writer2.eraseWanted = false)
      ∧ (s e (some (w3 false))).counters.inFlight.isSome = true
      ∧ ((s e (some (w3 true))).counters.inFlight = some (w3 true) ∧ (w3 true).erase = true ∧ (s e none).counters.pending = []
          ∧ (s e none).counters.activations = [] ∧ (s e none).counters.eraseWanted = false)
      ∧ ({ serving with writer1 := { inFlight := some none, wanted := false, eraseWanted := false } } : State).writer1.inFlight = some none
      ∧ ((s v none).writer2.inFlight = some v ∧ v.contents = some c2 ∧ v.void = true ∧ v.thenErase3 = false ∧ v.zeroise = false
          ∧ (s v none).writer2.eraseWanted = true ∧ (s v none).count .keyLoaded ≤ 65535)
      ∧ ((w3 false).erase = false ∧ (w3 false).void = true)
      ∧ (serving.settings.store.policy = .lenient ∧ (strictly serving).settings.store.policy = .strict ∧ serving.opState = .serving
          ∧ serving.events.fault = none) := by
  refine ⟨⟨rfl, rfl, rfl, rfl, rfl, rfl, by decide +kernel, rfl, rfl, rfl, rfl⟩, rfl, ⟨rfl, rfl, rfl, rfl, rfl⟩, rfl,
    ⟨rfl, rfl, rfl, rfl, rfl, rfl, by decide +kernel⟩, ⟨rfl, rfl⟩, rfl, rfl, rfl, rfl⟩

/-- R185: the end of the erase of sector 2 begins the erase of sector 3, which the command then waits for; its failure begins none. -/
theorem test_decommission_erases :
    let s : State :=
      { (serving.setSlot 3 { emptySlot with busy := true }) with
        writer2 := { inFlight := some (write2 none true false), waiting := [], wanted := false, eraseWanted := false }
        mgmt := { serving.mgmt with jobs := [decommissioning] } }
    (match exec (.sectorWriteComplete .keys) s with
      | .next t => decide (t.store.sec2 = .blank ∧ t.counters.inFlight.map (·.erase) = some true ∧ t.mgmt.jobs.map (·.s3) = [.inFlight]
          ∧ (t.slot 3).busy = false ∧ (t.slot 3).staged = none ∧ t.count .keyLoaded = 0)
      | .fault _ => false
      | .refused _ => false) = true
    ∧ (match exec (.sectorWriteFail .keys) s with
      | .next t => decide (t.counters.inFlight = none ∧ t.mgmt.jobs.map (·.s3) = [.no] ∧ t.count .nvWriteFail = 1)
      | .fault _ => false
      | .refused _ => false) = true := by decide +kernel

/-- R68, R71, R73: a load of the fingerprint key and of a slot's, and an activation, with a load of the fingerprint key in flight. -/
theorem test_hyp_KeyAndQuietCommands_waiting :
    let w : Write2 := { contents := none, additions := [.loadFp (goodRecord 255 1)], zeroise := false, thenErase3 := false, void := false }
    let s : State := { (serving.setSlot 3 { emptySlot with staged := some (goodRecord 3 1) }) with
      writer2 := { serving.writer2 with inFlight := some w } }
    s.writer2.inFlight.isSome = true ∧ s.holding.lines = [] ∧ s.keys.fpFloor < 2
      ∧ s.decryptKey 255 1 2 (carried s.transportKey 1 2 255 1 2) = some ((1 : Block) ++ (2 : Block) : BitVec 256)
      ∧ ((s.slot 15).floor < 65535 ∧ (s.slot 15).busy = false)
      ∧ ((s.slot 3).state ≠ .faulted ∧ (s.slot 3).busy = false ∧ (s.slot 3).staged.isSome = true ∧ (s.slot 3).previous = none) := by
  refine ⟨rfl, rfl, by decide +kernel, test_carried _ _ _ _ _ _, by decide +kernel, by decide +kernel⟩

/-! ### Notices, sound tills, pairs and sequences, and a condition met while a command waits -/

/-- R158, R161: a write cut short after a scan that found the header failing: the rebuilt bad-slot list differs from the header's, and a write
that had completed leaves the rebuilt one. -/
theorem test_hyp_ResetsTakeVolatileState_header :
    let s : State := { serving with
      holding := { formattedStore with
        nv := [{ slot := 1, contents := some record5, commit := some 1, headPasses := true }]
        header := { passes := false, last := 4, bad := [0] }, bad := [4], ops := [.write 2 .nobody record5] } }
    s.erasing = false ∧ s.holding.format ≠ .running ∧ s.holding.ops = .write 2 .nobody record5 :: []
      ∧ (s.holding.nv.map (·.slot)).Pairwise (· < ·) ∧ s.holding.bad ≠ s.holding.header.bad
      ∧ (s.holding.cutWrite 2 record5 2).header = { passes := true, last := 1, bad := [4] }
 := by
  refine ⟨by decide +kernel, by decide, rfl, by decide, by decide, rfl⟩

/-- R165, R170: a damaged notice that waits for a place, and the place that a transmission frees: it counts as sent from then, and not where
STOP-DRAIN ends the pass before. -/
theorem test_hyp_TransmissionTakesTheHeadAndFreesThePort_drain :
    let f : TxFrame := { bytes := [], isReset := false }
    let s : State := { toDrain .running false with
      uplink := { quietPort true with priority := List.replicate 32 f }, waitOrder := [(.drain, f)]
      drain := { resetDrain with state := .running, cursor := 1, inHand := some 1 }
      holding := { (toDrain .running false).holding with lines := [{ line5 with draining := true }] } }
    s.uplink.sending = none ∧ s.uplink.linkUp = true ∧ s.waitOrder = (.drain, f) :: [] ∧ s.uplink.priority = f :: List.replicate 31 f
      ∧ (List.replicate 31 f).length = 31 ∧ s.drain.inHand = some 1
      ∧ ({ line5 with draining := true } ∈ s.holding.lines ∧ line5.held = true ∧ line5.head.seq = 1)
      ∧ s.holding.nv.find? (fun x => x.slot == line5.slot)
        = some { slot := 4095, contents := some { record5 with checkPasses := false }, commit := some 1, headPasses := true }
      ∧ (s.startSending .uplink).holding.lines.map (·.noticed) = [true] ∧ s.drainToIdle.holding.lines = [line5] := by decide +kernel

/-- R167, R168: the link is lost while a drain frame waits in hand: the pass ends with nothing placed. -/
theorem test_hyp_LinkLossDiscardsAndRestorationRecovers_drain :
    let f : TxFrame := { bytes := [], isReset := false }
    let s : State := { draining none with waitOrder := [(.drain, f)], drain := { resetDrain with state := .running, inHand := some 1 } }
    s.uplink.linkUp = true ∧ s.opState = .serving ∧ s.link.state = .up ∧ s.drain.state = .running
      ∧ (let t := s.loseLink .uplink
        t.drain.state = .armed ∧ t.waitOrder = [] ∧ t.holding.lines = [line5] ∧ t.count .linkDiscard = 0) := by decide +kernel

/-- A second till's binding. -/
def bound1 : Binding := { bound with mac := 0x0C0000000022, number := 1034 }

/-- The SERVING part with two tills, and sector 1 written with them. -/
def twoTills : State :=
  let s := serving.setTill 1 { vacantTill with binding := some bound1 }
  { s with store := { s.store with sec1 := .good { settings := s.settings, bindings := s.tills.map (·.binding), lastNumber := 0 } } }

theorem test_two_bindings (b : TillIx → Option Binding) (h0 : b 0 = some bound) (h1 : b 1 = some bound1)
    (h : ∀ i, i ≠ 0 → i ≠ 1 → b i = none) : bindingsSound b := by
  have only : ∀ i x, b i = some x → (i = 0 ∧ x = bound) ∨ (i = 1 ∧ x = bound1) := by
    intro i x hx
    by_cases i0 : i = 0
    · subst i0; exact .inl ⟨rfl, Option.some.inj (hx.symm.trans h0)⟩
    · by_cases i1 : i = 1
      · subst i1; exact .inr ⟨rfl, Option.some.inj (hx.symm.trans h1)⟩
      · rw [h i i0 i1] at hx; cases hx
  refine ⟨fun i x hx => ?_, fun i j x y hx hy hij => ?_⟩
  · rcases only i x hx with ⟨-, rfl⟩ | ⟨-, rfl⟩ <;> decide
  · rcases only i x hx with ⟨rfl, rfl⟩ | ⟨rfl, rfl⟩ <;> rcases only j y hy with ⟨rfl, rfl⟩ | ⟨rfl, rfl⟩
    · exact absurd rfl hij
    · decide
    · decide
    · exact absurd rfl hij

theorem test_hyp_StepKeepsTillsSound : twoTills.tillsSound ∧ ∃ t, step twoTills = .next t := by
  refine ⟨⟨test_two_bindings _ rfl rfl (by decide +kernel), ?_, ?_⟩, _, rfl⟩
  · intro c h
    cases h
    exact test_two_bindings _ (by decide +kernel) (by decide +kernel) (by decide +kernel)
  · intro c h; cases h

/-- A part with a pair in each of the places one can stand in: till 0's queue, a context, and the Outstanding List, whose entry needs the
previous record of slot 0. -/
def paired : State :=
  let s := inPhase .wrapping wrap0
  { (s.setTill 0 { vacantTill with binding := some bound, queue := [void], wrapInFlight := true }).setSlot 0
      { s.slot 0 with previous := some (goodRecord 0 4) } with
    outstanding := [{ entry0 with reference := 5, gen := 4 }] }

theorem test_hyp_StepKeepsPairsPreviousRecordsAndSequences :
    paired.placesSound ∧ paired.holdingSound ∧ paired.pairsSound ∧ paired.previousNeeded ∧ paired.references 0 = [8, 7, 5]
      ∧ ∃ t, step paired = .next t := by
  have ctxs : ∀ i w, (paired.ctx i).wrap = some w → i = 0 ∧ w = wrap0 := by
    intro i w h
    have none_ : ∀ i, i ≠ 0 → (paired.ctx i).wrap = none := by decide +kernel
    by_cases i0 : i = 0
    · subst i0; exact ⟨rfl, (Option.some.inj h).symm⟩
    · rw [none_ i i0] at h; cases h
  refine ⟨⟨by decide +kernel, ?_, by decide +kernel, ?_, ?_, ?_⟩, ⟨by decide +kernel, by decide +kernel, rfl, by decide +kernel, ?_, ?_, ?_⟩,
    ⟨by decide +kernel, ?_, ?_, ?_⟩, ?_, by decide +kernel, _, rfl⟩
  · intro i w h
    obtain ⟨rfl, rfl⟩ := ctxs i w h
    exact ⟨fun h => (by cases h), fun h => (by cases h)⟩
  · intro i h; exact absurd h List.not_mem_nil
  · intro i w h; exact Nat.zero_le _
  · intro i h x hx; exact absurd hx List.not_mem_nil
  · intro o ho; exact absurd ho List.not_mem_nil
  · intro h; exact absurd rfl h
  · intro h; cases h
  · intro i w h _
    obtain ⟨rfl, rfl⟩ := ctxs i w h
    decide +kernel
  · intro i j v w hv hw _ _ _
    rw [(ctxs i v hv).1, (ctxs j w hw).1]
  · intro i w h _
    obtain ⟨rfl, rfl⟩ := ctxs i w h
    exact ⟨rfl, by decide +kernel⟩
  · intro k r h
    have none_ : ∀ k, k ≠ 0 → (paired.slot k).previous = none := by decide +kernel
    by_cases k0 : k = 0
    · subst k0
      have : r = goodRecord 0 4 := (Option.some.inj h).symm
      exact ⟨_, List.mem_singleton.2 rfl, rfl, this ▸ rfl⟩
    · rw [none_ k k0] at h; cases h

/-- A store that is scanned, whose BAD slot holds a commit mark of a sequence that was given again; and one to scan, its header found failing
by the scan. -/
theorem test_hyp_StepKeepsPairsPreviousRecordsAndSequences_sequences :
    let x : Nat → NvSlot := fun n => { slot := n, contents := some record5, commit := some 1, headPasses := true }
    let s : State := { serving with holding := { formattedStore with
      nv := [x 0, x 4095], lines := [line5], header := { passes := true, last := 1, bad := [0] }, bad := [0], last := 1, next := 2 } }
    let u : State := { scanning with pending := [.holdingScanEnd true [4] [3]] }
    (s.holdingSound ∧ s.sequencesSound ∧ s.pending.head? ≠ some (.holdingScanEnd true [4] [3]) ∧ ∃ t, step s = .next t)
      ∧ (u.holdingSound ∧ u.sequencesSound ∧ (u.holding.marks []).Nodup ∧ ∃ t, step u = .next t) := by
  intro x s u
  refine ⟨⟨⟨by decide, by decide, rfl, by decide, ?_, ?_, ?_⟩, ⟨by decide, by decide, by decide, ?_, fun _ => ⟨fun _ => rfl, ?_⟩, ?_, ?_⟩,
    by decide, _, rfl⟩,
    ⟨by decide, by decide, rfl, by decide, ?_, ?_, ?_⟩, ⟨by decide, by decide, by decide, ?_, ?_, ?_, ?_⟩, by decide, _, rfl⟩
  · intro o ho; exact absurd ho List.not_mem_nil
  · intro h; exact absurd rfl h
  · intro h; cases h
  · intro y hy q hq
    simp only [s, List.mem_cons, List.not_mem_nil, or_false] at hy
    rcases hy with rfl | rfl <;> cases hq <;> exact ⟨by decide, fun r hr => by cases hr; rfl⟩
  · intro y hy q hq hbad
    simp only [s, List.mem_cons, List.not_mem_nil, or_false] at hy
    rcases hy with rfl | rfl <;> cases hq
    · exact absurd (List.mem_singleton.2 rfl) hbad
    · exact ⟨line5, List.mem_singleton.2 rfl, rfl, rfl, rfl⟩
  · intro h; exact absurd ⟨rfl, by decide, by decide⟩ h
  · intro h; cases h
  · intro o ho; exact absurd ho List.not_mem_nil
  · exact fun _ => ⟨rfl, by decide +kernel, rfl⟩
  · exact fun _ => ⟨rfl, rfl⟩
  · intro y hy q hq
    simp only [u, scanning, tableStore, List.mem_cons, List.not_mem_nil, or_false] at hy
    rcases hy with rfl | rfl | rfl | rfl | rfl | rfl <;> cases hq <;> exact ⟨by decide, fun r hr => by cases hr; rfl⟩
  · intro h; cases h.1
  · intro _ _; decide
  · intro h; cases h

/-- R44, R51: a retry with a sector 3 write in flight: its raise not asked for, asked for and waiting, and carried by the write. -/
theorem test_hyp_EnableAndDisableTill_inFlight :
    let w : Write3 :=
      { raises := [(0, 0)], activations := [], erase := false, void := false, contents := Vector.replicate 16 (Vector.replicate 128 256) }
    let s : Option Nat → List (SlotIx × TillIx) → State := fun raise pending =>
      let t := serving.setCtr 0 0 { c := 250, k := 256, raise := raise, failed := true }
      { t with counters := { t.counters with inFlight := some w, pending := pending } }
    let sent := fun u : State => (u.retryRaise (taken (.enableTill 0)) 0 0).mgmt.jobs.map (·.s3)
    (((s none []).ctr 0 0).failed = true ∧ (s none []).counters.inFlight = some w ∧ ((s none []).till 0).binding = some bound
        ∧ ((s none []).ctr 0 0).raise = none)
      ∧ (((s (some 512) [(0, 0)]).ctr 0 0).raise.isSome = true ∧ (0, 0) ∈ (s (some 512) [(0, 0)]).counters.pending)
      ∧ ((0, 0) ∉ (s (some 512) []).counters.pending ∧ (0, 0) ∈ w.raises)
      ∧ sent (s none []) = [.queued] ∧ sent (s (some 512) [(0, 0)]) = [.queued] ∧ sent (s (some 512) []) = [.inFlight] := by
  decide +kernel

/-- R162: a format that waits for a write in flight with two requests queued behind it, and its beginning when the write ends. -/
theorem test_hyp_FormatEndAndTamper_queued :
    let two : RecordHead := { head5 with seq := 2, reference := 4 }
    let o : InHand := { isVoid := false, number := 1033, reference := 7, path := path }
    let s : State := { inPhase .holding { wrap0 with msg := none, inHand := some o } with
      drain := { resetDrain with state := .armed }
      standIn := { emptyStandIn with tillTotals := emptyStandIn.tillTotals.set 5 1500, storeTotal := 1500 }
      holding := { formattedStore with
        lines := [{ line5 with slot := 1, held := false }, { line5 with slot := 2, head := two, held := false }, { line5 with freeing := true }]
        next := 3, format := .waiting
        ops := [.write 1 .nobody record5, .write 2 (.ctx 0) { record5 with head := two }, .free 4095 .drain] } }
    s.holding.format ≠ .running ∧ s.erasing = false
      ∧ s.holding.ops = .write 1 .nobody record5 :: [.write 2 (.ctx 0) { record5 with head := two }, .free 4095 .drain]
      ∧ (s.ctx 0).wrap = some { wrap0 with msg := none, inHand := some o } ∧ s.laneOpen
      ∧ s.holding.lines.find? (fun x => x.slot == 4095) = some { line5 with freeing := true }
      ∧ (let t := (s.endOp.writeDone 1 .nobody record5).afterOp
        t.holding.format = .running ∧ t.holding.ops = [] ∧ t.holding.lines.map (·.slot) = [1] ∧ t.standIn.storeTotal = 500
          ∧ t.ctx 0 = { phase := .idle, wrap := none } ∧ t.count .nvWriteFail = 0 ∧ t.drain.tally.count = 1
          ∧ t.lane.priority.map (·.bytes)
            = [replyFrame path 0 (be 1 1 ++ be 1 4 ++ be 2 1033 ++ be 4 7 ++ be 1 DeclineReason.storeFault.code)]) := by
  refine ⟨by decide, by decide +kernel, rfl, rfl, ⟨by decide, rfl⟩, rfl, by decide +kernel⟩

/-- R114, R178: a waiting command of each quiet class, with its condition met and not. -/
theorem test_hyp_WaitingCommandIsCarriedOutWhenQuiet :
    let job : Hold → Instr → Job := fun h c => { waitingJob h (some 2000) with cmd := some c }
    let s : State → Hold → Instr → State := fun s h c => { s with mgmt := { s.mgmt with jobs := [retrying, job h c] } }
    let staged := serving.setSlot 3 { emptySlot with staged := some (goodRecord 3 2) }
    (s staged (.slot 3) (.activateKey 3)).mgmt.jobs = [retrying] ++ job (.slot 3) (.activateKey 3) :: []
      ∧ (job (.slot 3) (.activateKey 3)).role = .waiting (.slot 3) (some 2000) ∧ retrying.role = .current
      ∧ (∀ i, (((s staged (.slot 3) (.activateKey 3)).ctx i).wrap).isSome = false)
      ∧ ((staged.slot 3).state ≠ .faulted ∧ (staged.slot 3).busy = false ∧ (staged.slot 3).staged.isSome = true
          ∧ (staged.slot 3).previous = none ∧ staged.writer2.inFlight = none ∧ staged.writer2.waiting = [] ∧ staged.erasing = false)
      ∧ ((((inPhase .wrapping { wrap0 with slot := 3 }).ctx 0).wrap.map (·.slot)) = some 3)
      ∧ ((serving.slot 0).busy = false ∧ (serving.slot 0).state ≠ .empty ∧ serving.placeWait = [])
      ∧ ((∀ i, (serving.ctx i).phase = .idle) ∧ serving.holding.lines = [] ∧ holdingOne.holding.lines ≠ []
          ∧ ((inPhase .wrapping wrap0).ctx 0).phase ≠ .idle)
      ∧ (let t := (s staged (.slot 3) (.activateKey 3)).quietCheck
        t.mgmt.jobs.map (fun j => (j.role, j.s2)) = [(.current, .no), (.waiting (.slot 3) none, .inFlight)] ∧ (t.slot 3).busy = true) := by
  refine ⟨rfl, rfl, rfl, by decide +kernel, by decide +kernel, by decide +kernel, by decide +kernel, by decide +kernel, by decide +kernel⟩

end Sys2Proof.Tests
end

section
/-! PROOFS. Integers, fields and carried commands (R2, R14, R180, R182): what is written reads back, and what is read was written so. -/

namespace Sys2Proof.Machine

/-! ### Integers and bytes -/

/-- A byte string's integer fits as many bytes. -/
theorem beNat_lt (b : Bytes) : beNat b < 256 ^ b.length := by
  induction b with
  | nil => decide
  | cons x b ih =>
    have hx : beNat [x] = x.toNat := by simp [beNat]
    have := x.isLt
    calc beNat (x :: b) = beNat [x] * 256 ^ b.length + beNat b := beNat_append [x] b
      _ < 256 ^ b.length * 256 := by rw [hx]; nlinarith
      _ = 256 ^ (x :: b).length := by rw [List.length_cons, Nat.pow_succ]

theorem field_lt (b : Bytes) (k w : Nat) : field b k w < 256 ^ w :=
  (beNat_lt _).trans_le (Nat.pow_le_pow_right (by decide) (by simp))

/-- What does not fit is cut off (R2). -/
theorem be_mod (w n : Nat) : be w (n % 256 ^ w) = be w n := by
  induction w generalizing n with
  | zero => rfl
  | succ w ih =>
    have hi : BitVec.ofNat 8 (n % 256 ^ (w + 1) / 256 ^ w) = BitVec.ofNat 8 (n / 256 ^ w) := by
      apply BitVec.eq_of_toNat_eq
      rw [Nat.pow_succ, Nat.mod_mul_right_div_self]
      simp
    have lo : be w (n % 256 ^ (w + 1)) = be w n := by
      rw [← ih (n % 256 ^ (w + 1)), Nat.pow_succ, Nat.mod_mul_right_mod, ih]
    rw [be, be, hi, lo]

/-- A bit vector of whole bytes, cut from an integer, is carried as the integer is. -/
theorem beVec_ofNat (w v n : Nat) (h : v = 8 * w) : beVec w (BitVec.ofNat v n) = be w n := by
  rw [beVec, BitVec.toNat_ofNat, h, Nat.pow_mul, be_mod]

/-- Bytes read as an integer and written again. -/
theorem be_beNat (b : Bytes) : be b.length (beNat b) = b := by
  induction b with
  | nil => rfl
  | cons x b ih =>
    have hx : beNat (x :: b) = x.toNat * 256 ^ b.length + beNat b := by
      simpa [beNat] using beNat_append [x] b
    have hb := beNat_lt b
    have hi : (x.toNat * 256 ^ b.length + beNat b) / 256 ^ b.length = x.toNat := by
      rw [Nat.mul_comm, Nat.mul_add_div (by positivity), Nat.div_eq_of_lt hb, Nat.add_zero]
    have lo : be b.length (x.toNat * 256 ^ b.length + beNat b) = b := by
      rw [← be_mod, Nat.mul_comm, Nat.mul_add_mod, be_mod, ih]
    rw [List.length_cons, be, hx, hi, lo]
    simp

/-! ### Reading a field of what was written -/

/-- A field behind a block is the field that many bytes earlier without it. -/
theorem field_skip (a b : Bytes) (k w : Nat) (h : a.length ≤ k) : field (a ++ b) k w = field b (k - a.length) w := by
  rw [field, List.drop_append, List.drop_eq_nil_of_le h, List.nil_append, field]

theorem field_head (a b : Bytes) : field (a ++ b) 0 a.length = beNat a := by simpa using field_between [] a b

theorem fits_field (b : Bytes) (k w : Nat) : fits w (field b k w) = true := decide_eq_true (field_lt b k w)

theorem field_be_append {w n : Nat} (b : Bytes) (h : fits w n = true) : field (be w n ++ b) 0 w = n := by
  have := field_head (be w n) b
  rwa [length_be, beNat_be, Nat.mod_eq_of_lt (of_decide_eq_true h)] at this

theorem field_be {w n : Nat} (h : fits w n = true) : field (be w n) 0 w = n := by simpa using field_be_append [] h

theorem field_beVec_append {v : Nat} (w : Nat) (x : BitVec v) (b : Bytes) (h : v = 8 * w) :
    BitVec.ofNat v (field (beVec w x ++ b) 0 w) = x := by
  have := field_head (beVec w x) b
  rw [length_beVec, beNat_beVec w x h.le] at this
  rw [this, BitVec.ofNat_toNat, BitVec.setWidth_eq]

theorem field_beVec {v : Nat} (w : Nat) (x : BitVec v) (h : v = 8 * w) : BitVec.ofNat v (field (beVec w x) 0 w) = x := by
  simpa using field_beVec_append w x [] h

/-! ### Writing the fields that were read -/

/-- A field written before what follows it gives the bytes from its offset on. -/
theorem be_field_append (b : Bytes) (k w m : Nat) (hm : m = k + w) (h : m ≤ b.length) :
    be w (field b k w) ++ b.drop m = b.drop k := by
  have hl : ((b.drop k).take w).length = w := by simp; omega
  have hb : be w (field b k w) = (b.drop k).take w := by
    have := be_beNat ((b.drop k).take w)
    rwa [hl] at this
  rw [hb, hm, ← List.drop_drop, List.take_append_drop]

/-- The last field, written, gives the bytes from its offset on. -/
theorem be_field_last (b : Bytes) (k w : Nat) (h : k + w = b.length) : be w (field b k w) = b.drop k := by
  have := be_field_append b k w (k + w) rfl h.le
  rwa [h, List.drop_length, List.append_nil] at this

end Sys2Proof.Machine

namespace Sys2Proof
open Machine

/-! ### Gateways and rules (R180, R182) -/

theorem decodeGateway_skip (a b : Bytes) (k : Nat) (h : a.length ≤ k) : decodeGateway (a ++ b) k = decodeGateway b (k - a.length) := by
  have h4 : k + 4 - a.length = k - a.length + 4 := by omega
  have h6 : k + 6 - a.length = k - a.length + 6 := by omega
  simp only [decodeGateway, field_skip a b _ _ h, field_skip a b _ _ (h.trans (Nat.le_add_right k 4)),
    field_skip a b _ _ (h.trans (Nat.le_add_right k 6)), h4, h6]

/-- A gateway that is carried reads back. -/
theorem decodeGateway_encode {g : Gateway} (b : Bytes) (hg : g.wf = true) : decodeGateway (encodeGateway g ++ b) 0 = g := by
  have hp : fits 2 g.port = true := hg
  simp [decodeGateway, encodeGateway, field_skip, field_be_append _ hp, field_beVec_append]

/-- A gateway that was read fits its fields. -/
theorem decodeGateway_wf (b : Bytes) (k : Nat) : (decodeGateway b k).wf = true := fits_field ..

/-- A gateway that was read is carried by the bytes it was read from. -/
theorem encodeGateway_decode (b : Bytes) (k m : Nat) (hm : m = k + 12) (h : m ≤ b.length) :
    encodeGateway (decodeGateway b k) ++ b.drop m = b.drop k := by
  rw [encodeGateway, decodeGateway, beVec_ofNat 4 32 _ rfl, beVec_ofNat 6 48 _ rfl, List.append_assoc, List.append_assoc,
    be_field_append b (k + 6) 6 m (by omega) h, be_field_append b (k + 4) 2 (k + 6) rfl (by omega), be_field_append b k 4 (k + 4) rfl (by omega)]

theorem decodeRules_encode (rules : List (Nat × Nat)) (h : rules.all (fun r => fits 1 r.1 && fits 1 r.2) = true) :
    decodeRules (encodeRules rules) = rules := by
  induction rules with
  | nil => rfl
  | cons r rules ih =>
    simp only [List.all_cons, Bool.and_eq_true, fits, pow_one, decide_eq_true_eq] at h
    obtain ⟨⟨h1, h2⟩, hr⟩ := h
    have e : encodeRules (r :: rules) = BitVec.ofNat 8 r.1 :: BitVec.ofNat 8 r.2 :: encodeRules rules := by simp [encodeRules, be]
    rw [e, decodeRules, ih (by simpa [fits] using hr), BitVec.toNat_ofNat, BitVec.toNat_ofNat, Nat.mod_eq_of_lt h1, Nat.mod_eq_of_lt h2]

/-- Rules that were read fit their fields. -/
theorem decodeRules_fit : ∀ b : Bytes, (decodeRules b).all (fun r => fits 1 r.1 && fits 1 r.2) = true
  | [] => rfl
  | [_] => rfl
  | t :: x :: rest => by
    rw [decodeRules, List.all_cons, decodeRules_fit rest, Bool.and_true, Bool.and_eq_true]
    exact ⟨decide_eq_true t.isLt, decide_eq_true x.isLt⟩

theorem length_decodeRules : ∀ b : Bytes, (decodeRules b).length = b.length / 2
  | [] => rfl
  | [x] => by simp [decodeRules]
  | t :: x :: rest => by simp only [decodeRules, List.length_cons, length_decodeRules rest]; omega

/-- Rules that were read from whole pairs are carried by those pairs. -/
theorem encodeRules_decode : ∀ b : Bytes, b.length % 2 = 0 → encodeRules (decodeRules b) = b
  | [], _ => rfl
  | [_], h => by cases h
  | t :: x :: rest, h => by
    have hr : rest.length % 2 = 0 := by simp only [List.length_cons] at h; omega
    have e : encodeRules (decodeRules (t :: x :: rest)) = t :: x :: encodeRules (decodeRules rest) := by
      simp [decodeRules, encodeRules, be]
    rw [e, encodeRules_decode rest hr]

/-! ### The round trip (R14) -/

/-- What carries a well-formed command has the length its code requires. -/
theorem operandLength_encode {c : Instr} {code : Nat} {b : Bytes} (hw : c.wf = true) (h : encodeCommand c = some (code, b)) :
    operandLength code = some b.length := by
  have of : Laws.Carried.Statement c → operandLength code = some b.length := fun hc => (hc hw code b h).2.2
  cases c with
  | readStatus => exact of Laws.Carried.readStatus
  | readTill i => exact of (Laws.Carried.readTill i)
  | readCounters f n => exact of (Laws.Carried.readCounters f n)
  | readEvents x => exact of (Laws.Carried.readEvents x)
  | readDrainSummary => exact of Laws.Carried.readDrainSummary
  | writeTill i m n p k => exact of (Laws.Carried.writeTill i m n p k)
  | enableTill i => exact of (Laws.Carried.enableTill i)
  | disableTill i => exact of (Laws.Carried.disableTill i)
  | writeProfile o => exact of (Laws.Carried.writeProfile o)
  | writeFieldMap i n r => exact of (Laws.Carried.writeFieldMap i n r)
  | setLimits t a b c d => exact of (Laws.Carried.setLimits t a b c d)
  | setLink p d u t => exact of (Laws.Carried.setLink p d u t)
  | setStore o => exact of (Laws.Carried.setStore o)
  | loadKey t k g e => exact of (Laws.Carried.loadKey t k g e)
  | startDrain => exact of Laws.Carried.startDrain
  | stopDrain => exact of Laws.Carried.stopDrain
  | releaseLockdown => exact of Laws.Carried.releaseLockdown
  | reset => exact of Laws.Carried.reset
  | activateKey k => exact of (Laws.Carried.activateKey k)
  | eraseKey k => exact of (Laws.Carried.eraseKey k)
  | decommission f => exact of (Laws.Carried.decommission f)
  | _ => cases h

theorem decodeProfile_encode {o : ProfileOperands} (h : o.wf = true) : decodeProfile (encodeProfile o) = o := by
  simp only [ProfileOperands.wf, Bool.and_eq_true] at h
  obtain ⟨⟨⟨⟨⟨⟨⟨h1, h2⟩, h3⟩, h4⟩, h5⟩, h6⟩, h7⟩, h8⟩ := h
  simp [decodeProfile, encodeProfile, List.append_assoc, field_skip, field_be_append, field_be, decodeGateway_skip,
    decodeGateway_encode, *]

theorem decodeStore_encode {o : StoreOperands} (h : o.wf = true) : decodeStore (encodeStore o) = o := by
  obtain ⟨mode, window, ackTimeout, share, policy, asmTimeout, portCount, ports, ownIp, drainGw, probeGw, classes⟩ := o
  simp only [StoreOperands.wf, Bool.and_eq_true, decide_eq_true_eq] at h
  obtain ⟨⟨⟨⟨⟨⟨⟨⟨⟨⟨h1, h2⟩, h3⟩, h4⟩, h5⟩, h6⟩, h7⟩, hl⟩, hp⟩, h8⟩, h9⟩ := h
  match ports, hl with
  | [p, q, r, t], _ =>
    simp only [List.all_cons, List.all_nil, Bool.and_true, Bool.and_eq_true] at hp
    obtain ⟨p1, p2, p3, p4⟩ := hp
    simp [decodeStore, encodeStore, List.append_assoc, field_skip, field_be_append, decodeGateway_skip,
      decodeGateway_encode, field_beVec_append, field_beVec, *]

/-- Reading what carries a well-formed command gives the command back. -/
theorem decode_encode {c : Instr} {code : Nat} {b : Bytes} (hw : c.wf = true) (h : encodeCommand c = some (code, b)) :
    decodeCommand code b = some c := by
  have hl := operandLength_encode hw h
  unfold decodeCommand
  rw [if_pos hl]
  clear hl
  cases c with
  | readStatus => cases h; rfl
  | readDrainSummary => cases h; rfl
  | startDrain => cases h; rfl
  | stopDrain => cases h; rfl
  | releaseLockdown => cases h; rfl
  | reset => cases h; rfl
  | readTill i => cases h; simp only [field_be hw]
  | enableTill i => cases h; simp only [field_be hw]
  | disableTill i => cases h; simp only [field_be hw]
  | activateKey k => cases h; simp only [field_be hw]
  | eraseKey k => cases h; simp only [field_be hw]
  | decommission f => cases h; simp only [field_be hw]
  | readEvents x => cases h; simp only [field_beVec 1 x rfl]
  | writeProfile o => cases h; simp only [decodeProfile_encode hw]
  | setStore o => cases h; simp only [decodeStore_encode hw]
  | readCounters first n =>
    cases h
    obtain ⟨h1, h2⟩ := Bool.and_eq_true_iff.1 hw
    simp [field_skip, field_be_append, field_be, *]
  | writeTill i m n p k =>
    cases h
    simp only [Instr.wf, Bool.and_eq_true] at hw
    obtain ⟨⟨⟨h1, h2⟩, h3⟩, h4⟩ := hw
    simp [field_skip, field_be_append, field_be, field_beVec_append, *]
  | setLimits target l1 lt nc lc =>
    cases h
    simp only [Instr.wf, Bool.and_eq_true] at hw
    obtain ⟨⟨⟨⟨h1, h2⟩, h3⟩, h4⟩, h5⟩ := hw
    simp [field_skip, field_be_append, field_be, *]
  | setLink p d u t =>
    cases h
    simp only [Instr.wf, Bool.and_eq_true] at hw
    obtain ⟨⟨⟨h1, h2⟩, h3⟩, h4⟩ := hw
    simp [field_skip, field_be_append, field_be, *]
  | loadKey target ksid gen enc =>
    cases h
    simp only [Instr.wf, Bool.and_eq_true] at hw
    obtain ⟨⟨h1, h2⟩, h3⟩ := hw
    simp [field_skip, field_be_append, field_beVec, *]
  | writeFieldMap i n rules =>
    cases h
    simp only [Instr.wf, Bool.and_eq_true] at hw
    obtain ⟨⟨⟨h1, h2⟩, -⟩, hr⟩ := hw
    have hd : (be 1 i ++ be 1 n ++ encodeRules rules).drop 2 = encodeRules rules := by simp [List.drop_append]
    simp only [hd, decodeRules_encode rules hr]
    simp [field_skip, field_be_append, *]
  | _ => cases h

theorem encodeProfile_decode {b : Bytes} (hl : b.length = 20) : encodeProfile (decodeProfile b) = b := by
  simp [-List.drop_one, encodeProfile, decodeProfile, be_field_append, be_field_last, encodeGateway_decode, hl]

theorem decodeProfile_wf (b : Bytes) : (decodeProfile b).wf = true := by
  simp [ProfileOperands.wf, decodeProfile, fits_field, decodeGateway_wf]

theorem encodeStore_decode {b : Bytes} (hl : b.length = 45) : encodeStore (decodeStore b) = b := by
  simp [-List.drop_one, encodeStore, decodeStore, beVec_ofNat, be_field_append, be_field_last, encodeGateway_decode, hl]

theorem decodeStore_wf (b : Bytes) : (decodeStore b).wf = true := by
  simp [StoreOperands.wf, decodeStore, fits_field, decodeGateway_wf]

/-- A command that is read is well-formed, and carried by what it was read from. -/
theorem encode_decode {c : Instr} {code : Nat} {b : Bytes} (h : decodeCommand code b = some c) :
    encodeCommand c = some (code, b) ∧ c.wf = true := by
  unfold decodeCommand at h
  split at h
  case isFalse => cases h
  case isTrue hl =>
    split at h
    all_goals cases h
    all_goals have hb : b.length = _ := (Option.some.inj hl).symm
    all_goals dsimp only [encodeCommand, Instr.wf]
    case h_1 | h_5 | h_15 | h_16 | h_17 | h_18 => exact ⟨by rw [List.eq_nil_of_length_eq_zero hb], rfl⟩
    all_goals simp [-List.drop_one, be_field_append, be_field_last, beVec_ofNat, encodeProfile_decode, encodeStore_decode, hb,
      encodeRules_decode, length_decodeRules, decodeProfile_wf, decodeStore_wf, decodeRules_fit, fits_field]

/-- Settles O4: writing then reading, and reading then writing, field by field. -/
theorem commandEncodingRoundTrip : Obligations.CommandEncodingRoundTrip :=
  ⟨fun _ _ _ => decode_encode, fun _ _ _ => encode_decode⟩

end Sys2Proof
end

section
/-! PROOFS. Till messages (R6, R7): the form checks of a completed record, and where the card number comes from. -/

namespace Sys2Proof.Machine

/-! ### Kinds and items -/

theorem readKind_eq_some (n : Nat) (k : MsgKind) : readKind n = some k ↔ k.code = n := by
  unfold readKind
  split <;> cases k <;> simp_all [MsgKind.code] <;> omega

theorem readKind_eq_none (n : Nat) : readKind n = none ↔ ¬ (1 ≤ n ∧ n ≤ 3) := by
  unfold readKind
  split <;> simp_all
  omega

theorem hasItem_iff (items : List Item) (tag : Nat) : hasItem items tag = true ↔ ∃ x ∈ items, x.tag = tag := by
  simp [hasItem]

/-- The item of a tag that appears once gives the tag's value. -/
theorem itemValue_of_unique {items : List Item} {x : Item} (hx : x ∈ items)
    (h : (items.filter (fun y => y.tag == x.tag)).length ≤ 1) : itemValue items x.tag = some x.value := by
  have hf : x ∈ items.filter (fun y => y.tag == x.tag) := by simp [hx]
  have hone : items.filter (fun y => y.tag == x.tag) = [x] := by
    obtain ⟨y, hy⟩ := List.length_eq_one_iff.1 (Nat.le_antisymm h (List.length_pos_of_mem hf))
    rw [hy] at hf ⊢
    rw [List.mem_singleton.1 hf]
  rw [itemValue, ← List.head?_filter, hone]
  rfl

/-- A value of digits is 0 when every digit is. -/
theorem digitsValue_eq_zero {v : Bytes} (h : ∀ b ∈ v, isDigit b = true) : digitsValue v = 0 ↔ ∀ b ∈ v, b = 0x30 := by
  have key : ∀ (v : Bytes) (a : Nat), (∀ b ∈ v, isDigit b = true) →
      (v.foldl (fun a x => a * 10 + (x.toNat - 48)) a = 0 ↔ a = 0 ∧ ∀ b ∈ v, b = 0x30) := by
    intro v
    induction v with
    | nil => simp
    | cons b v ih =>
      intro a h
      have hb := h b List.mem_cons_self
      have zero : b = 0x30 ↔ b.toNat - 48 = 0 := by
        rw [← BitVec.toNat_inj]
        simp only [isDigit, decide_eq_true_eq] at hb
        have h48 : (0x30 : Byte).toNat = 48 := rfl
        omega
      rw [List.foldl_cons, ih _ (fun x hx => h x (List.mem_cons_of_mem _ hx)), List.forall_mem_cons, zero]
      constructor
      · rintro ⟨h1, h2⟩; exact ⟨by omega, by omega, h2⟩
      · rintro ⟨h1, h2, h3⟩; exact ⟨by omega, h3⟩
  simpa [digitsValue] using key v 0 h

/-- Check 7 of R6, tag by tag. -/
theorem Item.formGood_iff (x : Item) : x.formGood = true ↔
    (x.tag = 1 → 1 ≤ x.value.length ∧ x.value.length ≤ 12 ∧ ∀ b ∈ x.value, isDigit b = true)
      ∧ (x.tag = 2 → x.value.length = 3 ∧ ∀ b ∈ x.value, isDigit b = true)
      ∧ (x.tag = 3 → 12 ≤ x.value.length ∧ x.value.length ≤ 19 ∧ ∀ b ∈ x.value, isDigit b = true)
      ∧ (x.tag = 4 → x.value.length = 4 ∧ ∀ b ∈ x.value, isDigit b = true)
      ∧ (x.tag = 5 → 1 ≤ x.value.length ∧ x.value.length ≤ 107)
      ∧ (x.tag = 6 → x.value.length = 8 ∨ x.value.length = 16)
      ∧ (x.tag = 7 → x.value.length = 4) := by
  unfold Item.formGood
  split <;> simp_all [and_assoc]

/-- The amount of a message whose one AMOUNT holds digits is not 0 when some digit is not. -/
theorem messageAmount_ne_zero {items : List Item} (hone : (items.filter (fun x => x.tag == 1)).length ≤ 1)
    (hd : ∀ x ∈ items, x.tag = 1 → ∀ b ∈ x.value, isDigit b = true) (h1 : ∃ x ∈ items, x.tag = 1) :
    messageAmount items ≠ some 0 ↔ ∀ x ∈ items, x.tag = 1 → ∃ b ∈ x.value, b ≠ 0x30 := by
  have amount : ∀ x ∈ items, x.tag = 1 → messageAmount items = some (digitsValue x.value) := by
    intro x hx ht
    have := itemValue_of_unique hx (by rw [ht]; exact hone)
    rw [messageAmount, ← ht, this]
    rfl
  have value : ∀ x ∈ items, x.tag = 1 → (messageAmount items ≠ some 0 ↔ ∃ b ∈ x.value, b ≠ 0x30) := by
    intro x hx ht
    rw [amount x hx ht, Ne, Option.some_inj, digitsValue_eq_zero (hd x hx ht)]
    push Not
    rfl
  obtain ⟨y, hy, hyt⟩ := h1
  exact ⟨fun h x hx ht => (value x hx ht).1 h, fun h => (value y hy hyt).2 (h y hy hyt)⟩

/-- Checks 6 to 10 of R6. -/
theorem itemsGood_iff (kind : MsgKind) (items : List Item) : itemsGood kind items = true ↔
    (∀ x ∈ items, x.tag ≠ 0 ∧ x.tag ≠ 255) ∧ (∀ x ∈ items, x.formGood = true)
      ∧ (∀ t, 1 ≤ t → t ≤ 7 → (items.filter (fun x => x.tag == t)).length ≤ 1)
      ∧ (kind = .void ↔ ∃ x ∈ items, x.tag = 7)
      ∧ (kind ≠ .void → (∃ x ∈ items, x.tag = 1) ∧ ∃ x ∈ items, x.tag = 3 ∨ x.tag = 5)
      ∧ (kind = .sale → ∀ x ∈ items, x.tag = 1 → ∃ b ∈ x.value, b ≠ 0x30) := by
  have counts : [1, 2, 3, 4, 5, 6, 7].all (fun t => decide ((items.filter (fun x => x.tag == t)).length ≤ 1)) = true ↔
      ∀ t, 1 ≤ t → t ≤ 7 → (items.filter (fun x => x.tag == t)).length ≤ 1 := by
    rw [List.all_eq_true]
    constructor
    · intro h t h1 h7
      exact of_decide_eq_true (h t (by simp; omega))
    · intro h t ht
      have : 1 ≤ t ∧ t ≤ 7 := by simp at ht; omega
      exact decide_eq_true (h t this.1 this.2)
  have tags : items.all (fun x => x.tag != 0 && x.tag != 255) = true ↔ ∀ x ∈ items, x.tag ≠ 0 ∧ x.tag ≠ 255 := by simp
  rw [itemsGood.eq_def, Bool.and_eq_true, Bool.and_eq_true, Bool.and_eq_true, Bool.and_eq_true, counts, tags, List.all_eq_true, and_assoc,
    and_assoc, and_assoc]
  refine and_congr_right fun _ => and_congr_right fun forms => and_congr_right fun one => ?_
  have digits : ∀ x ∈ items, x.tag = 1 → ∀ b ∈ x.value, isDigit b = true := fun x hx ht =>
    (((x.formGood_iff.1 (forms x hx)).1) ht).2.2
  have three : (∃ x ∈ items, x.tag = 3 ∨ x.tag = 5) ↔ (∃ x ∈ items, x.tag = 3) ∨ ∃ x ∈ items, x.tag = 5 := by
    simp only [and_or_left, exists_or]
  have amount := messageAmount_ne_zero (one 1 (by decide) (by decide)) digits
  rw [three]
  cases kind with
  | void => simp [← hasItem_iff]
  | refund => simp [← hasItem_iff]
  | sale =>
    rw [← hasItem_iff] at amount
    by_cases h1 : hasItem items 1 = true
    · rw [← amount h1]
      simp [← hasItem_iff, h1]
    · simp [← hasItem_iff, h1]

/-! ### A completed record (R6) -/

/-- The header checks of R6 that come before the length: version and till number. -/
theorem headerBad_iff (r : AssemblyRecord) :
    ¬ (r.version ≠ 1 ∨ r.number < 1 ∨ 9999 < r.number) ↔ r.version = 1 ∧ 1 ≤ r.number ∧ r.number ≤ 9999 := by
  push Not
  rfl

theorem AssemblyRecord.message_eq_tooLong (r : AssemblyRecord) : r.message = .inl .tooLong ↔
    1 ≤ r.kind ∧ r.kind ≤ 3 ∧ r.version = 1 ∧ 1 ≤ r.number ∧ r.number ≤ 9999 ∧ 1280 < r.itemBytes := by
  have hm : Config.itemBytesMax = 1280 := rfl
  unfold AssemblyRecord.message
  split
  case h_1 hk =>
    rw [readKind_eq_none] at hk
    exact iff_of_false (by simp) fun ⟨h1, h2, _⟩ => hk ⟨h1, h2⟩
  case h_2 k hk =>
    have hr : 1 ≤ r.kind ∧ r.kind ≤ 3 := by
      by_contra h
      rw [← readKind_eq_none, hk] at h
      cases h
    split_ifs with bad long str
    · rw [← not_not (a := _ ∨ _), headerBad_iff] at bad
      exact iff_of_false (by simp) fun ⟨_, _, hv, h1, h2, _⟩ => bad ⟨hv, h1, h2⟩
    · rw [headerBad_iff] at bad
      exact iff_of_true rfl ⟨hr.1, hr.2, bad.1, bad.2.1, bad.2.2, long⟩
    · exact iff_of_false (by simp) fun ⟨_, _, _, _, _, h⟩ => long h
    · refine iff_of_false ?_ fun ⟨_, _, _, _, _, h⟩ => long h
      split
      · simp
      · split_ifs <;> simp

theorem AssemblyRecord.message_inl (r : AssemblyRecord) (x : RefuseReason) (h : r.message = .inl x) : x = .tooLong ∨ x = .malformed := by
  unfold AssemblyRecord.message at h
  repeat' split at h
  all_goals cases h
  all_goals simp

/-- A record that makes a message passes the header checks, the length and the checks on its items, and the message is made of it. -/
theorem AssemblyRecord.message_eq_inr (r : AssemblyRecord) (m : TillMsg) : r.message = .inr m ↔
    r.version = 1 ∧ m.kind.code = r.kind ∧ 1 ≤ r.number ∧ r.number ≤ 9999 ∧ r.itemBytes ≤ 1280 ∧ r.structureGood = true
      ∧ readItems r.items = some m.items ∧ m.number = r.number ∧ m.reference = r.reference ∧ m.path = r.path
      ∧ m.card = cardNumber m.items ∧ itemsGood m.kind m.items = true := by
  have hm : Config.itemBytesMax = 1280 := rfl
  unfold AssemblyRecord.message
  rw [← readKind_eq_some]
  constructor
  · intro h
    split at h
    case h_1 => cases h
    case h_2 k hk =>
      by_cases bad : r.version ≠ 1 ∨ r.number < 1 ∨ 9999 < r.number
      · rw [if_pos bad] at h; cases h
      rw [if_neg bad] at h
      by_cases long : Config.itemBytesMax < r.itemBytes
      · rw [if_pos long] at h; cases h
      rw [if_neg long] at h
      by_cases str : r.structureGood = true
      · rw [if_neg (by simp [str])] at h
        split at h
        case h_1 => cases h
        case h_2 items hi =>
          by_cases good : itemsGood k items = true
          · rw [if_pos good] at h
            cases h
            obtain ⟨hv, h1, h2⟩ := (headerBad_iff r).1 bad
            exact ⟨hv, hk, h1, h2, Nat.not_lt.1 long, str, hi, rfl, rfl, rfl, rfl, good⟩
          · rw [if_neg good] at h; cases h
      · rw [if_pos (by simp [str])] at h; cases h
  · rintro ⟨hv, hk, h1, h2, long, str, hi, hn, hr, hp, hc, good⟩
    obtain ⟨kind, number, reference, items, card, path⟩ := m
    dsimp only at hk hi hn hr hp hc good
    subst hn hr hp hc
    have bad : ¬ (r.version ≠ 1 ∨ r.number < 1 ∨ 9999 < r.number) := (headerBad_iff r).2 ⟨hv, h1, h2⟩
    rw [hk]
    simp only [if_neg bad, if_neg (Nat.not_lt.2 (hm ▸ long)), str, hi, good, Bool.not_true, if_true, Bool.false_eq_true, if_false]

/-- Settles O23: the three outcomes of the checks, in the order the checks are made. -/
theorem messageFormIsChecked : Obligations.MessageFormIsChecked := by
  refine ⟨AssemblyRecord.message_eq_tooLong, AssemblyRecord.message_inl, fun r m => ?_⟩
  rw [AssemblyRecord.message_eq_inr, itemsGood_iff]
  simp only [Item.formGood_iff]

/-! ### The card number (R7) -/

/-- The first run of digits of a value: what stands before it holds no digit, and no digit follows it. -/
theorem first_run {before run after : Bytes} (hb : ∀ b ∈ before, isDigit b = false) (hr : ∀ b ∈ run, isDigit b = true)
    (ha : ∀ b, after.head? = some b → isDigit b = false) (he : run = [] → after = []) :
    ((before ++ run ++ after).dropWhile (fun x => !isDigit x)).takeWhile isDigit = run := by
  have drop : (before ++ run ++ after).dropWhile (fun x => !isDigit x) = run ++ after := by
    rw [List.append_assoc, List.dropWhile_append_of_pos (by simpa using hb)]
    cases run with
    | nil => rw [he rfl]; rfl
    | cons x run => simp [hr x List.mem_cons_self]
  have stop : after.takeWhile isDigit = [] := by
    cases after with
    | nil => rfl
    | cons x after => simp [ha x rfl]
  rw [drop, List.takeWhile_append_of_pos hr, stop, List.append_nil]

/-- Settles O24: the card number by what the two items hold. -/
theorem cardNumberComesFromItemOrTrack : Obligations.CardNumberComesFromItemOrTrack := by
  intro items
  refine ⟨fun v h => ?_, fun h3 h5 => ?_, fun before run after h3 h5 hb hr ha he => ?_⟩
  · rw [cardNumber, h]
  · rw [cardNumber, h3, h5]
  · rw [cardNumber, h3, h5]
    simp only [first_run hb hr ha he]

end Sys2Proof.Machine
end

section
/-! PROOFS. Local replies (R11, R134) and drain acknowledgements (R166): the Lane Priority Queue, what a reply counts, and the free that an
acknowledgement asks for. -/

namespace Sys2Proof.Machine

/-! ### The Lane Priority Queue (R19, R20) -/

theorem State.offerLane_open (s : State) (b : Bytes) (h : s.laneOpen) :
    s.offerLane b = { s with lane := { s.lane with priority := s.lane.priority ++ [{ bytes := b, isReset := false }] } } := by
  obtain ⟨hroom, hup⟩ := h
  have hup' : (s.port .lane).linkUp = true := hup
  rw [State.offerLane, if_pos hroom, State.placePriority, if_pos hup']
  rfl

theorem State.offerLane_down (s : State) (b : Bytes) (hroom : s.lane.priority.length < 32) (hdown : s.lane.linkUp = false) :
    s.offerLane b = s.raise .linkDiscard := by
  have hdown' : ¬ (s.port .lane).linkUp = true := by simp [State.port, hdown]
  rw [State.offerLane, if_pos (show s.lane.priority.length < Config.priorityDepth from hroom), State.placePriority, if_neg hdown']
  rfl

theorem State.offerLane_full (s : State) (b : Bytes) (h : 32 ≤ s.lane.priority.length) : s.offerLane b = s.raise .laneOverflow :=
  if_neg (Nat.not_lt.2 h)

/-! ### A local reply (R46, R134, R136) -/

/-- The state a local reply's frame is offered in: its kind and its till's refusal are counted (R46, R136). -/
def State.countReply (s : State) (i : TillIx) (r : LocalReply) : State :=
  (if r.isRefusal then (s.raise r.event (till := some i)).countRefused i else s.raise r.event (till := some i)).nextIpId

theorem State.localReply_eq (s : State) (i : TillIx) (n ref : Nat) (p : ReturnPath) (r : LocalReply) :
    s.localReply i n ref p r =
      (s.countReply i r).offerLane (replyFrame p s.ipId (localReplyPayload r.kind n ref r.reason)) := by
  unfold State.localReply State.countReply State.sendReply
  split <;> rfl

@[simp] theorem State.countReply_lane (s : State) (i : TillIx) (r : LocalReply) : (s.countReply i r).lane = s.lane := by
  unfold State.countReply; split <;> rfl

@[simp] theorem State.countReply_ipId (s : State) (i : TillIx) (r : LocalReply) : (s.countReply i r).ipId = (s.ipId + 1) % 65536 := by
  unfold State.countReply; split <;> rfl

theorem State.countReply_count (s : State) (i : TillIx) (r : LocalReply) (e : EventCode) :
    (s.countReply i r).count e = (s.raise r.event (till := some i)).count e := by
  unfold State.countReply; split <;> rfl

/-- No local reply is counted under an event of the transmit queues. -/
theorem LocalReply.event_ne (r : LocalReply) : r.event ≠ .laneOverflow ∧ r.event ≠ .linkDiscard := by
  cases r <;> simp [LocalReply.event]

theorem State.count_localReply_self (s : State) (i : TillIx) (n ref : Nat) (p : ReturnPath) (r : LocalReply) :
    (s.localReply i n ref p r).count r.event = min (s.count r.event + 1) 65535 := by
  rw [State.localReply_eq, State.count_offerLane _ _ r.event_ne.1 r.event_ne.2, State.countReply_count]
  exact s.count_raise_self ..

@[simp] theorem State.ipId_offerLane (s : State) (b : Bytes) : (s.offerLane b).ipId = s.ipId := by
  unfold State.offerLane State.placePriority State.discardFrame
  split
  · split <;> rfl
  · rfl

/-- Settles O27: the reply's counts, then the three fates of its frame. -/
theorem localReplyIsCountedAndPlaced : Obligations.LocalReplyIsCountedAndPlaced := by
  intro s i number reference path r t frame
  have ht : t = (s.countReply i r).offerLane frame := s.localReply_eq i number reference path r
  have same := (s.localReply_repliesOnly i number reference path r).eq
  have count_ne : ∀ e, e ≠ r.event → (s.countReply i r).count e = s.count e := fun e he => by
    rw [State.countReply_count, State.count_raise_ne _ _ _ _ he]
  have full := count_ne _ r.event_ne.1.symm
  have down := count_ne _ r.event_ne.2.symm
  have till := fun j => s.till_localReply i j number reference path r
  refine ⟨s.count_localReply_self .., fun hr hu => ?_, fun hr hd => ?_, ?_, ?_, fun hf => ?_, ?_, ?_, fun j hj => ?_, ?_⟩
  · rw [ht, State.offerLane_open _ _ (by rw [State.laneOpen, State.countReply_lane]; exact ⟨hr, hu⟩), ← full, ← down, State.countReply_lane]
    exact ⟨rfl, rfl, rfl⟩
  · rw [ht, State.offerLane_down _ _ (by simpa using hr) (by simpa using hd), State.count_raise_self, down]
    exact ⟨by simp, rfl⟩
  · rw [show t = _ from same]
  · rw [ht, State.ipId_offerLane, State.countReply_ipId]
  · rw [ht, State.offerLane_full _ _ (by simpa using hf), State.count_raise_self, full]
    exact ⟨by simp, rfl⟩
  · rw [till]
    by_cases h : r.isRefusal = true
    · simp [h, saturate, Config.countMax]
    · simp [h]
  · obtain ⟨n, hn⟩ := s.localReply_sameTill i i number reference path r
    rw [show t.till i = _ from hn]
  · exact s.till_localReply_ne _ _ _ _ hj
  · rw [show t = _ from same]
    exact ⟨rfl, rfl, rfl, rfl, rfl, rfl, rfl⟩

/-! ### Acknowledgements (R12, R166) -/

theorem State.takeAck_of_form (s : State) (p : Bytes) (hl : p.length = 13) (hv : field p 0 1 = 1) :
    s.takeAck p = if authCode s.mgmtKey (p.take 5) = codeOf p then s.acknowledge (field p 1 4) else s.raise .drainAuthFail := by
  have hform : isDrainAck p = true := by simp [isDrainAck, hl, hv]
  rw [State.takeAck, hform, withoutCode, hl]
  rfl

theorem State.takeAck_of_not_form (s : State) (p : Bytes) (h : p.length ≠ 13 ∨ field p 0 1 ≠ 1) :
    s.takeAck p = s.raise .drainUnmatched := by
  have hform : isDrainAck p = false := by
    rcases h with h | h <;> simp [isDrainAck, h]
  rw [State.takeAck, hform]
  rfl

/-- An acknowledgement of a HELD record that is not being freed (R166): one whose frame is in hand gives that frame up. -/
theorem State.acknowledge_held (s : State) (q : Nat) (l : IndexLine) (h : s.holding.findSeq q = some l) (hheld : l.held = true)
    (hfree : l.freeing = false) :
    s.acknowledge q =
      if l.draining = true ∧ l.deadline = none then
        State.requestFree { (s.leaveQueue .drain) with drain := { s.drain with inHand := none } } l.slot .drain
      else s.requestFree l.slot .drain := by
  rw [State.acknowledge, h]
  simp [hheld, hfree]

/-- Settles O31: the form, the code, the match, and the free. -/
theorem acknowledgementAsksForTheFree : Obligations.AcknowledgementAsksForTheFree := by
  refine ⟨fun s p => s.takeAck_of_not_form p, fun s p hl hv => ?_⟩
  rw [s.takeAck_of_form p hl hv]
  refine ⟨fun hc => if_neg hc, fun hc => ?_⟩
  rw [if_pos hc]
  refine ⟨fun hn => by rw [State.acknowledge, hn], fun l hf => ⟨fun hno => ?_, fun hheld hfree => ?_⟩⟩
  · rw [State.acknowledge, hf]
    rcases hno with h | h <;> simp [h]
  · rw [s.acknowledge_held _ l hf hheld hfree]
    by_cases hd : l.draining = true ∧ l.deadline = none
    · rw [if_pos hd]
      exact ⟨rfl, rfl, fun _ _ => ⟨rfl, rfl⟩, rfl, rfl⟩
    · rw [if_neg hd]
      exact ⟨rfl, rfl, fun h1 h2 => absurd ⟨h1, h2⟩ hd, rfl, rfl⟩

end Sys2Proof.Machine
end

section
/-! PROOFS. Wrapped messages (R8, R9, R90, R92, R96, R97): the entries a Field Map gives, the chained encryption of a value, and the phases that
build and seal the message. -/

namespace Sys2Proof.Machine

/-! ### Safe Field Maps (R92) -/

theorem mapSafe_iff (m : FieldMap) (d : DefaultTreatment) :
    mapSafe m d = true ↔ treatmentFor m d 3 ≠ .pass ∧ treatmentFor m d 5 ≠ .pass ∧ treatmentFor m d 6 ≠ .pass := by
  simp [mapSafe]

theorem clearEntry_take (x : Item) : (clearEntry x).take 2 = [1, BitVec.ofNat 8 x.tag] := by simp [clearEntry, be]

theorem wrappedEntry_head (key : Key) (position : Nat) (x : Item) : (wrappedEntry key position x).head? = some 2 := by
  simp [wrappedEntry, be]

theorem maskedEntry_head (card : Bytes) : (maskedEntry card).head? = some 3 := by simp [maskedEntry, be]

theorem take_two_of_head {e : Bytes} {a b c : Byte} (h : e.head? = some a) (hab : a ≠ b) : e.take 2 ≠ [b, c] := by
  intro he
  cases e with
  | nil => cases he
  | cons x e =>
    cases h
    simp only [List.take_succ_cons, List.cons.injEq] at he
    exact hab he.1

/-- A clear entry carries its item's tag. -/
theorem clearEntry_take_iff {x : Item} {n : Nat} (hx : x.tag < 256) (hn : n < 256) :
    (clearEntry x).take 2 = [1, BitVec.ofNat 8 n] ↔ x.tag = n := by
  have tag : BitVec.ofNat 8 x.tag = BitVec.ofNat 8 n ↔ x.tag = n := by
    rw [← BitVec.toNat_inj, BitVec.toNat_ofNat, BitVec.toNat_ofNat, Nat.mod_eq_of_lt hx, Nat.mod_eq_of_lt hn]
  simp [clearEntry_take, tag]

/-- What an item of tag 3, 5 or 6 gives under another treatment than PASS, and any item of another tag, is no clear entry of those tags. -/
theorem itemEntries_not_clear {key : Key} {t : Treatment} {position : Nat} {x : Item} {card : Bytes} {n : Nat} (hx : x.tag < 256)
    (hn : n < 256) (ht : x.tag = n → t ≠ .pass) : ∀ e ∈ itemEntries key t position x card, e.take 2 ≠ [1, BitVec.ofNat 8 n] := by
  intro e he
  have wrapped : ∀ e, e = wrappedEntry key position x → e.take 2 ≠ [1, BitVec.ofNat 8 n] := fun e h =>
    h ▸ take_two_of_head (wrappedEntry_head key position x) (by decide)
  cases t with
  | pass =>
    rw [List.mem_singleton.1 he, Ne, clearEntry_take_iff hx hn]
    exact fun h => ht h rfl
  | encrypt => exact wrapped e (List.mem_singleton.1 he)
  | encryptMask =>
    rcases List.mem_cons.1 he with h | h
    · exact wrapped e h
    · exact List.mem_singleton.1 h ▸ take_two_of_head (maskedEntry_head card) (by decide)
  | remove => cases he

/-- The entries of a message are those its items give, in position order, while they fit within 1,420 bytes (R96). -/
theorem buildEntries_eq (key : Key) (m : FieldMap) (d : DefaultTreatment) (card : Bytes) (items : List Item) (position size : Nat)
    (hs : size ≤ Config.wrappedMax) :
    buildEntries key m d card position size items =
      let es := (items.zipIdx position).flatMap (fun x => itemEntries key (treatmentFor m d x.1.tag) x.2 x.1 card)
      if size + entriesSize es ≤ Config.wrappedMax then some es else none := by
  induction items generalizing position size with
  | nil => simp [buildEntries, entriesSize, hs]
  | cons x items ih =>
    have size_append : ∀ as bs : List Bytes, entriesSize (as ++ bs) = entriesSize as + entriesSize bs := by simp [entriesSize]
    simp only [buildEntries, List.zipIdx_cons, List.flatMap_cons, size_append]
    split
    case isTrue h => rw [if_neg (by omega)]
    case isFalse h =>
      rw [ih (position + 1) _ (by omega)]
      simp only [Nat.add_assoc]
      split <;> rfl

/-- Settles O37: no item's treatment gives a clear entry of a card data tag, and the entries are those the items give. -/
theorem safeMapsNeverSendCardDataClear : Obligations.SafeMapsNeverSendCardDataClear := by
  intro key m d card position size items es hsafe htags hb e he
  obtain ⟨h3, h5, h6⟩ := (mapSafe_iff m d).1 hsafe
  induction items generalizing position size es with
  | nil => cases hb; cases he
  | cons x items ih =>
    simp only [buildEntries] at hb
    split at hb
    · cases hb
    obtain ⟨rest, hrest, rfl⟩ := Option.map_eq_some_iff.1 hb
    rcases List.mem_append.1 he with h | h
    · have hx := htags x List.mem_cons_self
      have clear := fun (n : Nat) (hn : n < 256) (ht : x.tag = n → treatmentFor m d x.tag ≠ .pass) =>
        itemEntries_not_clear hx hn ht e h
      exact ⟨clear 3 (by decide) (fun e => e ▸ h3), clear 5 (by decide) (fun e => e ▸ h5), clear 6 (by decide) (fun e => e ▸ h6)⟩
    · exact ih _ _ _ (fun y hy => htags y (List.mem_cons_of_mem _ hy)) hrest h

/-! ### The encryption of a value (R9) -/

/-- A padded value fills its blocks. -/
theorem length_padValue (v : Bytes) : (padValue v).length = 16 * blockCount v.length := by
  simp only [padValue, blockCount, List.length_append, List.length_cons, List.length_nil, List.length_replicate]
  omega

theorem length_chainBlocks (key : Key) (prev : Block) (xs : List Block) : (chainBlocks key prev xs).length = xs.length := by
  induction xs generalizing prev with
  | nil => rfl
  | cons x xs ih => simp [chainBlocks, ih]

/-- Each block is combined with the ciphertext before it, the first with the starting block, and encrypted. -/
theorem chainBlocks_getElem? (key : Key) (prev : Block) (xs : List Block) (j : Nat) :
    (chainBlocks key prev xs)[j]? = xs[j]?.map (fun x =>
      cipher key (x ^^^ if j = 0 then prev else ((chainBlocks key prev xs)[j - 1]?).getD 0)) := by
  induction xs generalizing prev j with
  | nil => simp [chainBlocks]
  | cons x xs ih =>
    cases j with
    | zero => simp [chainBlocks]
    | succ j =>
      rw [chainBlocks]
      rw [List.getElem?_cons_succ, List.getElem?_cons_succ, ih]
      cases j <;> rfl

/-! ### The phases WRAPPING and AUTHENTICATING (R96, R97) -/

theorem State.inPhase_of_ctx (s : State) (i : CtxIx) (p : Phase) (w : Wrap) (m : TillMsg)
    (h : s.ctx i = { phase := p, wrap := some w }) (hm : w.msg = some m) : s.inPhase i p = some (w, m) := by
  simp [State.inPhase, h, hm]

theorem State.inPhase_of_ne (s : State) (i : CtxIx) (p : Phase) (h : (s.ctx i).phase ≠ p) : s.inPhase i p = none := by
  unfold State.inPhase
  split
  · rfl
  · rw [if_neg h]

/-- Settles O39: the entries, the chain, the two phases. -/
theorem wrappedMessageIsBuiltAndSealed : Obligations.WrappedMessageIsBuiltAndSealed := by
  refine ⟨fun key position x card => ⟨rfl, rfl, rfl, rfl⟩, fun key position tag v => ⟨length_padValue v, ?_⟩,
    fun s i w m key hc hm hk => ?_, fun s i w m key hc hm hk => ?_, fun s i => ⟨fun h => ?_, fun h => ?_⟩⟩
  · refine ⟨chainBlocks key (startingBlock position tag) (toBlocks (blockCount v.length) (padValue v)), rfl, ?_, fun j hj => ?_⟩
    · rw [length_chainBlocks]; simp [toBlocks, blockCount]
    · have hx : (toBlocks (blockCount v.length) (padValue v))[j]? = some (BitVec.ofNat 128 (field (padValue v) (16 * j) 16)) := by
        simp [toBlocks, blockCount, hj]
      rw [chainBlocks_getElem?, hx]
      rfl
  · intro es
    have he := buildEntries_eq key w.map w.profile.dflt (m.card.getD []) m.items 0 37 (by decide)
    refine ⟨fun hfit => ?_, fun hlong => ?_⟩
    · have he : buildEntries key w.map w.profile.dflt (m.card.getD []) 0 37 m.items = some es := he.trans (if_pos hfit)
      simp only [exec, execWrapping, s.inPhase_of_ctx i _ w m hc hm, hk, Config.wrappedBase, he]
    · have he : buildEntries key w.map w.profile.dflt (m.card.getD []) 0 37 m.items = none := he.trans (if_neg (Nat.not_le.2 hlong))
      simp only [exec, execWrapping, s.inPhase_of_ctx i _ w m hc hm, hk, Config.wrappedBase, he, State.endWrap]
  · simp only [exec, execAuthenticating, s.inPhase_of_ctx i _ w m hc hm, hk]
    rfl
  · simp only [exec, execWrapping, s.inPhase_of_ne i _ h]
  · simp only [exec, execAuthenticating, s.inPhase_of_ne i _ h]

end Sys2Proof.Machine
end

section
/-! PROOFS. The Uplink Priority Queue (R19), and the timers of the Link Monitor, the Drain Controller and the waiting command (R139, R140, R143,
R167, R178). -/

namespace Sys2Proof.Machine

/-! ### The Uplink Priority Queue (R19, R20) -/

theorem State.placePriority_uplink_up (s : State) (f : TxFrame) (h : s.uplink.linkUp = true) :
    s.placePriority .uplink f = { s with uplink := { s.uplink with priority := s.uplink.priority ++ [f] } } :=
  if_pos h

theorem State.offerUplink_open (s : State) (w : Waiter) (f : TxFrame) (h : s.uplinkOpen) :
    s.offerUplink w f = State.placed { s with uplink := { s.uplink with priority := s.uplink.priority ++ [f] } } w := by
  obtain ⟨hw, hroom, hup⟩ := h
  rw [State.offerUplink, if_pos (by simp [hw, hroom]), s.placePriority_uplink_up f hup]

theorem State.offerUplink_waits (s : State) (w : Waiter) (f : TxFrame) (h : s.waitOrder ≠ [] ∨ 32 ≤ s.uplink.priority.length) :
    s.offerUplink w f = { s with waitOrder := s.waitOrder ++ [(w, f)] } := by
  refine if_neg ?_
  rw [Bool.and_eq_true, List.isEmpty_iff, decide_eq_true_eq, not_and_or, Nat.not_lt]
  exact h

/-- What the offer of a frame leads to: it waits; or it is placed, or discarded at once with the link down, and its block goes on. -/
theorem State.offerUplink_cases (s : State) (w : Waiter) (f : TxFrame) (hf : f.isReset = false) :
    s.offerUplink w f = { s with waitOrder := s.waitOrder ++ [(w, f)] }
      ∨ ∃ (up : PortState) (ev : Events), (∀ e, e ≠ .linkDiscard → State.count { s with events := ev } e = s.count e)
          ∧ s.offerUplink w f = State.placed { s with uplink := up, events := ev } w := by
  unfold State.offerUplink
  split
  · refine .inr ?_
    unfold State.placePriority State.discardFrame
    split
    · exact ⟨_, s.events, fun _ _ => rfl, rfl⟩
    · rw [hf]
      exact ⟨s.uplink, (s.raise .linkDiscard).events, fun e he => s.count_raise_ne _ _ _ he, rfl⟩
  · exact .inl rfl

/-! ### Probes (R139, R140) -/

theorem State.placed_monitor (s : State) (n : Nat) (h : s.link.inHand = some n) :
    s.placed .monitor = { s with link := { s.link with inHand := none, awaited := s.link.awaited ++ [(n, s.now + 2000)] } } := by
  simp only [State.placed, h]
  rfl

/-- The state in which a probe is offered: the timer restarted, the probe in hand, its identification taken. -/
def State.probing (s : State) : State :=
  { s with
    link := { s.link with probeTimer := some (s.now + 1000 * s.settings.link.interval)
                          probeCount := (s.link.probeCount + 1) % 4294967296
                          inHand := some ((s.link.probeCount + 1) % 4294967296) }
    ipId := (s.ipId + 1) % 65536 }

/-- The frame of the next probe. -/
def State.probeFrame (s : State) : TxFrame :=
  let g := s.settings.store.probeGw
  { bytes := gatewayFrame s.ownMac s.settings.store.ownIp g none g.port s.ipId
      (probePayload ((s.link.probeCount + 1) % 4294967296) s.serial)
    isReset := false }

theorem State.probeTick_idle (s : State) (h : s.link.inHand.isSome = true ∨ s.settings.store.probeGw.ip = 0) :
    s.probeTick = { s with link := { s.link with probeTimer := some (s.now + 1000 * s.settings.link.interval) } } :=
  if_pos h

theorem State.probeTick_offers (s : State) (h : s.link.inHand = none) (hg : s.settings.store.probeGw.ip ≠ 0) :
    s.probeTick = s.probing.offerUplink .monitor s.probeFrame :=
  if_neg (by simpa [h] using hg)

theorem State.awaits_iff (s : State) (n : Nat) : s.awaits n = true ↔ ∃ d, (n, d) ∈ s.link.awaited := by
  simp [State.awaits]

/-! ### The link and the drain after a failure (R141, R167) -/

/-- The drain back in ARMED with its pass ended (R167). -/
def State.passEnded (s : State) : State := { s.endPass with drain := { s.endPass.drain with state := .armed } }

theorem State.leaveRunning_of_running (s : State) (h : s.drain.state = .running) : s.leaveRunning = s.passEnded := if_pos h

theorem State.leaveRunning_of_not_running (s : State) (h : s.drain.state ≠ .running) : s.leaveRunning = s := if_neg h

/-- A run of failures touches the link and events. -/
theorem State.failureRun_eq (s : State) (n : Nat) :
    s.failureRun n = { s with link := (s.failureRun n).link, events := (s.failureRun n).events } := by
  unfold State.failureRun
  split <;> rfl

theorem State.failureRun_not_up (s : State) (n : Nat) : (s.failureRun n).link.state ≠ .up := by
  unfold State.failureRun
  split <;> exact nofun

theorem State.count_failureRun (s : State) (n : Nat) {e : EventCode} (h : e ≠ .linkDown) : (s.failureRun n).count e = s.count e := by
  unfold State.failureRun
  split
  · exact s.count_raise_ne _ _ _ h
  · rfl

/-- A failure never leaves the line UP (R141). -/
theorem State.linkFailure_not_up (s : State) : s.linkFailure.link.state ≠ .up := by
  unfold State.linkFailure
  split
  · exact State.failureRun_not_up _ _
  · exact State.failureRun_not_up _ _
  · rename_i h; rw [h]; exact nofun
  · exact nofun

theorem State.leaveUp_eq (s : State) (h : s.drain.state = .running) :
    s.leaveUp = { s.passEnded with link := { s.link with settleTimer := none, settled := false } } :=
  State.leaveRunning_of_running _ h

/-- A failure while the drain is RUNNING, the drain told of it afterwards: the pass has ended once (R141, R167, R168). -/
theorem State.linkFailure_leaveRunning (s : State) (h : s.drain.state = .running) :
    s.linkFailure.leaveRunning = { s.passEnded with link := s.linkFailure.link, events := s.linkFailure.events } := by
  unfold State.linkFailure
  split
  · rw [s.leaveUp_eq h, State.failureRun_eq]
    exact State.leaveRunning_of_not_running _ nofun
  · rw [State.failureRun_eq]
    exact State.leaveRunning_of_running _ h
  · exact s.leaveRunning_of_running h
  · exact State.leaveRunning_of_running _ h

theorem State.count_linkFailure (s : State) {e : EventCode} (h : e ≠ .linkDown) : s.linkFailure.count e = s.count e := by
  have leave : s.leaveUp.count e = s.count e := by
    unfold State.leaveUp State.leaveRunning
    split <;> rfl
  unfold State.linkFailure
  split
  · rw [State.count_failureRun _ _ h, leave]
  · exact s.count_failureRun _ h
  · rfl
  · rfl

/-- What the Monitor makes of a failure does not depend on events. -/
theorem State.link_linkFailure_raise (s : State) (e : EventCode) : (s.raise e).linkFailure.link = s.linkFailure.link := by
  have run : ∀ (t u : State) (n : Nat), t.link = u.link → t.settings = u.settings → (t.failureRun n).link = (u.failureRun n).link := by
    intro t u n hl hs
    unfold State.failureRun
    rw [hs]
    split <;> simp [State.setLink, hl]
  have leave : ∀ t : State, t.leaveUp.link = { t.link with settleTimer := none, settled := false } ∧ t.leaveUp.settings = t.settings := by
    intro t
    unfold State.leaveUp State.leaveRunning
    split <;> exact ⟨rfl, rfl⟩
  unfold State.linkFailure
  rw [State.raise_link]
  split
  · exact run _ _ _ (by rw [(leave _).1, (leave s).1]; rfl) (by rw [(leave _).2, (leave s).2]; rfl)
  · exact run _ _ _ rfl rfl
  · rfl
  · rfl

/-- A DRAIN-TIMEOUT taken (R167): the failure, and the pass ended to ARMED; the line is not UP, so no settle timer starts. -/
theorem State.timeOutDrain_eq (s : State) (h : s.drain.state = .running) :
    s.timeOutDrain =
      { s.passEnded with link := s.linkFailure.link, events := ((s.raise .drainTimeout).linkFailure).events } := by
  have hs : (s.raise .drainTimeout).linkFailure.restartSettle = (s.raise .drainTimeout).linkFailure :=
    if_neg (State.linkFailure_not_up _)
  rw [State.timeOutDrain, hs, (s.raise .drainTimeout).linkFailure_leaveRunning h, State.link_linkFailure_raise]
  rfl

/-! ### The waiting command (R178) -/

theorem Job.hold?_isSome_iff (j : Job) : j.hold?.isSome = true ↔ ∃ h limit, j.role = .waiting h (some limit) := by
  unfold Job.hold?
  split <;> simp_all

theorem State.timeOutQuiet_eq (s : State) :
    s.timeOutQuiet = { s with
      events := (s.raise .quietTimeout).events
      mgmt := { s.mgmt with jobs := s.mgmt.jobs.map (fun j =>
        match j.role with
        | .waiting _ (some _) => { j with status := .quietTimeout, results := .bytes [], role := .late }
        | _ => j) } } := by
  have job : (fun j : Job => if j.hold?.isSome then { j with status := .quietTimeout, results := .bytes [], role := .late } else j) =
      (fun j => match j.role with
        | .waiting _ (some _) => { j with status := .quietTimeout, results := .bytes [], role := .late }
        | _ => j) := by
    funext j
    unfold Job.hold?
    split <;> simp_all
  rw [State.timeOutQuiet, State.mapJobs, job]
  rfl

/-! ### The timers -/

theorem State.tryRun_of_settled (s : State) (h : s.link.settled = true) :
    s.tryRun = { s with drain := if s.drain.state = .armed ∧ s.link.state = .up ∧ s.settings.store.drainGw.ip ≠ 0
                                 then { s.drain with state := .running, cursor := 0 } else s.drain } := by
  have hc : (s.drain.state = .armed ∧ s.lineSettled = true ∧ s.hasDrainGateway = true) ↔
      (s.drain.state = .armed ∧ s.link.state = .up ∧ s.settings.store.drainGw.ip ≠ 0) := by
    simp [State.lineSettled, State.hasDrainGateway, h]
  unfold State.tryRun
  by_cases h' : s.drain.state = .armed ∧ s.link.state = .up ∧ s.settings.store.drainGw.ip ≠ 0
  · rw [if_pos (hc.2 h'), if_pos h']
  · rw [if_neg (mt hc.1 h'), if_neg h']

/-- The answer of an awaited probe (R13, R140). -/
theorem State.answersProbe_iff (s : State) (p : Bytes) :
    (isProbeAnswer p && authCode s.mgmtKey (withoutCode p) == codeOf p && s.awaits (field p 2 4)) = true ↔
      p.length = 14 ∧ field p 0 1 = 1 ∧ field p 1 1 = 2 ∧ authCode s.mgmtKey (p.take 6) = codeOf p
        ∧ ∃ d, (field p 2 4, d) ∈ s.link.awaited := by
  by_cases hl : p.length = 14
  · have hw : withoutCode p = p.take 6 := by rw [withoutCode, hl]
    simp [isProbeAnswer, hl, hw, State.awaits_iff, and_assoc]
  · simp [isProbeAnswer, hl]

/-- Settles O44: each timer by whether it runs, the probe by the queue it is offered to. -/
theorem probeSettleDrainAndQuietTimers : Obligations.ProbeSettleDrainAndQuietTimers := by
  refine ⟨fun s ht => ?_, fun s ht => ?_, fun s n hn => ?_, fun s n d hn => ?_, fun s p => ?_, fun s ht => ?_, fun s ht => ?_,
    fun s q hr hl => ?_, fun s q hn => ?_, fun s hj => ?_, fun s hj => ?_⟩
  · have hx : exec .probeTimerExpiry s = .next s.probeTick := by simp only [exec, execProbeTimerExpiry, ht, if_true]
    refine ⟨fun h => ?_, fun h hg ho => ?_, fun h hg hw => ?_⟩
    · rw [hx, s.probeTick_idle h]
    · rw [hx, s.probeTick_offers h hg, s.probing.offerUplink_open _ _ ho, State.placed_monitor _ _ rfl]
      simp only [h]
      rfl
    · rw [hx, s.probeTick_offers h hg, s.probing.offerUplink_waits _ _ hw]
      rfl
  · simp [exec, execProbeTimerExpiry, ht]
  · have : ¬ s.awaits n = true := by rw [s.awaits_iff]; exact fun ⟨d, hd⟩ => hn d hd
    simp [exec, execProbeDeadlineExpiry, this]
  · have : s.awaits n = true := (s.awaits_iff n).2 ⟨d, hn⟩
    simp [exec, execProbeDeadlineExpiry, this, State.unawait]
  · exact ⟨fun h => if_pos ((s.answersProbe_iff p).2 h), fun h => if_neg (mt (s.answersProbe_iff p).1 h)⟩
  · simp [exec, execSettleTimerExpiry, ht]
  · simp only [exec, execSettleTimerExpiry, ht, if_true]
    rw [State.tryRun_of_settled _ rfl]
  · have hq : s.awaitsAck q = true := by
      obtain ⟨l, hl, h1, h2, h3⟩ := hl
      exact List.any_eq_true.2 ⟨l, hl, by simp [h1, h2, h3]⟩
    have hx : exec (.drainTimeout q) s = .next s.timeOutDrain.settle := by simp [exec, execDrainTimeout, hr, hq]
    refine ⟨_, hx, ?_⟩
    rw [s.timeOutDrain_eq hr]
    refine ⟨rfl, rfl, rfl, rfl, rfl, rfl, rfl, rfl, ?_, rfl⟩
    exact ((s.raise .drainTimeout).count_linkFailure (by decide)).trans (s.count_raise_self ..)
  · have : ¬ (s.drain.state = .running ∧ s.awaitsAck q = true) := by
      rintro ⟨hr, hq⟩
      obtain ⟨l, hl, h⟩ := List.any_eq_true.1 hq
      simp only [Bool.and_eq_true, beq_iff_eq] at h
      obtain ⟨⟨h1, h2⟩, h3⟩ := h
      rcases hn with hn | hn
      · exact hn hr
      · rw [hn l hl h1 h2] at h3; cases h3
    simp [exec, execDrainTimeout, this]
  · have : s.mgmt.jobs.any (fun j => j.hold?.isSome) = true := by
      obtain ⟨j, hj, h⟩ := hj
      exact List.any_eq_true.2 ⟨j, hj, j.hold?_isSome_iff.2 h⟩
    have hx : exec .quietWaitLimitExpiry s = .next s.timeOutQuiet.settle := by simp only [exec, execQuietWaitLimitExpiry, this, if_true]
    exact hx.trans (congrArg (fun u => Host.Outcome.next (State.settle u)) s.timeOutQuiet_eq)
  · have : ¬ s.mgmt.jobs.any (fun j => j.hold?.isSome) = true := by
      rw [List.any_eq_true]
      rintro ⟨j, hj', h⟩
      obtain ⟨g, limit, hg⟩ := j.hold?_isSome_iff.1 h
      exact hj j hj' g limit hg
    simp [exec, execQuietWaitLimitExpiry, this]

end Sys2Proof.Machine
end

section
/-! PROOFS. Management frames and responses (R14, R15, R172 to R176, R179): how a frame is judged, what a command that has ended is answered, and
how responses are offered. -/

namespace Sys2Proof.Machine

/-! ### Reading a command (R14) -/

theorem readCommand_authentic (key : Key) (p : Bytes) (h : 16 + field p 6 2 ≤ p.length ∧ field p 0 1 = 1
    ∧ authCode key (p.take (8 + field p 6 2)) = BitVec.ofNat 64 (field p (8 + field p 6 2) 8)) :
    readCommand key p = some (field p 1 4, field p 5 1, (p.drop 8).take (field p 6 2)) := by
  obtain ⟨hl, hv, hc⟩ := h
  exact if_pos ⟨by omega, hl, hv, hc.symm⟩

theorem readCommand_not_authentic (key : Key) (p : Bytes) (h : ¬ (16 + field p 6 2 ≤ p.length ∧ field p 0 1 = 1
    ∧ authCode key (p.take (8 + field p 6 2)) = BitVec.ofNat 64 (field p (8 + field p 6 2) 8))) :
    readCommand key p = none :=
  if_neg fun ⟨_, hl, hv, hc⟩ => h ⟨hl, hv, hc.symm⟩

/-! ### The sector 1 write an answer waits for (R174) -/

/-- What a job becomes when the sector 1 write that begins carries its request. -/
def Job.begun1 (j : Job) : Job := { j with s1 := j.s1.begun }

/-- A request of a sector 1 write changes jobs only in what they wait for there. -/
theorem State.request1_mgmt (s : State) :
    s.request1.mgmt = s.mgmt ∨ s.request1.mgmt = { s.mgmt with jobs := s.mgmt.jobs.map Job.begun1 } := by
  unfold State.request1 State.kick1
  split
  · exact .inl rfl
  · split
    · exact .inr rfl
    · split
      · exact .inr rfl
      · exact .inl rfl

/-- The job of an accepted command that its own row does not carry out (R174, R176). -/
def EthFrame.uncarriedJob (e : EthFrame) (number code : Nat) (status : Status) : Job :=
  { cmd := none, number := number, code := code, src := e.src, vlan := e.tags.head?, status := status, results := .bytes [],
    s1 := .queued, s2 := .no, s3 := .no, format := false, role := .current }

theorem State.answerUncarried_eq (s : State) (e : EthFrame) (number code : Nat) (status : Status) :
    s.answerUncarried e number code status = (s.addJob (e.uncarriedJob number code status)).request1 := rfl

/-- An accepted command that its own row does not carry out: its job is the last, and its number's write is asked for (R174, R176). -/
theorem State.answerUncarried_spec (s : State) (e : EthFrame) (number code : Nat) (status : Status) :
    let u := s.answerUncarried e number code status
    u.mgmt.last = s.mgmt.last ∧ u.mgmt.taken = s.mgmt.taken
      ∧ (∃ j, u.mgmt.jobs.getLast? = some j ∧ j.status = status ∧ j.number = number ∧ j.code = code ∧ j.src = e.src)
      ∧ u = { s with mgmt := u.mgmt, writer1 := u.writer1 } := by
  intro u
  have hm := (s.addJob (e.uncarriedJob number code status)).request1_mgmt
  have frame : u = { s with mgmt := u.mgmt, writer1 := u.writer1 } := by
    rw [show u = _ from s.answerUncarried_eq .., State.request1_frame]
    rfl
  refine ⟨?_, ?_, ?_, frame⟩ <;> rcases hm with h | h <;> rw [show u.mgmt = _ from h]
  · rfl
  · rfl
  · rfl
  · rfl
  · exact ⟨e.uncarriedJob number code status, by simp [State.addJob], rfl, rfl, rfl, rfl⟩
  · exact ⟨(e.uncarriedJob number code status).begun1, by simp [State.addJob], rfl, rfl, rfl, rfl⟩

/-! ### The judgement of a frame (R173) -/

theorem exec_mgmtFrameTake (s : State) (f : Bytes) (rest : List Bytes) (ha : s.mgmt.arrivals = f :: rest) (hb : s.unitBusy = false) :
    exec .mgmtFrameTake s = .next (State.takeFrame { s with mgmt := { s.mgmt with arrivals := rest } } f).settle := by
  simp [exec, execMgmtFrameTake, ha, hb]

theorem State.takeFrame_drops (s : State) (f : Bytes) (h : s.opState = .factory ∨ readCommand s.mgmtKey (readEth f).payload = none) :
    s.takeFrame f = s.raise .mgmtAuthFail := by
  unfold State.takeFrame
  by_cases hf : s.opState = .factory
  · rw [if_pos hf]; rfl
  · rw [if_neg hf, h.resolve_left hf]; rfl

theorem State.takeFrame_reads (s : State) (f : Bytes) (number code : Nat) (operands : Bytes) (hf : s.opState ≠ .factory)
    (h : readCommand s.mgmtKey (readEth f).payload = some (number, code, operands)) :
    s.takeFrame f = if number ≤ s.mgmt.last then s.answerStale (readEth f) number code
      else s.acceptCommand (readEth f) number code operands := by
  unfold State.takeFrame
  rw [if_neg hf, h]

/-- Settles O52: authentic, then new, then of a known form, then allowed by the operating state. -/
theorem managementFrameIsJudgedInOrder : Obligations.ManagementFrameIsJudgedInOrder := by
  refine ⟨fun key p => ⟨readCommand_authentic key p, readCommand_not_authentic key p⟩,
    fun key number code operands after h1 h2 h3 => readCommand_built key number code operands after h1 h2 h3, fun s hs => ?_,
    fun s f rest ha hb => ?_⟩
  · rcases hs with h | h
    · simp [exec, execMgmtFrameTake, h]
    · simp only [exec, execMgmtFrameTake, h]
      split <;> rfl
  intro e s0 outcome
  have take : ∀ u, s0.takeFrame f = u → outcome u := fun u hu => hu ▸ exec_mgmtFrameTake s f rest ha hb
  refine ⟨fun h => take _ (s0.takeFrame_drops f h), fun number code operands hf hr => ?_⟩
  have reads := s0.takeFrame_reads f number code operands hf hr
  intro s1
  have accept : s.mgmt.last < number → s0.takeFrame f = s0.acceptCommand e number code operands := fun h =>
    reads.trans (if_neg (Nat.not_le.2 h))
  refine ⟨fun hn => ?_, fun hn hd => ?_, fun c hn hd hs hc => ?_, fun c hn hd hs => ?_⟩
  · refine ⟨_, take _ (reads.trans (if_pos hn)), rfl, rfl, rfl, ?_, rfl, rfl⟩
    exact s0.count_raise_self ..
  · obtain ⟨hlast, htaken, hjob, hframe⟩ := (s1.raise .mgmtFormat).answerUncarried_spec e number code .format
    refine ⟨_, take _ ((accept hn).trans ?_), ?_, hlast, htaken, hjob, ?_⟩
    · rw [State.acceptCommand, hd]
    · rw [State.count, hframe]
      exact s1.count_raise_self ..
    · have he : ((s1.raise .mgmtFormat).answerUncarried e number code .format).events = (s1.raise .mgmtFormat).events := by rw [hframe]
      rw [he]
      exact hframe
  · obtain ⟨hlast, htaken, hjob, hframe⟩ := s1.answerUncarried_spec e number code .notReady
    refine ⟨_, take _ ((accept hn).trans ?_), hlast, htaken, hjob, ?_⟩
    · rw [State.acceptCommand, hd]
      exact if_pos ⟨hs, hc⟩
    · exact hframe
  · refine take _ ((accept hn).trans ?_)
    rw [State.acceptCommand, hd]
    exact if_neg (by rintro ⟨h1, h2⟩; exact hs.elim (· h1) h2)

/-! ### Responses (R15, R175, R179) -/

theorem Job.ended_iff (j : Job) : j.ended = true ↔ j.s1 = .no ∧ j.s2 = .no ∧ j.s3 = .no ∧ j.format = false
    ∧ (j.role = .current ∨ (∃ h, j.role = .waiting h none) ∨ j.role = .late) := by
  unfold Job.ended
  cases j.role with
  | current => simp [and_assoc]
  | waiting h limit =>
    cases limit with
    | none => simp [and_assoc]
    | some l => simp
  | late => simp [and_assoc]
  | stopped h => simp

/-- The response of a job as the state stands. -/
def State.responseTo (s : State) (j : Job) : Response :=
  { frame := s.responseFrame j.src j.vlan j.number j.code j.status (s.resultBytes j.results), keepsUnit := j.role == .current
    isReset := j.code == 18 && j.status == .ok }

/-- What a response reports does not depend on the responses that wait. -/
theorem State.responseTo_respond (s : State) (r : Response) : (s.respond r).responseTo = s.responseTo := by
  have results : ∀ x, (s.respond r).resultBytes x = s.resultBytes x := by
    intro x
    cases x with
    | limits t => cases t <;> rfl
    | loadKey c t => cases t <;> rfl
    | _ => rfl
  funext j
  rw [State.responseTo, results]
  rfl

/-- Answering jobs one after another builds their responses in order. -/
theorem State.foldl_answerJob (s : State) (jobs : List Job) :
    jobs.foldl State.answerJob s =
      { s with mgmt := { s.mgmt with responses := s.mgmt.responses ++ jobs.map s.responseTo } } := by
  induction jobs generalizing s with
  | nil => simp
  | cons j jobs ih =>
    have hj : s.answerJob j = s.respond (s.responseTo j) := rfl
    rw [List.foldl_cons, hj, ih, State.responseTo_respond]
    simp [State.respond]

/-! ### Offering responses (R19, R175) -/

theorem State.offerResponse_offers (s : State) (r : Response) (rest : List Response) (h : s.mgmt.responses = r :: rest)
    (hw : ∀ x ∈ s.waitOrder, x.1 ≠ .mgmt) :
    s.offerResponse = s.offerUplink .mgmt { bytes := r.frame, isReset := r.isReset } := by
  have : ¬ s.waitOrder.any (fun x => x.1 == .mgmt) = true := by
    rw [List.any_eq_true]
    rintro ⟨x, hx, h⟩
    exact hw x hx (beq_iff_eq.1 h)
  rw [State.offerResponse, if_neg this, h]

theorem State.offerResponse_waiting (s : State) (h : ∃ x ∈ s.waitOrder, x.1 = .mgmt) : s.offerResponse = s := by
  have : s.waitOrder.any (fun x => x.1 == .mgmt) = true := by
    obtain ⟨x, hx, h⟩ := h
    exact List.any_eq_true.2 ⟨x, hx, by simp [h]⟩
  rw [State.offerResponse, if_pos this]

/-- The one place of the Uplink Priority Queue goes to the Unit's response, which began waiting earliest. -/
theorem State.serveUplink_mgmt (s : State) (f : TxFrame) (more : List (Waiter × TxFrame)) (hup : s.uplink.linkUp = true)
    (hlen : s.uplink.priority.length = 31) (hw : s.waitOrder = (.mgmt, f) :: more) :
    s.serveUplink = { s with
      waitOrder := more
      uplink := { s.uplink with priority := s.uplink.priority ++ [f] }
      mgmt := { s.mgmt with responses := s.mgmt.responses.drop 1 } } := by
  have room : s.uplink.priority.length < Config.priorityDepth := by rw [hlen]; decide
  have first := State.placePriority_uplink_up { s with waitOrder := s.waitOrder.drop 1 } f hup
  rw [State.serveUplink, hw, List.foldl_cons, if_pos room, first, List.foldl_fixed']
  · simp only [hw]
    rfl
  · intro x
    refine if_neg ?_
    simp [State.placed, hlen, Config.priorityDepth]

/-! ### Results (R181, R197) -/

/-- A field of equal blocks one after another. -/
theorem field_blocks (w : Nat) (f : Nat → Nat) (count n : Nat) (h : n < count) :
    field ((List.range count).flatMap (fun j => be w (f j))) (w * n) w = f n % 256 ^ w := by
  have len : ∀ c, ((List.range c).flatMap (fun j => be w (f j))).length = w * c := by
    intro c
    simp [List.length_flatMap, Nat.mul_comm]
  induction count with
  | zero => cases h
  | succ count ih =>
    rw [List.range_succ, List.flatMap_append]
    rcases Nat.lt_succ_iff_lt_or_eq.1 h with h | rfl
    · have hk : w * n + w ≤ ((List.range count).flatMap (fun j => be w (f j))).length := by
        rw [len, ← Nat.mul_succ]
        exact Nat.mul_le_mul_left w h
      rw [field, List.drop_append_of_le_length (by omega), List.take_append_of_le_length (by rw [List.length_drop]; omega)]
      exact ih h
    · rw [field_skip _ _ _ _ (len n).le, len, Nat.sub_self, ← beNat_be]
      have := field_head (be w (f n)) []
      simpa using this

theorem State.counterBytes_field (s : State) (first count n : Nat) (e : EventCode) (hn : n < count) (he : first + n = e.number) :
    field (s.counterBytes first count) (2 * n) 2 = s.count e % 65536 := by
  rw [State.counterBytes, field_blocks 2 (fun j => s.events.counters[first + j]?.getD 0) count n hn, he]
  rfl

theorem State.length_counterBytes (s : State) (first count : Nat) : (s.counterBytes first count).length = 2 * count := by
  simp [State.counterBytes, List.length_flatMap, Nat.mul_comm]

/-- Settles O53: when a command has ended, its response, the offers, and what the results read. -/
theorem responsesAreBuiltInOrder : Obligations.ResponsesAreBuiltInOrder := by
  refine ⟨Job.ended_iff, fun s => ?_, fun s r rest h => ?_, fun s f more r rest hs hu hl hw hr => ?_, fun s k i => ?_⟩
  · exact State.foldl_answerJob _ _
  · intro frame
    refine ⟨fun ho => ?_, fun hw hn => ?_, fun hw => s.offerResponse_waiting hw⟩
    · rw [s.offerResponse_offers r rest h (by rw [ho.1]; exact nofun), s.offerUplink_open _ _ ho]
      simp only [State.placed, h]
      rfl
    · rw [s.offerResponse_offers r rest h hn, s.offerUplink_waits _ _ hw]
  · obtain ⟨g, queue, hq⟩ := List.exists_cons_of_length_eq_add_one hl
    have start : s.startSending .uplink =
        State.serveUplink { s with uplink := { s.uplink with priority := queue, sending := some g } } := by
      simp [State.startSending, State.port, State.setPort, hq]
    have hlen : queue.length = 31 := by simpa [hq] using hl
    have hx : exec (.transmitStart .uplink) s = .next (s.startSending .uplink).settle := by
      simp [exec, execTransmitStart, State.port, hs, hu]
    have serve := State.serveUplink_mgmt { s with uplink := { s.uplink with priority := queue, sending := some g } } f more hu hlen hw
    refine ⟨_, hx, ?_⟩
    rw [start, serve, hq]
    refine ⟨?_, rfl, rfl⟩
    simp only [hr]
    rfl
  · intro p gen state
    exact ⟨fun _ => rfl, fun _ => ⟨rfl, rfl⟩, rfl, rfl, rfl, rfl, rfl, rfl, fun first count =>
      ⟨s.length_counterBytes first count, fun n e hn he => s.counterBytes_field first count n e hn he⟩⟩

end Sys2Proof.Machine
end

section
/-! PROOFS. The Drain Controller (R12, R164, R165, R170): arming, the record it takes next, and one turn. -/

namespace Sys2Proof.Machine

/-! ### Arming (R164) -/

theorem State.anyHeld_iff (s : State) : s.anyHeld = true ↔ ∃ l ∈ s.holding.lines, l.held = true := by simp [State.anyHeld]

theorem State.mayRun_iff (s : State) : (s.lineSettled = true ∧ s.hasDrainGateway = true) ↔
    s.link.state = .up ∧ s.link.settled = true ∧ s.settings.store.drainGw.ip ≠ 0 := by
  simp [State.lineSettled, State.hasDrainGateway, and_assoc]

theorem State.armDrain_runs (s : State) (h : s.link.state = .up ∧ s.link.settled = true ∧ s.settings.store.drainGw.ip ≠ 0) :
    s.armDrain = { s with drain := { s.drain with state := .running, cursor := 0 } } :=
  if_pos ⟨rfl, s.mayRun_iff.2 h⟩

theorem State.armDrain_armed (s : State) (h : ¬ (s.link.state = .up ∧ s.link.settled = true ∧ s.settings.store.drainGw.ip ≠ 0)) :
    s.armDrain = { s with drain := { s.drain with state := .armed } } :=
  if_neg fun ⟨_, hr⟩ => h (s.mayRun_iff.1 hr)

theorem State.autoArm_iff (s : State) :
    (s.settings.store.mode = .auto ∧ s.drain.state = .idle ∧ s.opState = .serving ∧ (!s.settings.suspended) = true ∧ s.anyHeld = true) ↔
      (s.settings.store.mode = .auto ∧ s.drain.state = .idle ∧ s.opState = .serving ∧ s.settings.suspended = false
        ∧ ∃ l ∈ s.holding.lines, l.held = true) := by
  rw [s.anyHeld_iff, Bool.not_eq_true']

theorem State.autoArm_spec (s : State) :
    let armed := s.settings.store.mode = .auto ∧ s.drain.state = .idle ∧ s.opState = .serving ∧ s.settings.suspended = false
      ∧ ∃ l ∈ s.holding.lines, l.held = true
    let runs := s.link.state = .up ∧ s.link.settled = true ∧ s.settings.store.drainGw.ip ≠ 0
    (armed → runs → s.autoArm = { s with drain := { s.drain with state := .running, cursor := 0 } })
      ∧ (armed → ¬ runs → s.autoArm = { s with drain := { s.drain with state := .armed } })
      ∧ (¬ armed → s.autoArm = s) := by
  intro armed runs
  have arms : armed → s.autoArm = s.armDrain := fun h => if_pos (s.autoArm_iff.2 h)
  exact ⟨fun h hr => (arms h).trans (s.armDrain_runs hr), fun h hr => (arms h).trans (s.armDrain_armed hr),
    fun h => if_neg (mt s.autoArm_iff.1 h)⟩

/-! ### The record taken next (R160, R165) -/

/-- The record may be taken: HELD, neither DRAINING nor taken for freeing, its sequence above the cursor. -/
def IndexLine.drainable (cursor : Nat) (l : IndexLine) : Bool :=
  l.held && !l.draining && !l.freeing && decide (cursor < l.head.seq)

theorem IndexLine.drainable_iff (cursor : Nat) (l : IndexLine) :
    l.drainable cursor = true ↔ l.held = true ∧ l.draining = false ∧ l.freeing = false ∧ cursor < l.head.seq := by
  simp [IndexLine.drainable, and_assoc]

/-- The better of the record found so far and the next one looked at. -/
def pickNext (cursor : Nat) (best : Option IndexLine) (l : IndexLine) : Option IndexLine :=
  if l.drainable cursor then
    match best with
    | none => some l
    | some b => if l.head.seq < b.head.seq then some l else some b
  else best

theorem HoldingStore.nextToDrain_eq (h : HoldingStore) (cursor : Nat) : h.nextToDrain cursor = h.lines.foldl (pickNext cursor) none := rfl

/-- The fold finds nothing exactly when there is nothing to find. -/
theorem foldl_pickNext_none (cursor : Nat) (lines : List IndexLine) (best : Option IndexLine)
    (h : lines.foldl (pickNext cursor) best = none) : best = none ∧ ∀ l ∈ lines, l.drainable cursor = false := by
  induction lines generalizing best with
  | nil => exact ⟨h, nofun⟩
  | cons x lines ih =>
    obtain ⟨hb, hl⟩ := ih _ h
    unfold pickNext at hb
    split at hb
    · split at hb
      · cases hb
      · split at hb <;> cases hb
    · rename_i hx
      exact ⟨hb, List.forall_mem_cons.2 ⟨by simpa using hx, hl⟩⟩

/-- What the fold finds is a record that may be taken, or what it began with, and has the lowest sequence of all of these. -/
theorem foldl_pickNext_some (cursor : Nat) (lines : List IndexLine) (best : Option IndexLine) (l : IndexLine)
    (h : lines.foldl (pickNext cursor) best = some l) :
    (best = some l ∨ l ∈ lines ∧ l.drainable cursor = true)
      ∧ (∀ b, best = some b → l.head.seq ≤ b.head.seq)
      ∧ ∀ x ∈ lines, x.drainable cursor = true → l.head.seq ≤ x.head.seq := by
  induction lines generalizing best with
  | nil => exact ⟨.inl h, fun b hb => by cases h; cases hb; exact Nat.le_refl _, nofun⟩
  | cons x lines ih =>
    obtain ⟨hl, hb, hx⟩ := ih _ h
    unfold pickNext at hl hb
    split at hl
    case isFalse hn =>
      rw [if_neg hn] at hb
      exact ⟨hl.imp id (fun ⟨h1, h2⟩ => ⟨List.mem_cons_of_mem _ h1, h2⟩), hb,
        List.forall_mem_cons.2 ⟨fun h => absurd h hn, hx⟩⟩
    case isTrue hp =>
      rw [if_pos hp] at hb
      cases best with
      | none =>
        refine ⟨.inr ?_, nofun, List.forall_mem_cons.2 ⟨fun _ => hb x rfl, hx⟩⟩
        rcases hl with hl | ⟨h1, h2⟩
        · cases hl; exact ⟨List.mem_cons_self, hp⟩
        · exact ⟨List.mem_cons_of_mem _ h1, h2⟩
      | some b =>
        dsimp only at hl hb
        by_cases hlt : x.head.seq < b.head.seq
        · rw [if_pos hlt] at hl hb
          have hxs := hb x rfl
          refine ⟨.inr ?_, fun c hc => by cases hc; omega, List.forall_mem_cons.2 ⟨fun _ => hxs, hx⟩⟩
          rcases hl with hl | ⟨h1, h2⟩
          · cases hl; exact ⟨List.mem_cons_self, hp⟩
          · exact ⟨List.mem_cons_of_mem _ h1, h2⟩
        · rw [if_neg hlt] at hl hb
          have hbs := hb b rfl
          exact ⟨hl.imp id (fun ⟨h1, h2⟩ => ⟨List.mem_cons_of_mem _ h1, h2⟩), fun c hc => by cases hc; exact hbs,
            List.forall_mem_cons.2 ⟨fun _ => by omega, hx⟩⟩

theorem HoldingStore.nextToDrain_some (h : HoldingStore) (cursor : Nat) (l : IndexLine) (hl : h.nextToDrain cursor = some l) :
    l ∈ h.lines ∧ l.drainable cursor = true ∧ ∀ x ∈ h.lines, x.drainable cursor = true → l.head.seq ≤ x.head.seq := by
  rw [h.nextToDrain_eq] at hl
  obtain ⟨found, -, lowest⟩ := foldl_pickNext_some cursor h.lines none l hl
  obtain ⟨hm, hd⟩ := found.resolve_left nofun
  exact ⟨hm, hd, lowest⟩

theorem HoldingStore.nextToDrain_eq_none_iff (h : HoldingStore) (cursor : Nat) :
    h.nextToDrain cursor = none ↔ ∀ l ∈ h.lines, ¬ l.drainable cursor = true := by
  refine ⟨fun hn l hl => ?_, fun hn => Option.eq_none_iff_forall_ne_some.2 fun l hl => ?_⟩
  · rw [h.nextToDrain_eq] at hn
    simp [(foldl_pickNext_none cursor h.lines none hn).2 l hl]
  · obtain ⟨hm, hd, -⟩ := h.nextToDrain_some cursor l hl
    exact hn l hm hd

/-! ### The record's frame (R12, R170) -/

theorem HoldingStore.recordAt_of_find (h : HoldingStore) (l : IndexLine) (v : NvSlot) (r : HeldRecord)
    (hv : h.nv.find? (fun x => x.slot == l.slot) = some v) (hr : v.contents = some r) :
    h.recordAt l = { head := l.head, message := r.message, checkPasses := r.checkPasses } := by
  simp [HoldingStore.recordAt, hv, hr]

theorem HoldingStore.recordAt_fails (h : HoldingStore) (l : IndexLine)
    (hn : ∀ (v : NvSlot) (r : HeldRecord), h.nv.find? (fun x => x.slot == l.slot) = some v → v.contents = some r → r.checkPasses = false) :
    (h.recordAt l).checkPasses = false := by
  unfold HoldingStore.recordAt
  split
  · rfl
  · rename_i r hr
    obtain ⟨v, hv, hc⟩ := Option.bind_eq_some_iff.1 hr
    exact hn v r hv hc

/-- The head of a stored record is the one the index holds. -/
theorem HoldingStore.recordAt_head (h : HoldingStore) (l : IndexLine) : (h.recordAt l).head = l.head := by
  unfold HoldingStore.recordAt
  split <;> rfl

/-- What a drain record's code is over: the record, or its damaged notice. -/
def drainBody (serial : BitVec 64) (r : HeldRecord) : Bytes :=
  if r.checkPasses then be 1 1 ++ be 1 (if r.head.forwardedOnce then 1 else 0) ++ be 4 r.head.seq ++ beVec 8 serial ++ r.message
  else be 1 1 ++ be 1 2 ++ be 4 r.head.seq ++ beVec 8 serial ++ be 2 r.head.number ++ be 4 r.head.reference ++ be 6 r.head.weight

theorem drainRecord_eq (key : Key) (serial : BitVec 64) (r : HeldRecord) :
    drainRecord key serial r = sealed key (drainBody serial r) := by
  unfold drainRecord drainBody
  split <;> rfl

/-! ### A record taken (R165) -/

/-- The state in which a taken record's frame is offered. -/
def State.taking (s : State) (l : IndexLine) : State :=
  { s with
    events := if (s.holding.recordAt l).checkPasses then s.events
      else (s.raise .recordDamaged (till := some l.head.till) (location := some (.holding l.slot))).events
    drain := { s.drain with cursor := l.head.seq, inHand := some l.head.seq }
    holding := s.holding.mapLine l.slot (fun x => { x with draining := true })
    ipId := (s.ipId + 1) % 65536 }

/-- The frame of a taken record. -/
def State.drainFrame (s : State) (l : IndexLine) : TxFrame :=
  let g := s.settings.store.drainGw
  { bytes := udpFrame g.hop s.ownMac none s.settings.store.ownIp g.ip g.port g.port s.ipId
      (sealed s.mgmtKey (drainBody s.serial (s.holding.recordAt l)))
    isReset := false }

theorem State.takeRecord_eq (s : State) (l : IndexLine) : s.takeRecord l = (s.taking l).offerUplink .drain (s.drainFrame l) := by
  unfold State.takeRecord State.taking State.drainFrame
  rw [← drainRecord_eq]
  cases hp : (s.holding.recordAt l).checkPasses <;> simp only [hp] <;> rfl

theorem State.count_taking (s : State) (l : IndexLine) :
    (s.taking l).count .recordDamaged =
      if !(s.holding.recordAt l).checkPasses then min (s.count .recordDamaged + 1) 65535 else s.count .recordDamaged := by
  unfold State.taking
  cases (s.holding.recordAt l).checkPasses
  · exact s.count_raise_self ..
  · rfl

/-- What an offered drain frame changes: the index keeps its heads, and every line of another sequence. -/
theorem State.offerUplink_drain (s : State) (f : TxFrame) (q : Nat) (hf : f.isReset = false) (hq : s.drain.inHand = some q) :
    let t := s.offerUplink .drain f
    (∃ g : IndexLine → IndexLine, (∀ x, (g x).head = x.head) ∧ (∀ x, x.head.seq ≠ q → g x = x)
        ∧ t.holding = { s.holding with lines := s.holding.lines.map g })
      ∧ t.count .recordDamaged = s.count .recordDamaged
      ∧ t.drain = { s.drain with inHand := t.drain.inHand }
      ∧ t = { s with drain := t.drain, holding := t.holding, events := t.events, uplink := t.uplink, waitOrder := t.waitOrder } := by
  intro t
  rcases s.offerUplink_cases .drain f hf with h | ⟨up, ev, hev, h⟩
  · rw [show t = _ from h]
    exact ⟨⟨id, fun _ => rfl, fun _ _ => rfl, by simp⟩, rfl, rfl, rfl⟩
  · rw [show t = _ from h, State.placed_drain { s with uplink := up, events := ev } q hq]
    refine ⟨⟨_, fun x => ?_, fun x hx => ?_, rfl⟩, hev _ (by decide), rfl, rfl⟩
    · split <;> rfl
    · simp [hx]

/-- The mark of a taken record. -/
theorem State.taking_lines (s : State) (l : IndexLine) :
    (s.taking l).holding = { s.holding with
      lines := s.holding.lines.map (fun x => if x.slot = l.slot then { x with draining := true } else x) } := rfl

theorem State.marked_mem (s : State) (l : IndexLine) (h : l ∈ s.holding.lines) :
    { l with draining := true } ∈ (s.taking l).holding.lines := by
  rw [s.taking_lines]
  exact List.mem_map.2 ⟨l, h, if_pos rfl⟩

/-- A taken record whose frame the queue takes at once: its deadline runs, and a damaged notice is noted as sent. -/
theorem State.takeRecord_open (s : State) (l : IndexLine) (ho : s.uplinkOpen) (hl : l ∈ s.holding.lines) (hheld : l.held = true) :
    (s.takeRecord l).uplink = { s.uplink with priority := s.uplink.priority ++ [s.drainFrame l] }
      ∧ (s.takeRecord l).drain.inHand = none
      ∧ { l with draining := true, noticed := l.noticed || !(s.holding.recordAt l).checkPasses
                 deadline := some (s.now + 1000 * s.settings.store.ackTimeout) } ∈ (s.takeRecord l).holding.lines := by
  rw [s.takeRecord_eq, (s.taking l).offerUplink_open _ _ ho, State.placed_drain _ l.head.seq rfl]
  refine ⟨rfl, rfl, List.mem_map.2 ⟨_, s.marked_mem l hl, ?_⟩⟩
  exact if_pos (by simp [hheld])

theorem State.takeRecord_waits (s : State) (l : IndexLine) (hw : s.waitOrder ≠ [] ∨ 32 ≤ s.uplink.priority.length)
    (hl : l ∈ s.holding.lines) :
    (s.takeRecord l).waitOrder = s.waitOrder ++ [(.drain, s.drainFrame l)] ∧ (s.takeRecord l).drain.inHand = some l.head.seq
      ∧ { l with draining := true } ∈ (s.takeRecord l).holding.lines := by
  rw [s.takeRecord_eq, (s.taking l).offerUplink_waits _ _ hw]
  exact ⟨rfl, rfl, s.marked_mem l hl⟩

/-- What taking a record does whatever the queue (R12, R165): the count, the controller, the index, and what else may change. -/
theorem State.takeRecord_spec (s : State) (l : IndexLine) :
    let t := s.takeRecord l
    t.count .recordDamaged = (if !(s.holding.recordAt l).checkPasses then min (s.count .recordDamaged + 1) 65535 else s.count .recordDamaged)
      ∧ t.drain.cursor = l.head.seq ∧ t.drain.state = s.drain.state ∧ t.drain.tally = s.drain.tally
      ∧ t.holding.lines.map (·.head) = s.holding.lines.map (·.head)
      ∧ (∀ x ∈ s.holding.lines, x.slot ≠ l.slot → x.head.seq ≠ l.head.seq → x ∈ t.holding.lines)
      ∧ t.ipId = (s.ipId + 1) % 65536
      ∧ t = { s with drain := t.drain, holding := { s.holding with lines := t.holding.lines }, events := t.events
                     uplink := t.uplink, waitOrder := t.waitOrder, ipId := t.ipId } := by
  intro t
  obtain ⟨⟨g, ghead, gother, ghold⟩, hcount, hdrain, hframe⟩ := (s.taking l).offerUplink_drain (s.drainFrame l) l.head.seq rfl rfl
  rw [← s.takeRecord_eq, ← show t = s.takeRecord l from rfl] at ghold hcount hdrain hframe
  have lines : t.holding.lines = s.holding.lines.map (fun x => g (if x.slot = l.slot then { x with draining := true } else x)) := by
    rw [ghold, s.taking_lines, List.map_map]
    rfl
  refine ⟨hcount.trans (s.count_taking l), by rw [hdrain]; rfl, by rw [hdrain]; rfl, by rw [hdrain]; rfl, ?_, fun x hx hs hq => ?_,
    by rw [hframe]; rfl, by rw [hframe, ghold]; rfl⟩
  · rw [lines, List.map_map]
    refine List.map_congr_left fun x _ => ?_
    simp only [Function.comp_apply, ghead]
    split <;> rfl
  · rw [lines]
    exact List.mem_map.2 ⟨x, hx, by rw [if_neg hs, gother x hq]⟩

/-! ### One turn (R165) -/

/-- The controller may take a record: RUNNING, none in hand, room in the window. -/
def State.drainOpen (s : State) : Prop :=
  s.drain.state = .running ∧ s.drain.inHand = none ∧ s.holding.drainingCount < s.settings.store.window

theorem State.drainTurn_closed (s : State) (h : ¬ s.drainOpen) : s.drainTurn = s := if_neg h

theorem State.drainTurn_takes (s : State) (h : s.drainOpen) (l : IndexLine) (hl : s.holding.nextToDrain s.drain.cursor = some l) :
    s.drainTurn = s.takeRecord l := by
  unfold State.drainOpen at h
  rw [State.drainTurn, if_pos h, hl]

/-- With no record to take, the pass is exhausted once none is DRAINING or being freed: a new one begins, or the drain completes. -/
theorem State.drainTurn_none (s : State) (h : s.drainOpen) (hn : s.holding.nextToDrain s.drain.cursor = none) :
    ((∃ l ∈ s.holding.lines, l.draining = true ∨ l.freeing = true) → s.drainTurn = s)
      ∧ ((¬ ∃ l ∈ s.holding.lines, l.draining = true ∨ l.freeing = true) →
          ((∃ l ∈ s.holding.lines, l.held = true) → s.drainTurn = { s with drain := { s.drain with cursor := 0 } })
            ∧ ((¬ ∃ l ∈ s.holding.lines, l.held = true) → s.drainTurn = s.completeDrain)) := by
  have busy : (s.holding.drainingCount ≠ 0 ∨ s.holding.lines.any (·.freeing) = true) ↔
      ∃ l ∈ s.holding.lines, l.draining = true ∨ l.freeing = true := by
    simp [HoldingStore.drainingCount, and_or_left, exists_or]
  unfold State.drainOpen at h
  rw [State.drainTurn, if_pos h, hn, ← busy, ← s.anyHeld_iff]
  exact ⟨fun hb => if_pos hb, fun hb => ⟨fun hh => (if_neg hb).trans (if_pos hh), fun hh => (if_neg hb).trans (if_neg hh)⟩⟩

/-- A drain that completes (R170). -/
theorem State.completeDrain_spec (s : State) :
    s.completeDrain.count .drainComplete = min (s.count .drainComplete + 1) 65535
      ∧ s.completeDrain.drain = { state := .idle, cursor := 0, inHand := none, tally := emptyTally
                                  summary := some { tally := s.drain.tally, unread := true
                                                    overwritten := (s.drain.summary.map (·.unread)).getD false } }
      ∧ s.completeDrain = { s with drain := s.completeDrain.drain, events := s.completeDrain.events } := by
  refine ⟨State.count_raise_self .., ?_, rfl⟩
  unfold State.completeDrain
  cases s.drain.summary <;> rfl

/-- Settles O5: arming, the end of a step, and one turn by whether there is a record to take. -/
theorem drainTakesRecordsInOrder : Obligations.DrainTakesRecordsInOrder := by
  refine ⟨State.autoArm_spec, fun s h => by rw [State.settle, s.quietCheck_none h]; rfl, fun s => ?_⟩
  intro open_ eligible t
  have eligible_iff : ∀ l, eligible l ↔ l ∈ s.holding.lines ∧ l.drainable s.drain.cursor = true := fun l => by
    rw [IndexLine.drainable_iff]
  refine ⟨s.drainTurn_closed, fun ho hn => ?_, fun ho he => ?_⟩
  · have none_found : s.holding.nextToDrain s.drain.cursor = none :=
      (s.holding.nextToDrain_eq_none_iff _).2 fun l hl hd => hn l ((eligible_iff l).2 ⟨hl, hd⟩)
    obtain ⟨waits, exhausted⟩ := s.drainTurn_none ho none_found
    refine ⟨waits, fun hb => ?_⟩
    obtain ⟨again, completes⟩ := exhausted (fun ⟨l, hl, h⟩ => by simp [hb l hl] at h)
    refine ⟨again, fun hh => ?_⟩
    rw [show t = s.completeDrain from completes (fun ⟨l, hl, h⟩ => by simp [hh l hl] at h)]
    exact s.completeDrain_spec
  · obtain ⟨l, hl⟩ : ∃ l, s.holding.nextToDrain s.drain.cursor = some l := by
      obtain ⟨x, hx⟩ := he
      obtain ⟨hm, hd⟩ := (eligible_iff x).1 hx
      exact Option.ne_none_iff_exists'.1 fun hn => (s.holding.nextToDrain_eq_none_iff _).1 hn x hm hd
    obtain ⟨hmem, hdr, lowest⟩ := s.holding.nextToDrain_some _ l hl
    obtain ⟨hheld, -⟩ := (l.drainable_iff _).1 hdr
    obtain ⟨hcount, hcursor, hstate, htally, hheads, hothers, hip, hframe⟩ := s.takeRecord_spec l
    rw [show t = s.takeRecord l from s.drainTurn_takes ho l hl]
    refine ⟨l, (eligible_iff l).2 ⟨hmem, hdr⟩, fun x hx => ?_, drainBody s.serial (s.holding.recordAt l),
      !(s.holding.recordAt l).checkPasses, fun v r hv hr hp => ?_, fun hn => ?_, hcount, hcursor, hstate.trans ho.1, htally, hheads,
      hothers, hip, hframe, fun hopen => s.takeRecord_open l hopen hmem hheld, fun hw => s.takeRecord_waits l hw hmem⟩
    · obtain ⟨hm, hd⟩ := (eligible_iff x).1 hx
      exact lowest x hm hd
    · rw [s.holding.recordAt_of_find l v r hv hr, drainBody, if_pos hp]
      exact ⟨by rw [hp]; rfl, rfl⟩
    · rw [drainBody, s.holding.recordAt_fails l hn, s.holding.recordAt_head]
      exact ⟨rfl, rfl⟩

end Sys2Proof.Machine
end

section
/-! PROOFS. Outstanding places (R101, R102, R122): the places taken and filled, a context that takes a place and offers its frame, and the place
that an entry or an abandoned context frees. -/

namespace Sys2Proof.Machine

/-! ### Places taken (R101) -/

/-- Of two tests that differ at one member of a list without repeats, the one that holds there passes one more. -/
theorem length_filter_add_one {α : Type} [DecidableEq α] {p q : α → Bool} {i : α} {l : List α} (hn : l.Nodup) (hi : i ∈ l)
    (hp : p i = false) (hq : q i = true) (h : ∀ j, j ≠ i → q j = p j) : (l.filter q).length = (l.filter p).length + 1 := by
  induction l with
  | nil => cases hi
  | cons x l ih =>
    obtain ⟨hx, hl⟩ := List.nodup_cons.1 hn
    by_cases hxi : x = i
    · subst hxi
      have same : l.filter q = l.filter p := List.filter_congr fun j hj => h j (fun e => hx (e ▸ hj))
      simp [hp, hq, same]
    · have := ih hl (List.mem_of_ne_of_mem (Ne.symm hxi) hi)
      rw [List.filter_cons, List.filter_cons, h x hxi]
      split <;> simp [this]

/-- The context holds a place (R101). -/
def Ctx.holdsPlace (x : Ctx) : Bool := (x.wrap.map (·.place)) == some true

theorem State.takenPlaces_eq (s : State) : s.takenPlaces = (allCtxs.filter (fun i => (s.ctx i).holdsPlace)).length := rfl

theorem mem_allCtxs (i : CtxIx) : i ∈ allCtxs := by revert i; decide

/-- One context has taken a place, and nothing else has changed of the contexts. -/
theorem State.takenPlaces_add_one (s t : State) (i : CtxIx) (hs : (s.ctx i).holdsPlace = false) (ht : (t.ctx i).holdsPlace = true)
    (h : ∀ j, j ≠ i → t.ctx j = s.ctx j) : t.takenPlaces = s.takenPlaces + 1 := by
  rw [State.takenPlaces_eq, State.takenPlaces_eq]
  exact length_filter_add_one (by decide) (mem_allCtxs i) hs ht (fun j hj => by rw [h j hj])

/-- A context that holds no place before or after, where nothing else has changed of the contexts. -/
theorem State.takenPlaces_same (s t : State) (i : CtxIx) (hs : (s.ctx i).holdsPlace = false) (ht : (t.ctx i).holdsPlace = false)
    (h : ∀ j, j ≠ i → t.ctx j = s.ctx j) : t.takenPlaces = s.takenPlaces := by
  rw [State.takenPlaces_eq, State.takenPlaces_eq, List.filter_congr]
  intro j _
  by_cases hj : j = i
  · rw [hj, hs, ht]
  · rw [h j hj]

/-! ### A context takes a place and offers its frame (R19, R102) -/

theorem State.placed_ctx (s : State) (i : CtxIx) (w : Wrap) (m : TillMsg) (hw : (s.ctx i).wrap = some w) (hm : w.msg = some m) :
    s.placed (.ctx i) = State.ctxToIdle { s with outstanding := s.outstanding ++ [s.newEntry w m] } i := by
  simp only [State.placed, hw, hm]

/-- The state in which a context that has taken a place offers its frame. -/
def State.placing (s : State) (i : CtxIx) (w : Wrap) : State :=
  (s.nextIpId).setCtx i { s.ctx i with wrap := some { w with place := true } }

/-- The frame of a wrapped message, addressed to the gateway of its profile copy. -/
def State.wrapFrame (s : State) (w : Wrap) (m : TillMsg) : TxFrame :=
  { bytes := udpFrame w.profile.gateway.hop s.ownMac m.path.vlan s.settings.store.ownIp w.profile.gateway.ip m.path.dstPort
      w.profile.gateway.port s.ipId w.wrapped
    isReset := false }

theorem State.offerWrap_eq (s : State) (i : CtxIx) (w : Wrap) (m : TillMsg) (hw : (s.ctx i).wrap = some w) (hm : w.msg = some m) :
    s.offerWrap i = (s.placing i w).offerUplink (.ctx i) (s.wrapFrame w m) := by
  unfold State.offerWrap
  split
  case h_1 h => rw [hw] at h; cases h
  case h_2 x h =>
    cases hw.symm.trans h
    split
    case h_1 h => rw [hm] at h; cases h
    case h_2 y h => cases hm.symm.trans h; rfl

theorem State.placing_wrap (s : State) (i : CtxIx) (w : Wrap) : ((s.placing i w).ctx i).wrap = some { w with place := true } := by
  rw [State.placing, State.ctx_setCtx_self]

theorem State.placing_ctx_ne (s : State) (w : Wrap) {i j : CtxIx} (h : j ≠ i) : (s.placing i w).ctx j = s.ctx j := by
  rw [State.placing, State.ctx_setCtx_ne _ _ h]
  rfl

/-- What a context that has taken a place does with it: its frame waits, and it keeps the place; or its entry fills the place, and it is IDLE. -/
theorem State.offerWrap_cases (s : State) (i : CtxIx) (w : Wrap) (m : TillMsg) (hw : (s.ctx i).wrap = some w) (hm : w.msg = some m) :
    s.offerWrap i = { s.placing i w with waitOrder := s.waitOrder ++ [(.ctx i, s.wrapFrame w m)] }
      ∨ ∃ (up : PortState) (ev : Events), s.offerWrap i =
          State.ctxToIdle { s.placing i w with uplink := up, events := ev, outstanding := s.outstanding ++ [s.newEntry w m] } i := by
  rw [s.offerWrap_eq i w m hw hm]
  rcases (s.placing i w).offerUplink_cases (.ctx i) (s.wrapFrame w m) rfl with h | ⟨up, ev, -, h⟩
  · exact .inl h
  · refine .inr ⟨up, ev, h.trans ?_⟩
    exact State.placed_ctx { s.placing i w with uplink := up, events := ev } i { w with place := true } m
      (s.placing_wrap i w) hm

/-- The place a context takes counts as one more, whatever becomes of its frame. -/
theorem State.offerWrap_frame (s : State) (i : CtxIx) (w : Wrap) (m : TillMsg) (hw : (s.ctx i).wrap = some w) (hm : w.msg = some m)
    (hp : w.place = false) :
    (s.offerWrap i).usedPlaces = s.usedPlaces + 1 ∧ (s.offerWrap i).placeWait = s.placeWait
      ∧ (s.offerWrap i).ipId = (s.ipId + 1) % 65536 ∧ ∀ j, j ≠ i → (s.offerWrap i).ctx j = s.ctx j := by
  have none_held : (s.ctx i).holdsPlace = false := by simp [Ctx.holdsPlace, hw, hp]
  rcases s.offerWrap_cases i w m hw hm with h | ⟨up, ev, h⟩
  · have other : ∀ j, j ≠ i → (s.offerWrap i).ctx j = s.ctx j := fun j hj => by rw [h]; exact s.placing_ctx_ne w hj
    have holds : ((s.offerWrap i).ctx i).holdsPlace = true := by
      have := s.placing_wrap i w
      rw [h]
      exact beq_iff_eq.2 (congrArg (Option.map Wrap.place) this)
    refine ⟨?_, by rw [h]; rfl, by rw [h]; rfl, other⟩
    rw [State.usedPlaces, s.takenPlaces_add_one _ i none_held holds other, h]
    exact (Nat.add_assoc ..).symm
  · have ctx : ∀ j, (s.offerWrap i).ctx j = if j = i then idleCtx else (s.placing i w).ctx j := fun j => by
      rw [h, State.ctx_ctxToIdle]; rfl
    have other : ∀ j, j ≠ i → (s.offerWrap i).ctx j = s.ctx j := fun j hj => by rw [ctx, if_neg hj, s.placing_ctx_ne w hj]
    have idle : ((s.offerWrap i).ctx i).holdsPlace = false := by rw [ctx, if_pos rfl]; rfl
    refine ⟨?_, by rw [h, State.ctxToIdle_frame]; rfl, by rw [h, State.ctxToIdle_frame]; rfl, other⟩
    rw [State.usedPlaces, s.takenPlaces_same _ i none_held idle other, h, State.ctxToIdle_frame]
    simp [State.usedPlaces]
    omega

/-! ### Freed places (R101) -/

theorem State.servePlaces_none (s : State) (h : s.placeWait = [] ∨ 256 ≤ s.usedPlaces) : s.servePlaces = s := by
  unfold State.servePlaces
  rcases h with h | h
  · rw [h]; rfl
  · exact List.foldl_fixed' (fun _ => if_neg (Nat.not_lt.2 h)) _

/-- The one free place goes to the context that began waiting earliest. -/
theorem State.servePlaces_one (s : State) (i : CtxIx) (w : Wrap) (m : TillMsg) (rest : List CtxIx) (hq : s.placeWait = i :: rest)
    (hu : s.usedPlaces = 255) (hw : (s.ctx i).wrap = some w) (hm : w.msg = some m) (hp : w.place = false) :
    s.servePlaces = State.offerWrap { s with placeWait := rest } i := by
  have full := (State.offerWrap_frame { s with placeWait := rest } i w m hw hm hp).1
  have room : s.usedPlaces < Config.outstandingPlaces := by rw [hu]; decide
  have used : State.usedPlaces { s with placeWait := rest } = 255 := hu
  unfold State.servePlaces
  rw [hq, List.foldl_cons, if_pos room, hq]
  exact List.foldl_fixed' (fun _ => if_neg (by rw [List.drop_one, List.tail_cons, full, used]; decide)) _

/-- A freed place given to the context that began waiting earliest: what it does with it, and what stays (R101, R102). -/
def State.Serves (s t : State) (i : CtxIx) (w : Wrap) (m : TillMsg) (rest : List CtxIx) : Prop :=
  t.placeWait = rest ∧ t.ipId = (s.ipId + 1) % 65536 ∧ (∀ j, j ≠ i → t.ctx j = s.ctx j)
    ∧ ((s.waitOrder ≠ [] ∨ 32 ≤ s.uplink.priority.length) →
        t.ctx i = { s.ctx i with wrap := some { w with place := true } } ∧ t.waitOrder = s.waitOrder ++ [(.ctx i, s.wrapFrame w m)]
          ∧ t = { s with ctxs := t.ctxs, placeWait := rest, waitOrder := t.waitOrder, ipId := t.ipId })
    ∧ (s.uplinkOpen →
        t.ctx i = { phase := .idle, wrap := none } ∧ t.outstanding = s.outstanding ++ [s.newEntry w m]
          ∧ t.uplink = { s.uplink with priority := s.uplink.priority ++ [s.wrapFrame w m] }
          ∧ t = { s with ctxs := t.ctxs, placeWait := rest, outstanding := t.outstanding, uplink := t.uplink, ipId := t.ipId
                         tills := t.tills })

theorem State.servePlaces_serves (s : State) (i : CtxIx) (w : Wrap) (m : TillMsg) (rest : List CtxIx) (hq : s.placeWait = i :: rest)
    (hu : s.usedPlaces = 255) (hw : (s.ctx i).wrap = some w) (hm : w.msg = some m) (hp : w.place = false) :
    s.Serves s.servePlaces i w m rest := by
  obtain ⟨v, hv⟩ : ∃ v : State, v = { s with placeWait := rest } := ⟨_, rfl⟩
  have hvw : (v.ctx i).wrap = some w := by rw [hv]; exact hw
  have hoffer := v.offerWrap_eq i w m hvw hm
  obtain ⟨-, hwait, hip, hother⟩ := v.offerWrap_frame i w m hvw hm hp
  rw [s.servePlaces_one i w m rest hq hu hw hm hp, ← hv]
  refine ⟨by rw [hwait, hv], by rw [hip, hv], fun j hj => by rw [hother j hj, hv]; rfl, fun hfull => ?_, fun hopen => ?_⟩
  · have full : (v.placing i w).waitOrder ≠ [] ∨ 32 ≤ (v.placing i w).uplink.priority.length := by rw [hv]; exact hfull
    rw [hoffer, State.offerUplink_waits _ _ _ full, hv]
    exact ⟨State.ctx_setCtx_self .., rfl, rfl⟩
  · have room : (v.placing i w).uplinkOpen := by rw [hv]; exact hopen
    rw [hoffer, State.offerUplink_open _ _ _ room,
      State.placed_ctx { v.placing i w with uplink := { (v.placing i w).uplink with
        priority := (v.placing i w).uplink.priority ++ [v.wrapFrame w m] } } i { w with place := true } m (v.placing_wrap i w) hm]
    refine ⟨by rw [State.ctx_ctxToIdle, if_pos rfl]; rfl, ?_, ?_, ?_⟩
    all_goals rw [State.ctxToIdle_frame, hv]
    all_goals rfl

/-! ### The places that entries and abandoned contexts free (R56, R65, R106, R122) -/

theorem State.dropPrevious_frame (s : State) (k : SlotIx) (gen : Nat) :
    s.dropPrevious k gen = { s with keys := (s.dropPrevious k gen).keys } := by
  unfold State.dropPrevious
  split
  · rfl
  · split
    · rfl
    · split <;> rfl

/-- The entry of a pair that no two entries share is the one the pair finds. -/
theorem eraseP_pair (l : List OutEntry) (e : OutEntry) (he : e ∈ l) (hn : (l.map (fun x => (x.till, x.reference))).Nodup) :
    l.eraseP (fun x => x.till == e.till && x.reference == e.reference) = l.erase e := by
  induction l with
  | nil => rfl
  | cons x l ih =>
    obtain ⟨hx, hl⟩ := List.nodup_cons.1 hn
    by_cases hxe : x = e
    · rw [hxe, List.erase_cons_head, List.eraseP_cons_of_pos (by simp)]
    · have hmem : e ∈ l := List.mem_of_ne_of_mem (Ne.symm hxe) he
      have hpair : ¬ (x.till = e.till ∧ x.reference = e.reference) := fun ⟨h1, h2⟩ =>
        hx (List.mem_map.2 ⟨e, hmem, Prod.ext h1.symm h2.symm⟩)
      rw [List.erase_cons_tail (by simpa using hxe), List.eraseP_cons_of_neg (by simpa using hpair), ih hmem hl]

/-- What a context gives when it carries a wrap of the till that has not reached its outcome. -/
def State.openWrapIn (s : State) (till : TillIx) (c : CtxIx) : Option (CtxIx × Wrap) :=
  (s.ctx c).wrap.bind fun w => if w.till = till ∧ (s.ctx c).phase.unsettled then some (c, w) else none

theorem State.openWrap_eq (s : State) (till : TillIx) : s.openWrap till = allCtxs.findSome? (s.openWrapIn till) := by
  unfold State.openWrap
  congr 1
  funext c
  unfold State.openWrapIn
  cases (s.ctx c).wrap <;> rfl

/-- The one member a search can find is found. -/
theorem findSome?_of_unique {α β : Type} [DecidableEq α] (f : α → Option β) (a : α) (b : β) (found : f a = some b)
    (other : ∀ d, d ≠ a → f d = none) (l : List α) (h : a ∈ l) : l.findSome? f = some b := by
  induction l with
  | nil => cases h
  | cons d l ih =>
    rw [List.findSome?_cons]
    by_cases hd : d = a
    · rw [hd, found]
    · rw [other d hd]
      exact ih (List.mem_of_ne_of_mem (Ne.symm hd) h)

/-- The wrap of a till that has not reached its outcome, when no other context's wrap is the till's. -/
theorem State.openWrap_of_unique (s : State) (till : TillIx) (c : CtxIx) (x : Wrap) (hx : (s.ctx c).wrap = some x)
    (hp : (s.ctx c).phase.unsettled = true) (ht : x.till = till) (hone : ∀ d v, d ≠ c → (s.ctx d).wrap = some v → v.till ≠ till) :
    s.openWrap till = some (c, x) := by
  rw [s.openWrap_eq]
  refine findSome?_of_unique _ c _ (by simp [State.openWrapIn, hx, hp, ht]) (fun d hd => ?_) _ (mem_allCtxs c)
  cases hv : (s.ctx d).wrap with
  | none => simp [State.openWrapIn, hv]
  | some v => simp [State.openWrapIn, hv, hone d v hd hv]

theorem State.abandon_ctx (s : State) (i j : CtxIx) : (s.abandon i).ctx j = if j = i then idleCtx else s.ctx j := by
  rw [State.abandon, State.ctx_ctxToIdle]
  rfl

theorem State.abandon_frame (s : State) (i : CtxIx) : s.abandon i = { s with
    ctxs := (s.abandon i).ctxs, tills := (s.abandon i).tills, waitOrder := s.waitOrder.filter (fun x => x.1 != .ctx i)
    placeWait := s.placeWait.filter (fun j => j != i)
    holding := { s.holding with ops := s.holding.ops.map (StoreOp.disown i) } } := by
  unfold State.abandon
  rw [State.ctxToIdle_frame]
  rfl

/-- An entry that leaves a full list frees its place (R122). -/
theorem State.removeEntry_serves (s : State) (e : OutEntry) (i : CtxIx) (w : Wrap) (m : TillMsg) (rest : List CtxIx)
    (hq : s.placeWait = i :: rest) (hu : s.usedPlaces = 256) (hw : (s.ctx i).wrap = some w) (hm : w.msg = some m) (hp : w.place = false)
    (he : e ∈ s.outstanding) (hn : (s.outstanding.map (fun x => (x.till, x.reference))).Nodup) :
    ∃ v : State, v.Serves (s.removeEntry e) i w m rest ∧ v.outstanding = s.outstanding.erase e
      ∧ v = { s with outstanding := v.outstanding, keys := v.keys } := by
  obtain ⟨v, hv⟩ : ∃ v : State, v = State.dropPrevious { s with
    outstanding := s.outstanding.eraseP (fun x => x.till == e.till && x.reference == e.reference) } e.slot e.gen := ⟨_, rfl⟩
  have frame : v = { s with outstanding := s.outstanding.erase e, keys := v.keys } := by
    rw [hv, State.dropPrevious_frame, eraseP_pair _ _ he hn]
  have hout : v.outstanding = s.outstanding.erase e := by rw [frame]
  have hctx : ∀ j, v.ctx j = s.ctx j := fun j => by rw [frame]; rfl
  have used : v.usedPlaces = 255 := by
    have htaken : v.takenPlaces = s.takenPlaces := by rw [frame]; rfl
    have hlen := List.length_erase_of_mem he
    have := List.length_pos_of_mem he
    rw [State.usedPlaces, hout, htaken, hlen]
    rw [State.usedPlaces] at hu
    omega
  have serves := v.servePlaces_serves i w m rest (by rw [frame]; exact hq) used (by rw [hctx]; exact hw) hm hp
  refine ⟨v, ?_, hout, hout ▸ frame⟩
  rw [State.removeEntry, ← hv]
  exact serves

/-- A context abandoned while it holds a place of a full list frees it (R56, R106). -/
theorem State.loseReservation_serves (s : State) (till : TillIx) (c i : CtxIx) (x w : Wrap) (y m : TillMsg) (rest : List CtxIx)
    (hq : s.placeWait = i :: rest) (hu : s.usedPlaces = 256) (hw : (s.ctx i).wrap = some w) (hm : w.msg = some m) (hp : w.place = false)
    (hc : c ∉ s.placeWait) (hx : (s.ctx c).wrap = some x) (hph : (s.ctx c).phase = .emitting) (hxp : x.place = true) (hxt : x.till = till)
    (hxm : x.msg = some y) (hone : ∀ d v, d ≠ c → (s.ctx d).wrap = some v → v.till ≠ till) :
    ∃ v : State, v.Serves (s.loseReservation till).1 i w m rest ∧ (s.loseReservation till).2 = some y
      ∧ v.ctx c = { phase := .idle, wrap := none } ∧ (∀ d, d ≠ c → v.ctx d = s.ctx d)
      ∧ v.waitOrder = s.waitOrder.filter (fun z => z.1 != .ctx c)
      ∧ v.count .reservationLost = min (s.count .reservationLost + 1) 65535
      ∧ v = { s with ctxs := v.ctxs, tills := v.tills, waitOrder := v.waitOrder, events := v.events, holding := v.holding } := by
  obtain ⟨v, hv⟩ : ∃ v : State, v = (s.abandon c).raise .reservationLost (till := some till) (slot := some x.slot) := ⟨_, rfl⟩
  have hic : i ≠ c := fun h => hc (by rw [hq, h]; exact List.mem_cons_self)
  have hctx : ∀ j, v.ctx j = if j = c then idleCtx else s.ctx j := fun j => by rw [hv]; exact s.abandon_ctx c j
  have hwait : s.placeWait.filter (fun j => j != c) = s.placeWait :=
    List.filter_eq_self.2 fun j hj => bne_iff_ne.2 fun h => hc (h ▸ hj)
  have frame : v = { s with ctxs := v.ctxs, tills := v.tills, waitOrder := s.waitOrder.filter (fun x => x.1 != .ctx c)
                            events := v.events, holding := v.holding } := by
    have := s.abandon_frame c
    rw [hwait] at this
    rw [hv, this]
    rfl
  have used : v.usedPlaces = 255 := by
    have freed := v.takenPlaces_add_one s c (by rw [hctx, if_pos rfl]; rfl) (by simp [Ctx.holdsPlace, hx, hxp])
      (fun j hj => by rw [hctx, if_neg hj])
    have hout : v.outstanding = s.outstanding := by rw [frame]
    rw [State.usedPlaces, freed] at hu
    rw [State.usedPlaces, hout]
    omega
  have serves := v.servePlaces_serves i w m rest (by rw [frame]; exact hq) used (by rw [hctx, if_neg hic]; exact hw) hm hp
  have lost : s.loseReservation till = (v.servePlaces, some y) := by
    rw [State.loseReservation, s.openWrap_of_unique till c x hx (by rw [hph]; rfl) hxt hone]
    simp only [hv, hxm]
  rw [lost]
  refine ⟨v, serves, rfl, by rw [hctx, if_pos rfl]; rfl, fun d hd => by rw [hctx, if_neg hd], by rw [frame], ?_, ?_⟩
  · rw [hv]
    refine ((s.abandon c).count_raise_self ..).trans ?_
    rw [State.count, s.abandon_frame c]
    rfl
  · have hw' : v.waitOrder = s.waitOrder.filter (fun x => x.1 != .ctx c) := by rw [frame]
    rw [hw']
    exact frame

/-- Settles O29: a place served, and the two ways one is freed. -/
theorem freedPlaceGoesToTheEarliestWaiting : Obligations.FreedPlaceGoesToTheEarliestWaiting :=
  ⟨State.servePlaces_none, State.servePlaces_serves, State.removeEntry_serves, State.loseReservation_serves⟩

end Sys2Proof.Machine
end

section
/-! PROOFS. Acquirer replies (R10, R63, R83, R84, R122 to R126, R191, R192): the entry a reply matches, a reply that is proven and forwarded, one
that fails, and a record that fails its check now. -/

namespace Sys2Proof.Machine

/-! ### The check of a record (R63, R83) -/

theorem State.checkRecord_spec (s : State) (n : Nat) (r : KeyRecord) :
    let intact := authCode s.transportKey (be 1 n ++ be 4 r.ksid ++ be 2 r.gen ++ beVec 32 r.base) = r.integrity
    (r.failed = true → s.checkRecord n r = .marked) ∧ (r.failed = false → intact → s.checkRecord n r = .passes)
      ∧ (r.failed = false → ¬ intact → s.checkRecord n r = .fails) := by
  intro intact
  have hi : s.recordIntact n r = true ↔ intact := beq_iff_eq
  refine ⟨fun hf => if_pos hf, fun hf h => ?_, fun hf h => ?_⟩
  · rw [State.checkRecord, if_neg (by simp [hf]), if_pos (hi.2 h)]
  · rw [State.checkRecord, if_neg (by simp [hf]), if_neg (mt hi.1 h)]

/-! ### The entry a reply matches (R123) -/

/-- The entries of a till number and reference, oldest first. -/
def State.entriesOf (s : State) (number reference : Nat) : List OutEntry :=
  s.outstanding.filter (fun e => e.number == number && e.reference == reference)

theorem State.matchReply_eq (s : State) (number reference : Nat) :
    s.matchReply number reference =
      ((s.entriesOf number reference).find? (fun e => some e.till == s.tillNumbered number)).or (s.entriesOf number reference).head? := rfl

theorem mem_allTills (i : TillIx) : i ∈ allTills :=
  List.mem_map.2 ⟨i.val, List.mem_range.2 i.isLt, Fin.ext (Nat.mod_eq_of_lt i.isLt)⟩

theorem holdsNumber_iff (b : Option Binding) (number : Nat) :
    (b.map (·.number) == some number) = true ↔ ∃ x, b = some x ∧ x.number = number := by
  cases b <;> simp

theorem State.tillNumbered_none (s : State) (number : Nat) (h : ∀ i, ¬ ∃ b, (s.till i).binding = some b ∧ b.number = number) :
    s.tillNumbered number = none :=
  List.find?_eq_none.2 fun i _ => mt (holdsNumber_iff _ _).1 (h i)

theorem State.tillNumbered_some (s : State) (number : Nat) (i : TillIx) (hi : ∃ b, (s.till i).binding = some b ∧ b.number = number)
    (hone : ∀ j, (∃ b, (s.till j).binding = some b ∧ b.number = number) → j = i) : s.tillNumbered number = some i := by
  unfold State.tillNumbered
  cases hf : allTills.find? (fun i => ((s.till i).binding.map (·.number)) == some number) with
  | none => exact absurd ((holdsNumber_iff _ _).2 hi) (List.find?_eq_none.1 hf i (mem_allTills i))
  | some j =>
    have hj := List.find?_some (p := fun i => ((s.till i).binding.map (·.number)) == some number) hf
    rw [hone j ((holdsNumber_iff _ _).1 hj)]

theorem State.matchReply_spec (s : State) (number reference : Nat) :
    let found := s.outstanding.filter (fun e => e.number == number && e.reference == reference)
    let holds := fun i : TillIx => ∃ b, (s.till i).binding = some b ∧ b.number = number
    (found = [] → s.matchReply number reference = none)
      ∧ (∀ e, found = [e] → s.matchReply number reference = some e)
      ∧ ((∀ i, ¬ holds i) → s.matchReply number reference = found.head?)
      ∧ ∀ i, holds i → (∀ j, holds j → j = i) →
          ((∀ e ∈ found, e.till ≠ i) → s.matchReply number reference = found.head?)
            ∧ ∀ before e after, found = before ++ e :: after → (∀ x ∈ before, x.till ≠ i) → e.till = i →
                s.matchReply number reference = some e := by
  intro found holds
  have hm := s.matchReply_eq number reference
  have hfound : s.entriesOf number reference = found := rfl
  rw [hfound] at hm
  refine ⟨fun h => ?_, fun e h => ?_, fun h => ?_, fun i hi hone => ?_⟩
  · rw [hm, h]; rfl
  · rw [hm, h, List.find?_cons]
    split <;> rfl
  · rw [hm, s.tillNumbered_none number h, List.find?_eq_none.2 (by simp), Option.none_or]
  · rw [s.tillNumbered_some number i hi hone] at hm
    refine ⟨fun h => ?_, fun before e after hsplit hb he => ?_⟩
    · rw [hm, List.find?_eq_none.2 (fun e he' => by simpa using h e he'), Option.none_or]
    · have hnone : before.find? (fun x => some x.till == some i) = none :=
        List.find?_eq_none.2 (fun x hx => by simpa using hb x hx)
      rw [hm, hsplit, List.find?_append, hnone, List.find?_cons, he]
      simp

/-! ### A success of the link (R141) -/

theorem State.startSettle_frame (s : State) : s.startSettle = { s with link := s.startSettle.link, drain := s.startSettle.drain } := by
  unfold State.startSettle State.tryRun
  split
  · split <;> rfl
  · rfl

theorem State.linkSuccess_frame (s : State) :
    s.linkSuccess = { s with link := s.linkSuccess.link, drain := s.linkSuccess.drain, events := s.linkSuccess.events } := by
  have run : ∀ n, s.successRun n = { s with link := (s.successRun n).link, drain := (s.successRun n).drain
                                            events := (s.successRun n).events } := by
    intro n
    unfold State.successRun State.enterUp
    split
    · rw [State.startSettle_frame]; rfl
    · rfl
  unfold State.linkSuccess
  split
  · split
    · rfl
    · unfold State.enterUp; rw [State.startSettle_frame]; rfl
    · exact run _
    · exact run _
  · rfl

/-- What a success makes of the link depends on the link, its settings and the clock alone. -/
theorem State.linkSuccess_link (s t : State) (hl : t.link = s.link) (hs : t.settings = s.settings) (hn : t.now = s.now) :
    t.linkSuccess.link = s.linkSuccess.link := by
  have settle : ∀ u v : State, u.link = v.link → u.settings = v.settings → u.now = v.now → u.startSettle.link = v.startSettle.link := by
    intro u v hl hs hn
    have try_link : ∀ x : State, x.tryRun.link = x.link := fun x => by unfold State.tryRun; split <;> rfl
    unfold State.startSettle
    rw [hs]
    split
    · simp only [try_link, hl]
    · simp only [hl, hn]
  have run : ∀ n, (t.successRun n).link = (s.successRun n).link := by
    intro n
    unfold State.successRun State.enterUp
    rw [hs]
    split
    · exact settle _ _ (by simp only [State.setLink, State.raise_link, hl]) hs hn
    · simp only [State.setLink, hl]
  unfold State.linkSuccess
  rw [hl]
  split
  · split
    · exact hl
    · exact settle _ _ (by simp only [State.setLink, hl]) hs hn
    · exact run _
    · exact run _
  · exact hl

theorem State.count_linkSuccess (s : State) {e : EventCode} (h : e ≠ .linkUp) : s.linkSuccess.count e = s.count e := by
  have settle : ∀ t : State, t.startSettle.count e = t.count e := fun t => by rw [t.startSettle_frame]; rfl
  have run : ∀ n, (s.successRun n).count e = s.count e := by
    intro n
    unfold State.successRun State.enterUp
    split
    · rw [settle]; exact s.count_raise_ne _ _ _ h
    · rfl
  unfold State.linkSuccess
  split
  · split
    · rfl
    · exact settle _
    · exact run _
    · exact run _
  · rfl

/-! ### A reply that is proven (R122, R124) -/

theorem State.removeEntry_alone (s : State) (e : OutEntry) (h : s.placeWait = []) :
    s.removeEntry e = State.dropPrevious
      { s with outstanding := s.outstanding.eraseP (fun x => x.till == e.till && x.reference == e.reference) } e.slot e.gen := by
  rw [State.removeEntry, State.dropPrevious_frame]
  exact State.servePlaces_none _ (.inl h)

/-- The previous record of a slot once an entry of a generation has left (R65). -/
theorem State.dropPrevious_keys (s : State) (k : SlotIx) (gen : Nat) :
    let needed := ∃ x ∈ s.outstanding, x.slot = k ∧ x.gen = gen
    let t := s.dropPrevious k gen
    (needed → t.keys = s.keys)
      ∧ (¬ needed → t.keys.fp = s.keys.fp ∧ t.keys.fpFloor = s.keys.fpFloor ∧ (∀ l, l ≠ k → t.slot l = s.slot l)
          ∧ ((∃ x, (s.slot k).previous = some x ∧ x.gen = gen) → t.slot k = { s.slot k with previous := none })
          ∧ ((∀ x, (s.slot k).previous = some x → x.gen ≠ gen) → t.slot k = s.slot k)) := by
  intro needed
  have hn : s.outstanding.any (fun e => e.slot == k && e.gen == gen) = true ↔ needed := by simp [needed]
  unfold State.dropPrevious
  refine ⟨fun h => by rw [if_pos (hn.2 h)], fun h => ?_⟩
  rw [if_neg (mt hn.1 h)]
  split
  case h_1 hp =>
    rw [hp]
    refine ⟨rfl, rfl, fun _ _ => rfl, fun h => ?_, fun _ => rfl⟩
    obtain ⟨x, hx, -⟩ := h
    cases hx
  case h_2 r hp =>
    rw [hp]
    by_cases hg : r.gen = gen
    · rw [if_pos hg]
      exact ⟨rfl, rfl, fun l hl => s.slot_setSlot_ne _ hl, fun _ => s.slot_setSlot_self k _, fun h => absurd hg (h r rfl)⟩
    · rw [if_neg hg]
      refine ⟨rfl, rfl, fun _ _ => rfl, ?_, fun _ => rfl⟩
      rintro ⟨x, hx, hxg⟩
      cases hx
      exact absurd hxg hg

theorem State.takeReply_proven (s : State) (p : Bytes) (e : OutEntry) (r : KeyRecord) (hp : isAcquirerReply p = true)
    (he : s.matchReply (field p 2 2) (field p 4 4) = some e) (hr : (s.slot e.slot).recordOf e.gen = some r)
    (hc : s.checkRecord e.slot.val r = .passes)
    (ha : authCode (deriveKey 3 r e.till e.counter) (p.take (p.length - 8)) = codeOf p) :
    s.takeReply p = s.forwardReply e p := by
  simp only [State.takeReply, hp, he, hr, hc]
  exact if_pos ha

/-- A forwarded reply, with no context waiting for the place it frees and the Lane port open. -/
theorem State.forwardReply_spec (s : State) (e : OutEntry) (p : Bytes) (hw : s.placeWait = []) (ho : s.laneOpen) :
    let v := State.dropPrevious { s with
      outstanding := s.outstanding.eraseP (fun x => x.till == e.till && x.reference == e.reference) } e.slot e.gen
    let t := s.forwardReply e p
    t.outstanding = s.outstanding.eraseP (fun x => x.till == e.till && x.reference == e.reference)
      ∧ t.lane.priority = s.lane.priority ++ [{ bytes := replyFrame e.path s.ipId (p.take (p.length - 8)), isReset := false }]
      ∧ t.count .replyForwarded = min (s.count .replyForwarded + 1) 65535 ∧ t.link = s.linkSuccess.link ∧ t.keys = v.keys
      ∧ t = { s with outstanding := t.outstanding, lane := t.lane, ipId := t.ipId, events := t.events, link := t.link, drain := t.drain
                     keys := t.keys } := by
  intro v t
  have hv : v = { s with outstanding := s.outstanding.eraseP (fun x => x.till == e.till && x.reference == e.reference)
                         keys := v.keys } := State.dropPrevious_frame ..
  obtain ⟨x, hx⟩ : ∃ x : State, x = v.sendReply e.path (withoutCode p) := ⟨_, rfl⟩
  have hsent : x = { v with
      ipId := (s.ipId + 1) % 65536
      lane := { s.lane with priority := s.lane.priority ++
        [{ bytes := replyFrame e.path s.ipId (p.take (p.length - 8)), isReset := false }] } } := by
    have lane : v.nextIpId.laneOpen := by rw [hv]; exact ho
    rw [hx, State.sendReply, State.offerLane_open _ _ lane, hv]
    rfl
  have ht : t = x.linkSuccess.raise .replyForwarded (till := some e.till) := by
    rw [hx, show v = s.removeEntry e from (s.removeEntry_alone e hw).symm]
    rfl
  have frame := x.linkSuccess_frame
  have link : x.linkSuccess.link = s.linkSuccess.link :=
    State.linkSuccess_link s x (by rw [hsent, hv]) (by rw [hsent, hv]) (by rw [hsent, hv])
  rw [ht]
  refine ⟨?_, ?_, ?_, link, ?_, ?_⟩
  · rw [State.raise_outstanding, frame, hsent, hv]
  · rw [State.raise_lane, frame, hsent]
  · rw [State.count_raise_self, x.count_linkSuccess (by decide), hsent, hv]
    rfl
  · rw [State.raise_keys, frame, hsent]
  · rw [frame, hsent, hv]
    rfl

/-! ### A reply that fails (R125, R126) -/

theorem State.takeReply_fails (s : State) (p : Bytes) :
    (isAcquirerReply p = false → s.takeReply p = s.raise .replyUnmatched)
      ∧ (isAcquirerReply p = true → s.matchReply (field p 2 2) (field p 4 4) = none → s.takeReply p = s.raise .replyUnmatched)
      ∧ (∀ e, isAcquirerReply p = true → s.matchReply (field p 2 2) (field p 4 4) = some e →
          (s.slot e.slot).recordOf e.gen = none → s.takeReply p = s.raise .replyAuthFail (till := some e.till) (slot := some e.slot))
      ∧ ∀ e r, isAcquirerReply p = true → s.matchReply (field p 2 2) (field p 4 4) = some e →
          (s.slot e.slot).recordOf e.gen = some r →
          (s.checkRecord e.slot.val r = .marked
            ∨ s.checkRecord e.slot.val r = .passes ∧ authCode (deriveKey 3 r e.till e.counter) (p.take (p.length - 8)) ≠ codeOf p) →
          s.takeReply p = s.raise .replyAuthFail (till := some e.till) (slot := some e.slot) := by
  refine ⟨fun hp => ?_, fun hp he => ?_, fun e hp he hr => ?_, fun e r hp he hr hc => ?_⟩
  · simp only [State.takeReply, hp, Bool.not_false, if_true]
  · simp only [State.takeReply, hp, he]; rfl
  · simp only [State.takeReply, hp, he, hr]; rfl
  · rcases hc with hc | ⟨hc, ha⟩
    · simp only [State.takeReply, hp, he, hr, hc]; rfl
    · simp only [State.takeReply, hp, he, hr, hc]; exact if_neg ha

theorem State.takeReply_faults (s : State) (p : Bytes) (e : OutEntry) (r : KeyRecord) (hp : isAcquirerReply p = true)
    (he : s.matchReply (field p 2 2) (field p 4 4) = some e) (hr : (s.slot e.slot).recordOf e.gen = some r)
    (hc : s.checkRecord e.slot.val r = .fails) :
    s.takeReply p = ((s.faultSlot e.slot r.gen e.till).raise .replyAuthFail (till := some e.till) (slot := some e.slot)).contain := by
  simp only [State.takeReply, hp, he, hr, hc]
  rfl

end Sys2Proof.Machine
end

section
/-! PROOFS. A key record that fails its check now (R83, R84, R191, R192): what the refused queues and the containment leave of events, queues and
contexts, and the reply that found it. -/

namespace Sys2Proof.Machine

/-! ### Events that refusals leave alone (R195, R196) -/

/-- The Fault Record and the counts of the events of classes KEY and FAULT are the same. -/
def SameFaults (s t : State) : Prop :=
  t.events.fault = s.events.fault
    ∧ ∀ e : EventCode, e.eventClass = some .key ∨ e.eventClass = some .fault → t.count e = s.count e

theorem SameFaults.refl (s : State) : SameFaults s s := ⟨rfl, fun _ _ => rfl⟩

theorem SameFaults.trans {s t u : State} (h : SameFaults s t) (h' : SameFaults t u) : SameFaults s u :=
  ⟨h'.1.trans h.1, fun e he => (h'.2 e he).trans (h.2 e he)⟩

theorem SameFaults.of_events {s t : State} (h : t.events = s.events) : SameFaults s t :=
  ⟨by rw [h], fun e _ => by rw [State.count, State.count, h]⟩

theorem State.fault_raise (s : State) (e : EventCode) (a : Option TillIx) (b : Option SlotIx) (c : Option Location)
    (h : e.eventClass ≠ some .fault) : (s.raise e a b c).events.fault = s.events.fault :=
  if_neg h

theorem State.raise_sameFaults (s : State) (e : EventCode) (a : Option TillIx) (b : Option SlotIx) (c : Option Location)
    (hk : e.eventClass ≠ some .key) (hf : e.eventClass ≠ some .fault) : SameFaults s (s.raise e a b c) := by
  refine ⟨s.fault_raise e a b c hf, fun f hf' => s.count_raise_ne a b c ?_⟩
  rintro rfl
  exact hf'.elim hk hf

theorem State.offerLane_sameFaults (s : State) (b : Bytes) : SameFaults s (s.offerLane b) := by
  unfold State.offerLane State.placePriority State.discardFrame
  split
  · split
    · exact SameFaults.of_events rfl
    · exact s.raise_sameFaults .linkDiscard none none none (by decide) (by decide)
  · exact s.raise_sameFaults .laneOverflow none none none (by decide) (by decide)

/-- No local reply is an event of class KEY or FAULT. -/
theorem LocalReply.event_class (r : LocalReply) : r.event.eventClass ≠ some .key ∧ r.event.eventClass ≠ some .fault := by
  cases r <;> simp [LocalReply.event, EventCode.eventClass]

theorem State.localReply_sameFaults (s : State) (i : TillIx) (n ref : Nat) (p : ReturnPath) (r : LocalReply) :
    SameFaults s (s.localReply i n ref p r) := by
  have counted : SameFaults s (s.countReply i r) := by
    refine (s.raise_sameFaults r.event (some i) none none r.event_class.1 r.event_class.2).trans (SameFaults.of_events ?_)
    unfold State.countReply
    split <;> rfl
  rw [State.localReply_eq]
  exact counted.trans (State.offerLane_sameFaults _ _)

theorem State.replyTo_sameFaults (s : State) (i : TillIx) (m : TillMsg) (x : LocalReply) : SameFaults s (s.replyTo i m x) :=
  s.localReply_sameFaults i m.number m.reference m.path x

theorem State.refuseQueue_sameFaults (s : State) (i : TillIx) (x : LocalReply) : SameFaults s (s.refuseQueue i x) :=
  have emptied : SameFaults s (s.setTill i { s.till i with queue := [] }) := SameFaults.of_events rfl
  emptied.trans (foldl_rel SameFaults SameFaults.refl (fun _ _ _ => SameFaults.trans) _ (fun t m => t.replyTo_sameFaults i m x) _ _)

theorem refuseQueues_sameFaults (l : List TillIx) (x : LocalReply) (s : State) :
    SameFaults s (l.foldl (fun s i => s.refuseQueue i x) s) :=
  foldl_rel SameFaults SameFaults.refl (fun _ _ _ => SameFaults.trans) _ (fun t i => t.refuseQueue_sameFaults i x) l s

theorem State.events_abandon (s : State) (i : CtxIx) : (s.abandon i).events = s.events :=
  (congrArg State.events (s.abandon_frame i) :)

theorem State.opState_abandon (s : State) (i : CtxIx) : (s.abandon i).opState = s.opState :=
  (congrArg State.opState (s.abandon_frame i) :)

theorem State.abandon_sameFaults (s : State) (i : CtxIx) : SameFaults s (s.abandon i) :=
  SameFaults.of_events (s.events_abandon i)

theorem State.drainToIdle_sameFaults (s : State) : SameFaults s s.drainToIdle := by
  unfold State.drainToIdle
  split <;> exact SameFaults.of_events rfl

theorem State.enterLockdown_sameFaults (s : State) : SameFaults s s.enterLockdown := by
  have locked : SameFaults s { s with opState := .lockdown } := SameFaults.of_events rfl
  unfold State.enterLockdown
  refine SameFaults.trans ?_ (State.drainToIdle_sameFaults _)
  refine SameFaults.trans ?_ (refuseQueues_sameFaults _ _ _)
  exact locked.trans (foldl_rel SameFaults SameFaults.refl (fun _ _ _ => SameFaults.trans) _ State.abandon_sameFaults allCtxs _)

theorem State.contain_sameFaults (s : State) : SameFaults s s.contain := by
  unfold State.contain
  split
  · exact SameFaults.refl s
  · split
    · exact s.enterLockdown_sameFaults
    · exact SameFaults.of_events rfl
    · exact SameFaults.refl s
    · exact SameFaults.refl s

/-! ### Queues refused (R84, R112, R115) -/

theorem refuseQueues_repliesOnly (l : List TillIx) (x : LocalReply) (s : State) :
    RepliesOnly s (l.foldl (fun s i => s.refuseQueue i x) s) :=
  foldl_rel RepliesOnly RepliesOnly.refl (fun _ _ _ => RepliesOnly.trans) _ (fun t i => t.refuseQueue_repliesOnly i x) l s

theorem State.queue_refuseQueue (s : State) (i j : TillIx) (x : LocalReply) (h : j = i ∨ (s.till j).queue = []) :
    ((s.refuseQueue i x).till j).queue = [] := by
  by_cases hj : j = i
  · subst hj
    obtain ⟨n, hn⟩ := s.refuseQueue_self j x
    rw [hn]
  · rw [s.refuseQueue_other x hj]
    exact h.resolve_left hj

/-- A till whose queue is refused, or was empty, has an empty queue. -/
theorem queue_refuseQueues (l : List TillIx) (x : LocalReply) (s : State) (j : TillIx) (h : j ∈ l ∨ (s.till j).queue = []) :
    ((l.foldl (fun s i => s.refuseQueue i x) s).till j).queue = [] := by
  induction l generalizing s with
  | nil => exact h.resolve_left nofun
  | cons i l ih =>
    refine ih _ ?_
    rcases h with h | h
    · rcases List.mem_cons.1 h with h | h
      · exact .inr (s.queue_refuseQueue i j x (.inl h))
      · exact .inl h
    · exact .inr (s.queue_refuseQueue i j x (.inr h))

/-! ### Entry into LOCKDOWN (R192) -/

/-- A context that is abandoned, or was IDLE, is IDLE. -/
theorem ctx_abandons (l : List CtxIx) (s : State) (j : CtxIx) (h : j ∈ l ∨ s.ctx j = idleCtx) : (l.foldl State.abandon s).ctx j = idleCtx := by
  induction l generalizing s with
  | nil => exact h.resolve_left nofun
  | cons i l ih =>
    refine ih _ ?_
    rw [s.abandon_ctx]
    by_cases hj : j = i
    · exact .inr (if_pos hj)
    · rw [if_neg hj]
      exact h.imp (fun h => List.mem_of_ne_of_mem hj h) id

theorem State.drainToIdle_frame (s : State) :
    s.drainToIdle = { s with drain := s.drainToIdle.drain, waitOrder := s.drainToIdle.waitOrder, holding := s.drainToIdle.holding } := by
  unfold State.drainToIdle
  split <;> rfl

theorem State.tills_drainToIdle (s : State) : s.drainToIdle.tills = s.tills :=
  (congrArg State.tills s.drainToIdle_frame :)

theorem State.ctxs_drainToIdle (s : State) : s.drainToIdle.ctxs = s.ctxs :=
  (congrArg State.ctxs s.drainToIdle_frame :)

theorem State.opState_drainToIdle (s : State) : s.drainToIdle.opState = s.opState :=
  (congrArg State.opState s.drainToIdle_frame :)

theorem State.enterLockdown_spec (s : State) :
    s.enterLockdown.opState = .lockdown ∧ (∀ i, s.enterLockdown.ctx i = idleCtx) ∧ ∀ j, (s.enterLockdown.till j).queue = [] := by
  obtain ⟨u, hu⟩ : ∃ u : State, u = allCtxs.foldl State.abandon { s with opState := .lockdown } := ⟨_, rfl⟩
  obtain ⟨v, hv⟩ : ∃ v : State, v = allTills.foldl (fun s i => s.refuseQueue i (.unavailable .lockdown)) u := ⟨_, rfl⟩
  have hs : s.enterLockdown = v.drainToIdle := by rw [hv, hu]; rfl
  have abandoned : u.opState = .lockdown := by
    have key : ∀ (l : List CtxIx) (t : State), (l.foldl State.abandon t).opState = t.opState := by
      intro l
      induction l with
      | nil => intro t; rfl
      | cons i l ih => intro t; exact (ih _).trans (t.opState_abandon i)
    rw [hu, key]
  have refused : v = { u with tills := v.tills, events := v.events, lane := v.lane, ipId := v.ipId } := by
    rw [hv]; exact (refuseQueues_repliesOnly _ _ _).eq
  have hctxs : v.ctxs = u.ctxs := (congrArg State.ctxs refused :)
  rw [hs]
  refine ⟨?_, fun i => ?_, fun j => ?_⟩
  · rw [State.opState_drainToIdle, refused, abandoned]
  · have : u.ctx i = idleCtx := by rw [hu]; exact ctx_abandons _ _ i (.inl (mem_allCtxs i))
    rw [← this, State.ctx, State.ctxs_drainToIdle, hctxs, State.ctx]
  · rw [State.till, State.tills_drainToIdle, ← State.till, hv]
    exact queue_refuseQueues _ _ u j (.inl (mem_allTills j))

theorem State.contain_serving (s : State) (hp : s.settings.store.policy = .strict) (ho : s.opState = .serving) :
    s.contain = s.enterLockdown := by
  simp only [State.contain, hp, ho]

theorem State.contain_lockdown (s : State) (ho : s.opState = .lockdown) : s.contain = s := by
  unfold State.contain
  split
  · rfl
  · rw [ho]

/-- Containment empties a queue or leaves it. -/
theorem State.queue_contain (s : State) (j : TillIx) (h : (s.till j).queue = []) : (s.contain.till j).queue = [] := by
  unfold State.contain
  split
  · exact h
  · split
    · exact s.enterLockdown_spec.2.2 j
    · exact h
    · exact h
    · exact h

/-! ### A slot faulted (R84) -/

/-- The slot of a record that fails its check. -/
def KeySlot.faulted (x : KeySlot) (gen : Nat) : KeySlot :=
  { x with previous := markGen gen x.previous, current := markGen gen x.current, state := .faulted }

/-- The state once the slot is FAULTED and KEY-CHECK-FAIL raised. -/
def State.faulting (s : State) (k : SlotIx) (gen : Nat) (till : TillIx) : State :=
  (s.setSlot k ((s.slot k).faulted gen)).raise .keyCheckFail (till := some till) (slot := some k)

theorem State.faultSlot_eq (s : State) (k : SlotIx) (gen : Nat) (till : TillIx) :
    s.faultSlot k gen till =
      (((s.faulting k gen till).boundTills k).foldl (fun s i => s.refuseQueue i (.refused .keyFault)) (s.faulting k gen till)).request2 [] :=
  rfl

theorem State.request2_sameFaults (s : State) (adds : List KeyAddition) : SameFaults s (s.request2 adds) :=
  SameFaults.of_events (congrArg State.events (s.request2_frame adds) :)

theorem State.faultSlot_frame (s : State) (k : SlotIx) (gen : Nat) (till : TillIx) :
    let u := s.faultSlot k gen till
    u = { s with keys := (s.setSlot k ((s.slot k).faulted gen)).keys, tills := u.tills, events := u.events, lane := u.lane
                 ipId := u.ipId, writer2 := u.writer2, mgmt := u.mgmt } := by
  intro u
  have hu : u = _ := s.faultSlot_eq k gen till
  obtain ⟨_, _, _, _, h⟩ := refuseQueues_repliesOnly ((s.faulting k gen till).boundTills k) (.refused .keyFault) (s.faulting k gen till)
  rw [hu, State.request2_frame, h]
  rfl

theorem State.faultSlot_sameFaults (s : State) (k : SlotIx) (gen : Nat) (till : TillIx) :
    SameFaults (s.faulting k gen till) (s.faultSlot k gen till) :=
  (refuseQueues_sameFaults _ _ _).trans (State.request2_sameFaults _ _)

/-- The queues of the tills bound to a faulted slot are empty. -/
theorem State.queue_faultSlot (s : State) (k : SlotIx) (gen : Nat) (till j : TillIx) (b : Binding) (hb : (s.till j).binding = some b)
    (hk : b.slot = k) : ((s.faultSlot k gen till).till j).queue = [] := by
  have bound : j ∈ (s.faulting k gen till).boundTills k := by
    refine List.mem_filter.2 ⟨mem_allTills j, beq_iff_eq.2 ?_⟩
    have : ((s.faulting k gen till).till j).binding = some b := hb
    rw [this, ← hk]
    rfl
  rw [State.faultSlot_eq, State.request2_frame]
  exact queue_refuseQueues _ _ (s.faulting k gen till) j (.inl bound)

/-! ### A record that fails now (R83, R84, R191, R192) -/

@[simp] theorem KeySlot.faulted_state (x : KeySlot) (gen : Nat) : (x.faulted gen).state = .faulted := rfl

theorem markGen_marks (gen : Nat) (o : Option KeyRecord) (x : KeyRecord) (h : o = some x) (hg : x.gen = gen) :
    markGen gen o = some { x with failed := true } := by
  rw [h]
  exact congrArg some (if_pos hg)

/-- What an integrity failure of a record found by a reply leaves of the slots and of what containment does not touch. -/
theorem State.containedFault_kept (s : State) (k : SlotIx) (gen : Nat) (till : TillIx) :
    let t := ((s.faultSlot k gen till).raise .replyAuthFail (till := some till) (slot := some k)).contain
    t.outstanding = s.outstanding ∧ t.link = s.link ∧ t.counters = s.counters ∧ t.standIn = s.standIn ∧ t.store = s.store
      ∧ t.settings = s.settings ∧ t.slot k = (s.slot k).faulted gen ∧ ∀ j, j ≠ k → t.slot j = s.slot j := by
  intro t
  obtain ⟨u, hu⟩ : ∃ u : State, u = s.faultSlot k gen till := ⟨_, rfl⟩
  have frame : u = _ := hu.trans (s.faultSlot_frame k gen till)
  have contained : LockdownOnly (u.raise .replyAuthFail (till := some till) (slot := some k)) t := by
    rw [hu]; exact State.contain_lockdownOnly _
  obtain ⟨_, _, _, _, _, _, _, _, _, _, _, h⟩ := contained
  rw [h, frame]
  exact ⟨rfl, rfl, rfl, rfl, rfl, rfl, s.slot_setSlot_self k _, fun j hj => s.slot_setSlot_ne _ hj⟩

/-- The events of a record that fails: KEY-CHECK-FAIL, in the Fault Record when it is empty, and REPLY-AUTH-FAIL. -/
theorem State.containedFault_events (s : State) (k : SlotIx) (gen : Nat) (till : TillIx) :
    let t := ((s.faultSlot k gen till).raise .replyAuthFail (till := some till) (slot := some k)).contain
    t.count .keyCheckFail = min (s.count .keyCheckFail + 1) 65535 ∧ t.count .replyAuthFail = min (s.count .replyAuthFail + 1) 65535
      ∧ (s.events.fault = none → t.events.fault =
          some { code := .keyCheckFail, till := some till, slot := some k, location := none, further := 0 }) := by
  intro t
  obtain ⟨faultF, countF⟩ := s.faultSlot_sameFaults k gen till
  obtain ⟨faultC, countC⟩ :=
    ((s.faultSlot k gen till).raise .replyAuthFail (till := some till) (slot := some k)).contain_sameFaults
  refine ⟨?_, ?_, fun h => ?_⟩
  · rw [countC _ (by decide), State.count_raise_ne _ _ _ _ (by decide), countF _ (by decide)]
    exact State.count_raise_self ..
  · rw [countC _ (by decide), State.count_raise_self, countF _ (by decide)]
    exact congrArg (fun n => min (n + 1) 65535) (State.count_raise_ne (s.setSlot k ((s.slot k).faulted gen)) _ _ _ (by decide))
  · rw [faultC, State.fault_raise _ _ _ _ _ (by decide), faultF]
    have empty : (s.setSlot k ((s.slot k).faulted gen)).events.fault = none := h
    rw [State.faulting, State.raise, Events.after, empty]
    rfl

/-- Settles O30: the check of a record, the entry matched, a proven reply, one that fails, and a record that fails now. -/
theorem repliesAreProvenBeforeForwarding : Obligations.RepliesAreProvenBeforeForwarding := by
  refine ⟨State.checkRecord_spec, State.matchReply_spec, fun s p e r hp he hr hc ha hw ho => ?_, State.takeReply_fails,
    fun s p e r hp he hr hc => ?_⟩
  · rw [s.takeReply_proven p e r hp he hr hc ha]
    obtain ⟨hout, hlane, hcount, hlink, hkeys, frame⟩ := s.forwardReply_spec e p hw ho
    obtain ⟨kept, dropped⟩ := State.dropPrevious_keys { s with
      outstanding := s.outstanding.eraseP (fun x => x.till == e.till && x.reference == e.reference) } e.slot e.gen
    refine ⟨hout, hlane, hcount, hlink, ?_, ?_, frame⟩
    · rw [hout, hkeys]; exact kept
    · simp only [State.slot, hout, hkeys]; exact dropped
  · rw [s.takeReply_faults p e r hp he hr hc]
    obtain ⟨u, hu⟩ : ∃ u : State,
        u = (s.faultSlot e.slot r.gen e.till).raise .replyAuthFail (till := some e.till) (slot := some e.slot) := ⟨_, rfl⟩
    have policy : u.settings = s.settings := by rw [hu, State.faultSlot_frame]; rfl
    have opState : u.opState = s.opState := by rw [hu, State.faultSlot_frame]; rfl
    have cause : u.cause = s.cause := by rw [hu, State.faultSlot_frame]; rfl
    have ctxs : u.ctxs = s.ctxs := by rw [hu, State.faultSlot_frame]; rfl
    have refused : ∀ j b, (s.till j).binding = some b → b.slot = e.slot → (u.till j).queue = [] := fun j b hb hk => by
      rw [hu]; exact s.queue_faultSlot e.slot r.gen e.till j b hb hk
    obtain ⟨hout, hlink, hctr, hstand, hstore, hset, hslot, hothers⟩ := s.containedFault_kept e.slot r.gen e.till
    obtain ⟨hcheck, hauth, hfault⟩ := s.containedFault_events e.slot r.gen e.till
    rw [← hu] at *
    refine ⟨hout, hlink, hctr, hstand, hstore, hset, by rw [hslot, KeySlot.faulted_state], fun x hx hg => ?_, fun x hx hg => ?_, hothers, hcheck, hauth,
      fun j b hb hk => u.queue_contain j (refused j b hb hk), hfault, fun h => ?_, fun h hs => ?_, fun _ hl => ?_⟩
    · rw [hslot]; exact markGen_marks r.gen _ x hx hg
    · rw [hslot]; exact markGen_marks r.gen _ x hx hg
    · rw [u.contain_lenient (by rw [policy]; exact h)]
      exact ⟨opState, cause, ctxs⟩
    · rw [u.contain_serving (by rw [policy]; exact h) (opState.trans hs)]
      exact u.enterLockdown_spec
    · rw [u.contain_lockdown (opState.trans hl)]
      exact opState.trans hl

end Sys2Proof.Machine
end

section
/-! PROOFS. Bounds (R18, R19, R28, R101, R109, R122, R145, R152, R172), first part: the depths of the queues and lists, the Outstanding places and the
Offline Card List taken one till, one port and one context at a time; what it takes to keep all three; and what replies, requests for writes, the
Uplink Priority Queue, places and grants keep. -/

namespace Sys2Proof.Machine

/-! ### Depths (R18, R19, R28, R109, R172) -/

/-- A till's queue and the items of its Assembly Record are within their depths (R32, R109). -/
def Till.within (x : Till) : Prop :=
  x.queue.length ≤ Config.pendingDepth ∧ ∀ r, x.record = some r → r.items.length ≤ Config.itemBytesMax

/-- A port's transmit queues are within their depths (R18, R19). -/
def PortState.within (x : PortState) : Prop := x.priority.length ≤ Config.priorityDepth ∧ x.bridge.length ≤ Config.bridgeDepth

theorem State.withinDepths_iff (s : State) : s.withinDepths ↔
    (∀ i, (s.till i).within) ∧ s.lane.within ∧ s.uplink.within ∧ s.mgmt.arrivals.length ≤ Config.arrivalDepth := by
  constructor
  · rintro ⟨queues, records, priority, bridge, arrivals⟩
    exact ⟨fun i => ⟨queues i, records i⟩, ⟨priority .lane, bridge .lane⟩, ⟨priority .uplink, bridge .uplink⟩, arrivals⟩
  · rintro ⟨tills, ⟨lp, lb⟩, ⟨up, ub⟩, arrivals⟩
    refine ⟨fun i => (tills i).1, fun i => (tills i).2, fun p => ?_, fun p => ?_, arrivals⟩ <;> cases p <;> assumption

/-- What the depths are about. -/
def State.depthPart (s : State) : Vector Till 128 × PortState × PortState × List Bytes := (s.tills, s.lane, s.uplink, s.mgmt.arrivals)

theorem withinDepths_congr {s t : State} (same : t.depthPart = s.depthPart) (h : s.withinDepths) : t.withinDepths := by
  simp only [State.depthPart, Prod.mk.injEq] at same
  obtain ⟨tills, lane, uplink, arrivals⟩ := same
  rw [State.withinDepths_iff] at h ⊢
  simpa only [State.till, tills, lane, uplink, arrivals] using h

/-! ### Places (R19, R101, R122) -/

/-- The number of a context's frames in the waiting order (R19). -/
def State.waits (s : State) (i : CtxIx) : Nat := (s.waitOrder.filter (fun x => x.1 == .ctx i)).length

/-- A context holds a place only in EMITTING, and an outcome in hand only in HOLDING. -/
def Ctx.phased (x : Ctx) : Prop :=
  ∀ w, x.wrap = some w → (w.place = true → x.phase = .emitting) ∧ (w.inHand.isSome = true → x.phase = .holding)

/-- The clauses of `State.placesSound`, with those on the waiting order taken together. -/
structure State.Places (s : State) : Prop where
  used : s.usedPlaces ≤ Config.outstandingPlaces
  phased : ∀ i, (s.ctx i).phased
  nodup : s.placeWait.Nodup
  waiting : ∀ i ∈ s.placeWait, (s.ctx i).phase = .emitting ∧ ∃ w, (s.ctx i).wrap = some w ∧ w.place = false
  order : ∀ i, s.waits i ≤ if (s.ctx i).holdsPlace then 1 else 0

theorem Ctx.holdsPlace_of_wrap {x : Ctx} {w : Wrap} (h : x.wrap = some w) : x.holdsPlace = w.place := by simp [Ctx.holdsPlace, h]

theorem Ctx.holdsPlace_of_none {x : Ctx} (h : x.wrap = none) : x.holdsPlace = false := by simp [Ctx.holdsPlace, h]

theorem State.waits_eq_zero (s : State) (i : CtxIx) : s.waits i = 0 ↔ ∀ x ∈ s.waitOrder, x.1 ≠ .ctx i := by
  simp [State.waits, List.filter_eq_nil_iff]

theorem State.placesSound_iff (s : State) : s.placesSound ↔ s.Places := by
  constructor
  · rintro ⟨used, phased, nodup, waiting, order, absent⟩
    refine ⟨used, phased, nodup, waiting, fun i => ?_⟩
    cases h : (s.ctx i).wrap with
    | none => exact ((s.waits_eq_zero i).2 (absent i h)).le.trans (Nat.zero_le _)
    | some w => rw [Ctx.holdsPlace_of_wrap h]; exact order i w h
  · rintro ⟨used, phased, nodup, waiting, order⟩
    refine ⟨used, phased, nodup, waiting, fun i w h => ?_, fun i h => (s.waits_eq_zero i).1 ?_⟩
    · have := order i
      rwa [Ctx.holdsPlace_of_wrap h] at this
    · have := order i
      rw [Ctx.holdsPlace_of_none h] at this
      exact Nat.le_zero.1 this

/-- What the places are about. -/
def State.placePart (s : State) : List OutEntry × Vector Ctx 4 × List CtxIx × List (Waiter × TxFrame) :=
  (s.outstanding, s.ctxs, s.placeWait, s.waitOrder)

theorem State.Places.congr {s t : State} (h : s.Places) (same : t.placePart = s.placePart) : t.Places := by
  simp only [State.placePart, Prod.mk.injEq] at same
  obtain ⟨outstanding, ctxs, placeWait, waitOrder⟩ := same
  have ctx : ∀ i, t.ctx i = s.ctx i := fun i => by rw [State.ctx, ctxs]; rfl
  have used : t.usedPlaces = s.usedPlaces := by simp only [State.usedPlaces, State.takenPlaces, outstanding, ctx]
  refine ⟨used ▸ h.used, fun i => ?_, placeWait ▸ h.nodup, fun i hi => ?_, fun i => ?_⟩
  · rw [ctx]; exact h.phased i
  · rw [ctx]; exact h.waiting i (placeWait ▸ hi)
  · rw [ctx, State.waits, waitOrder]; exact h.order i

theorem placesSound_congr {s t : State} (same : t.placePart = s.placePart) (h : s.placesSound) : t.placesSound :=
  t.placesSound_iff.2 ((s.placesSound_iff.1 h).congr same)

theorem cardsBounded_congr {s t : State} (same : t.standIn.cards = s.standIn.cards) (h : s.cardsBounded) : t.cardsBounded := by
  rw [State.cardsBounded, same]
  exact h

/-- A context outside EMITTING holds no place and waits for none, and no frame of its waits. -/
theorem State.Places.outside {s : State} (h : s.Places) {i : CtxIx} (hp : (s.ctx i).phase ≠ .emitting) :
    (s.ctx i).holdsPlace = false ∧ i ∉ s.placeWait ∧ s.waits i = 0 := by
  have none_held : (s.ctx i).holdsPlace = false := by
    cases hw : (s.ctx i).wrap with
    | none => exact Ctx.holdsPlace_of_none hw
    | some w =>
      rw [Ctx.holdsPlace_of_wrap hw]
      by_contra hc
      exact hp ((h.phased i w hw).1 (by simpa using hc))
  refine ⟨none_held, fun hi => hp (h.waiting i hi).1, ?_⟩
  have := h.order i
  rw [none_held] at this
  exact Nat.le_zero.1 this

/-- A context whose frame waits holds its place, and so waits for none. -/
theorem State.Places.of_waits {s : State} (h : s.Places) {i : CtxIx} (hi : 0 < s.waits i) :
    (s.ctx i).holdsPlace = true ∧ s.waits i = 1 ∧ i ∉ s.placeWait := by
  have := h.order i
  have holds : (s.ctx i).holdsPlace = true := by
    by_contra hc
    rw [if_neg hc] at this
    omega
  rw [if_pos holds] at this
  refine ⟨holds, by omega, fun hw => ?_⟩
  obtain ⟨-, w, hwrap, hplace⟩ := h.waiting i hw
  rw [Ctx.holdsPlace_of_wrap hwrap, hplace] at holds
  cases holds

/-- One context has changed, and is in no list of waiters that it should not be in; the lists may have shrunk. -/
theorem State.Places.update {s t : State} (h : s.Places) (i : CtxIx) (used : t.usedPlaces ≤ Config.outstandingPlaces)
    (others : ∀ j, j ≠ i → t.ctx j = s.ctx j) (phased : (t.ctx i).phased) (sub : t.placeWait.Sublist s.placeWait) (hi : i ∉ t.placeWait)
    (order : ∀ j, j ≠ i → t.waits j ≤ s.waits j) (here : t.waits i ≤ if (t.ctx i).holdsPlace then 1 else 0) : t.Places := by
  refine ⟨used, fun j => ?_, h.nodup.sublist sub, fun j hj => ?_, fun j => ?_⟩
  · by_cases e : j = i
    · exact e ▸ phased
    · rw [others j e]; exact h.phased j
  · rw [others j (fun e => hi (e ▸ hj))]
    exact h.waiting j (sub.subset hj)
  · by_cases e : j = i
    · exact e ▸ here
    · rw [others j e]; exact (order j e).trans (h.order j)

/-- The place of a context that gives it up is free for an entry. -/
theorem State.usedPlaces_release {s t : State} {i : CtxIx} (others : ∀ j, j ≠ i → t.ctx j = s.ctx j)
    (none_held : (t.ctx i).holdsPlace = false)
    (out : t.outstanding.length ≤ s.outstanding.length + if (s.ctx i).holdsPlace then 1 else 0) : t.usedPlaces ≤ s.usedPlaces := by
  unfold State.usedPlaces
  by_cases hs : (s.ctx i).holdsPlace = true
  · rw [t.takenPlaces_add_one s i none_held hs (fun j hj => (others j hj).symm)]
    rw [if_pos hs] at out
    omega
  · rw [State.takenPlaces_same s t i (by simpa using hs) none_held others]
    rw [if_neg hs] at out
    omega

/-- A context outside EMITTING changes within its own phase rules, holding no place. -/
theorem State.Places.move {s t : State} (h : s.Places) {i : CtxIx} (hp : (s.ctx i).phase ≠ .emitting)
    (others : ∀ j, j ≠ i → t.ctx j = s.ctx j) (phased : (t.ctx i).phased) (none_held : (t.ctx i).holdsPlace = false)
    (lists : (t.outstanding, t.placeWait, t.waitOrder) = (s.outstanding, s.placeWait, s.waitOrder)) : t.Places := by
  simp only [Prod.mk.injEq] at lists
  obtain ⟨outstanding, placeWait, waitOrder⟩ := lists
  obtain ⟨-, hi, hz⟩ := h.outside hp
  have waits : ∀ j, t.waits j = s.waits j := fun j => by rw [State.waits, waitOrder]; rfl
  refine h.update i ((State.usedPlaces_release others none_held (by rw [outstanding]; omega)).trans h.used) others phased
    (placeWait ▸ List.Sublist.refl _) (placeWait ▸ hi) (fun j _ => (waits j).le) ?_
  rw [waits, hz]
  exact Nat.zero_le _

theorem idleCtx_phased : idleCtx.phased := fun _ h => absurd h (Option.some_ne_none _).symm

/-! ### What keeps all three bounds -/

/-- From one state to the other the queues and lists stay within their depths (R18, R19, R28, R109, R172), the places sound (R101, R122) and the
Offline Card List within its entries (R152). -/
structure KeepsBounds (s t : State) : Prop where
  depths : s.withinDepths → t.withinDepths
  places : s.placesSound → t.placesSound
  cards : s.cardsBounded → t.cardsBounded

namespace KeepsBounds

variable {s t u : State}

theorem refl (s : State) : KeepsBounds s s := ⟨id, id, id⟩

theorem trans (h : KeepsBounds s t) (h' : KeepsBounds t u) : KeepsBounds s u :=
  ⟨h'.depths ∘ h.depths, h'.places ∘ h.places, h'.cards ∘ h.cards⟩

theorem ite {c : Prop} [Decidable c] (h : c → KeepsBounds s t) (h' : ¬ c → KeepsBounds s u) :
    KeepsBounds s (if c then t else u) := by
  split <;> [exact h ‹_›; exact h' ‹_›]

theorem foldl {β : Type} (f : State → β → State) (hf : ∀ a b, KeepsBounds a (f a b)) (l : List β) (s : State) :
    KeepsBounds s (l.foldl f s) :=
  foldl_rel KeepsBounds refl (fun _ _ _ => trans) f hf l s

/-- Nothing the bounds are about has changed. -/
theorem of_same (same : (t.depthPart, t.placePart, t.standIn.cards) = (s.depthPart, s.placePart, s.standIn.cards)) : KeepsBounds s t := by
  simp only [Prod.mk.injEq] at same
  obtain ⟨depths, places, cards⟩ := same
  exact ⟨withinDepths_congr depths, placesSound_congr places, cardsBounded_congr cards⟩

/-- Only the queues and lists with depths have changed. -/
theorem of_depths (same : (t.placePart, t.standIn.cards) = (s.placePart, s.standIn.cards)) (depths : s.withinDepths → t.withinDepths) :
    KeepsBounds s t := by
  simp only [Prod.mk.injEq] at same
  obtain ⟨places, cards⟩ := same
  exact ⟨depths, placesSound_congr places, cardsBounded_congr cards⟩

/-- Only what the places are about has changed. -/
theorem of_places (same : (t.depthPart, t.standIn.cards) = (s.depthPart, s.standIn.cards)) (places : s.Places → t.Places) :
    KeepsBounds s t := by
  simp only [Prod.mk.injEq] at same
  obtain ⟨depths, cards⟩ := same
  exact ⟨withinDepths_congr depths, fun h => t.placesSound_iff.2 (places (s.placesSound_iff.1 h)), cardsBounded_congr cards⟩

end KeepsBounds

/-! ### Tills, ports, events and replies -/

theorem State.setTill_keeps (s : State) (i : TillIx) (x : Till) (h : (s.till i).within → x.within) : KeepsBounds s (s.setTill i x) := by
  refine .of_depths rfl fun hs => ?_
  rw [State.withinDepths_iff] at hs ⊢
  obtain ⟨tills, ports⟩ := hs
  refine ⟨fun j => ?_, ports⟩
  rw [State.till_setTill]
  split
  · exact h (tills i)
  · exact tills j

theorem State.setPort_keeps (s : State) (p : Port) (x : PortState) (h : (s.port p).within → x.within) : KeepsBounds s (s.setPort p x) := by
  cases p
  all_goals
    refine .of_depths rfl fun hs => ?_
    rw [State.withinDepths_iff] at hs ⊢
    obtain ⟨tills, lane, uplink, arrivals⟩ := hs
  · exact ⟨tills, h lane, uplink, arrivals⟩
  · exact ⟨tills, lane, h uplink, arrivals⟩

theorem State.raise_keeps (s : State) (e : EventCode) (a : Option TillIx) (b : Option SlotIx) (c : Option Location) :
    KeepsBounds s (s.raise e a b c) := .of_same rfl

theorem State.discardFrame_keeps (s : State) (f : TxFrame) : KeepsBounds s (s.discardFrame f) :=
  .ite (fun _ => .of_same rfl) (fun _ => .of_same rfl)

theorem State.placePriority_keeps (s : State) (p : Port) (f : TxFrame) (h : (s.port p).priority.length < Config.priorityDepth) :
    KeepsBounds s (s.placePriority p f) :=
  .ite (fun _ => s.setPort_keeps p _ fun ⟨_, hb⟩ => ⟨by simpa using h, hb⟩) (fun _ => s.discardFrame_keeps f)

theorem State.offerLane_keeps (s : State) (b : Bytes) : KeepsBounds s (s.offerLane b) :=
  .ite (fun h => s.placePriority_keeps .lane _ h) (fun _ => s.raise_keeps ..)

theorem State.bridge_keeps (s : State) (p : Port) (b : Bytes) : KeepsBounds s (s.bridge p b) :=
  .ite (fun h => .ite (fun _ => s.setPort_keeps _ _ fun ⟨hp, _⟩ => ⟨hp, by simpa using h⟩) (fun _ => s.raise_keeps ..))
    (fun _ => s.raise_keeps ..)

theorem State.nextIpId_keeps (s : State) : KeepsBounds s s.nextIpId := .of_same rfl

theorem State.sendReply_keeps (s : State) (p : ReturnPath) (b : Bytes) : KeepsBounds s (s.sendReply p b) :=
  s.nextIpId_keeps.trans (State.offerLane_keeps _ _)

theorem State.countReply_keeps (s : State) (i : TillIx) (x : LocalReply) : KeepsBounds s (s.countReply i x) := by
  unfold State.countReply
  refine KeepsBounds.trans ?_ (State.nextIpId_keeps _)
  split
  · exact (s.raise_keeps ..).trans (State.setTill_keeps _ i _ id)
  · exact s.raise_keeps ..

theorem State.localReply_keeps (s : State) (i : TillIx) (n r : Nat) (p : ReturnPath) (x : LocalReply) :
    KeepsBounds s (s.localReply i n r p x) := by
  rw [State.localReply_eq]
  exact (s.countReply_keeps i x).trans (State.offerLane_keeps _ _)

theorem State.replyTo_keeps (s : State) (i : TillIx) (m : TillMsg) (x : LocalReply) : KeepsBounds s (s.replyTo i m x) :=
  s.localReply_keeps ..

/-- A queue that is emptied is within its depth. -/
theorem Till.within_emptied {x : Till} (h : x.within) : { x with queue := [] }.within := ⟨Nat.zero_le _, h.2⟩

/-- A till without a record has no items. -/
theorem Till.within_noRecord {x : Till} (h : x.within) : { x with record := none }.within := ⟨h.1, nofun⟩

theorem State.refuseQueue_keeps (s : State) (i : TillIx) (x : LocalReply) : KeepsBounds s (s.refuseQueue i x) :=
  (s.setTill_keeps i _ Till.within_emptied).trans (.foldl _ (fun t m => t.replyTo_keeps i m x) _ _)

theorem refuseQueues_keeps (l : List TillIx) (x : LocalReply) (s : State) :
    KeepsBounds s (l.foldl (fun s i => s.refuseQueue i x) s) :=
  .foldl _ (fun t i => t.refuseQueue_keeps i x) l s

theorem State.refuseIfBarred_keeps (s : State) (i : TillIx) : KeepsBounds s (s.refuseIfBarred i) := by
  unfold State.refuseIfBarred
  split
  · exact .refl s
  · exact s.refuseQueue_keeps i _

/-! ### Requests for sector writes (R51, R68) -/

theorem State.mapJobs_keeps (s : State) (f : Job → Job) : KeepsBounds s (s.mapJobs f) := .of_same rfl

theorem State.kick1_keeps (s : State) : KeepsBounds s s.kick1 :=
  .ite (fun _ => .refl s) fun _ => .ite (fun _ => .of_same rfl) fun _ => .ite (fun _ => .of_same rfl) fun _ => .refl s

theorem State.kick2_keeps (s : State) : KeepsBounds s s.kick2 :=
  .ite (fun _ => .refl s) fun _ => .ite (fun _ => .of_same rfl) fun _ => .ite (fun _ => .of_same rfl) fun _ => .refl s

theorem State.kick3_keeps (s : State) : KeepsBounds s s.kick3 :=
  .ite (fun _ => .refl s) fun _ => .ite (fun _ => .of_same rfl) fun _ => .of_same rfl

theorem State.request1_keeps (s : State) : KeepsBounds s s.request1 :=
  KeepsBounds.trans (t := { s with writer1 := { s.writer1 with wanted := true } }) (.of_same rfl) (State.kick1_keeps _)

theorem State.request2_keeps (s : State) (adds : List KeyAddition) : KeepsBounds s (s.request2 adds) :=
  KeepsBounds.trans (t := { s with writer2 := { s.writer2 with waiting := s.writer2.waiting ++ adds, wanted := true } }) (.of_same rfl)
    (State.kick2_keeps _)

theorem State.setCtr_keeps (s : State) (k : SlotIx) (i : TillIx) (e : CounterEntry) : KeepsBounds s (s.setCtr k i e) := .of_same rfl

theorem State.setSlot_keeps (s : State) (k : SlotIx) (x : KeySlot) : KeepsBounds s (s.setSlot k x) := .of_same rfl

theorem State.requestRaise_keeps (s : State) (k : SlotIx) (i : TillIx) : KeepsBounds s (s.requestRaise k i) := .of_same rfl

end Sys2Proof.Machine
end

section
/-! PROOFS. Bounds, second part: a context that goes IDLE, the Uplink Priority Queue and its waiting order (R19), Outstanding places (R101, R102,
R122), and grants (R94, R117). -/

namespace Sys2Proof.Machine

/-! ### Queues that are served from the front -/

/-- What each turn of serving a queue keeps, serving keeps: while it may serve, a turn serves the head, and once it may not, it never may again. -/
theorem foldl_serve {α : Type} (queue : State → List α) (ready : State → Prop) [DecidablePred ready] (f : State → α → State)
    (P : State → Prop)
    (turn : ∀ s x rest, queue s = x :: rest → ready s → P s → P (f s x) ∧ queue (f s x) = rest) :
    ∀ (l : List α) (s : State), queue s = l → P s → P (l.foldl (fun s x => if ready s then f s x else s) s)
  | [], _, _, h => h
  | x :: l, s, hq, h => by
    rw [List.foldl_cons]
    by_cases hr : ready s
    · rw [if_pos hr]
      obtain ⟨hp, hl⟩ := turn s x l hq hr h
      exact foldl_serve queue ready f P turn l _ hl hp
    · rw [if_neg hr, List.foldl_fixed' (fun _ => if_neg hr)]
      exact h

/-! ### A context goes IDLE (R38, R93) -/

theorem State.ctxToIdle_depths (s : State) (i : CtxIx) (h : s.withinDepths) : (s.ctxToIdle i).withinDepths := by
  unfold State.ctxToIdle
  split
  · exact withinDepths_congr rfl (h)
  · rename_i w _
    split
    · exact withinDepths_congr rfl (h)
    · exact withinDepths_congr rfl ((s.setTill_keeps w.till { s.till w.till with wrapInFlight := false } id).depths h)

/-- A context outside both waiting orders goes IDLE, and its place is given up, or filled by the entry added. -/
theorem State.Places.toIdle {s : State} (h : s.Places) {i : CtxIx} (hi : i ∉ s.placeWait) (hz : s.waits i = 0) (out : List OutEntry)
    (hout : out.length ≤ s.outstanding.length + if (s.ctx i).holdsPlace then 1 else 0) :
    (State.ctxToIdle { s with outstanding := out } i).Places := by
  obtain ⟨t, ht⟩ : ∃ t : State, t = State.ctxToIdle { s with outstanding := out } i := ⟨_, rfl⟩
  have frame : t = { s with outstanding := out, tills := t.tills, ctxs := t.ctxs } := by rw [ht, State.ctxToIdle_frame]
  have ctx : ∀ j, t.ctx j = if j = i then idleCtx else s.ctx j := fun j => by rw [ht, State.ctx_ctxToIdle]; rfl
  have others : ∀ j, j ≠ i → t.ctx j = s.ctx j := fun j hj => by rw [ctx, if_neg hj]
  have here : t.ctx i = idleCtx := by rw [ctx, if_pos rfl]
  have waits : ∀ j, t.waits j = s.waits j := fun j => by rw [frame]; rfl
  have used := State.usedPlaces_release others (by rw [here]; rfl) (by rw [frame]; exact hout)
  have wait : t.placeWait = s.placeWait := by rw [frame]
  rw [← ht]
  refine h.update i (used.trans h.used) others (here ▸ idleCtx_phased) (wait ▸ List.Sublist.refl _) (wait ▸ hi)
    (fun j _ => (waits j).le) ?_
  rw [waits, hz]
  exact Nat.zero_le _

theorem KeepsBounds.ctxToIdle {s t : State} (k : KeepsBounds s t) (i : CtxIx)
    (h : s.Places → i ∉ t.placeWait ∧ t.waits i = 0) : KeepsBounds s (t.ctxToIdle i) := by
  refine ⟨fun hs => t.ctxToIdle_depths i (k.depths hs), fun hs => ?_, fun hs => ?_⟩
  · obtain ⟨hi, hz⟩ := h (s.placesSound_iff.1 hs)
    exact (State.placesSound_iff _).2 ((t.placesSound_iff.1 (k.places hs)).toIdle hi hz t.outstanding (Nat.le_add_right _ _))
  · rw [State.cardsBounded, State.ctxToIdle_frame]
    exact k.cards hs

/-- A context that was outside EMITTING goes IDLE after changes that left its phase and the places alone. -/
theorem KeepsBounds.endsIdle {s t : State} (k : KeepsBounds s t) (i : CtxIx) (h : t.Places → (t.ctx i).phase ≠ .emitting) :
    KeepsBounds s (t.ctxToIdle i) :=
  k.trans ((KeepsBounds.refl t).ctxToIdle i fun ht => (ht.outside (h ht)).2)

/-! ### The Uplink Priority Queue (R19, R20) -/

theorem State.placePriority_places (s : State) (p : Port) (f : TxFrame) :
    (s.placePriority p f).ctxs = s.ctxs ∧ (s.placePriority p f).waitOrder = s.waitOrder := by
  unfold State.placePriority State.discardFrame
  split
  · cases p <;> exact ⟨rfl, rfl⟩
  · dsimp only
    split <;> exact ⟨rfl, rfl⟩

theorem State.ctx_placePriority (s : State) (p : Port) (f : TxFrame) (i : CtxIx) : (s.placePriority p f).ctx i = s.ctx i := by
  rw [State.ctx, (s.placePriority_places p f).1]; rfl

theorem State.waits_placePriority (s : State) (p : Port) (f : TxFrame) (i : CtxIx) : (s.placePriority p f).waits i = s.waits i := by
  rw [State.waits, (s.placePriority_places p f).2]; rfl

/-- The block whose frame is placed goes on; a context does so from the place it holds, with no other frame of its waiting. -/
theorem KeepsBounds.placed {s t : State} (k : KeepsBounds s t) (w : Waiter)
    (h : s.Places → ∀ i, w = .ctx i → (t.ctx i).holdsPlace = true ∧ t.waits i = 0) : KeepsBounds s (t.placed w) := by
  cases w with
  | ctx i =>
    unfold State.placed
    dsimp only
    split
    · exact k
    · rename_i w hw
      split
      · exact k
      · refine ⟨fun hs => State.ctxToIdle_depths _ i (withinDepths_congr rfl (k.depths hs)), fun hs => ?_, fun hs => ?_⟩
        · have ht := t.placesSound_iff.1 (k.places hs)
          obtain ⟨holds, hz⟩ := h (s.placesSound_iff.1 hs) i rfl
          refine (State.placesSound_iff _).2 (ht.toIdle (fun hi => ?_) hz _ (by rw [if_pos holds]; simp))
          obtain ⟨-, v, hv, hp⟩ := ht.waiting i hi
          rw [Ctx.holdsPlace_of_wrap hv, hp] at holds
          cases holds
        · rw [State.cardsBounded, State.ctxToIdle_frame]
          exact k.cards hs
  | drain => unfold State.placed; dsimp only; split <;> [exact k; exact k.trans (.of_same rfl)]
  | monitor => unfold State.placed; dsimp only; split <;> [exact k; exact k.trans (.of_same rfl)]
  | mgmt => exact k.trans (.of_same rfl)
  | responder => exact k

/-- One more frame waits: another block's, or the one frame of a context that holds its place. -/
theorem State.Places.wait {s : State} (h : s.Places) (w : Waiter) (f : TxFrame)
    (hw : ∀ i, w = .ctx i → (s.ctx i).holdsPlace = true ∧ s.waits i = 0) :
    State.Places { s with waitOrder := s.waitOrder ++ [(w, f)] } := by
  refine ⟨h.used, h.phased, h.nodup, h.waiting, fun i => ?_⟩
  have split : State.waits { s with waitOrder := s.waitOrder ++ [(w, f)] } i = s.waits i + if w = .ctx i then 1 else 0 := by
    by_cases e : w = .ctx i <;> simp [State.waits, List.filter_append, e]
  rw [split]
  by_cases e : w = .ctx i
  · obtain ⟨holds, hz⟩ := hw i e
    rw [if_pos e, hz]
    exact (if_pos holds).ge
  · rw [if_neg e]; exact h.order i

theorem KeepsBounds.offerUplink {s t : State} (k : KeepsBounds s t) (w : Waiter) (f : TxFrame)
    (h : s.Places → ∀ i, w = .ctx i → (t.ctx i).holdsPlace = true ∧ t.waits i = 0) : KeepsBounds s (t.offerUplink w f) := by
  unfold State.offerUplink
  split
  · rename_i hc
    simp only [Bool.and_eq_true, decide_eq_true_eq] at hc
    refine (k.trans (t.placePriority_keeps .uplink f hc.2)).placed w fun hs i e => ?_
    rw [State.ctx_placePriority, State.waits_placePriority]
    exact h hs i e
  · refine ⟨fun hs => withinDepths_congr rfl (k.depths hs), fun hs => ?_, k.cards⟩
    exact (State.placesSound_iff _).2 ((t.placesSound_iff.1 (k.places hs)).wait w f (h (s.placesSound_iff.1 hs)))

/-- A block that is no context offers a frame. -/
theorem State.offerUplink_keeps (s : State) (w : Waiter) (f : TxFrame) (h : ∀ i, w ≠ .ctx i) : KeepsBounds s (s.offerUplink w f) :=
  (KeepsBounds.refl s).offerUplink w f fun _ i e => absurd e (h i)

/-- The head of the waiting order has left it; if it was a context's frame, that context holds its place and has no other waiting. -/
theorem State.Places.served {s : State} (h : s.Places) {x : Waiter × TxFrame} {rest : List (Waiter × TxFrame)}
    (hq : s.waitOrder = x :: rest) :
    State.Places { s with waitOrder := rest }
      ∧ ∀ i, x.1 = .ctx i → (s.ctx i).holdsPlace = true ∧ State.waits { s with waitOrder := rest } i = 0 := by
  have split : ∀ i, s.waits i = (if x.1 = .ctx i then 1 else 0) + State.waits { s with waitOrder := rest } i := fun i => by
    by_cases e : x.1 = .ctx i <;> simp [State.waits, hq, e, Nat.add_comm]
  refine ⟨⟨h.used, h.phased, h.nodup, h.waiting, fun i => ?_⟩, fun i e => ?_⟩
  · have := h.order i
    rw [split] at this
    exact (Nat.le_add_left _ _).trans this
  · have hi := split i
    rw [if_pos e] at hi
    obtain ⟨holds, one, -⟩ := h.of_waits (i := i) (by omega)
    exact ⟨holds, by omega⟩

theorem State.waitOrder_placed (s : State) (w : Waiter) : (s.placed w).waitOrder = s.waitOrder := by
  cases w with
  | ctx i =>
    unfold State.placed
    dsimp only
    split
    · rfl
    · split
      · rfl
      · exact (congrArg State.waitOrder (State.ctxToIdle_frame _ i) :)
  | drain => unfold State.placed; dsimp only; split <;> rfl
  | monitor => unfold State.placed; dsimp only; split <;> rfl
  | mgmt => rfl
  | responder => rfl

/-- A freed place of the Uplink Priority Queue goes to the head of the waiting order. -/
theorem State.serveOne_keeps (s : State) (x : Waiter × TxFrame) (rest : List (Waiter × TxFrame)) (hq : s.waitOrder = x :: rest)
    (room : s.uplink.priority.length < Config.priorityDepth) :
    KeepsBounds s ((State.placePriority { s with waitOrder := s.waitOrder.drop 1 } .uplink x.2).placed x.1) := by
  have served : KeepsBounds s { s with waitOrder := s.waitOrder.drop 1 } :=
    .of_places rfl fun hs => by rw [hq]; exact (hs.served hq).1
  refine (served.trans (State.placePriority_keeps _ .uplink x.2 room)).placed x.1 fun hs i e => ?_
  rw [State.ctx_placePriority, State.waits_placePriority, hq]
  exact (hs.served hq).2 i e

theorem State.serveUplink_keeps (s : State) : KeepsBounds s s.serveUplink :=
  foldl_serve State.waitOrder (fun t => t.uplink.priority.length < Config.priorityDepth)
    (fun t x => (State.placePriority { t with waitOrder := t.waitOrder.drop 1 } .uplink x.2).placed x.1) (KeepsBounds s)
    (fun t x rest hq room h => ⟨h.trans (t.serveOne_keeps x rest hq room), by
      rw [State.waitOrder_placed, (State.placePriority_places _ _ _).2, hq]; rfl⟩)
    s.waitOrder s rfl (.refl s)

/-- A block leaves the waiting order. -/
theorem State.Places.leave {s : State} (h : s.Places) (w : Waiter) : (s.leaveQueue w).Places := by
  refine ⟨h.used, h.phased, h.nodup, h.waiting, fun i => ?_⟩
  have sub : (s.waitOrder.filter (fun x => x.1 != w)).Sublist s.waitOrder := List.filter_sublist
  exact (sub.filter (fun x => x.1 == .ctx i)).length_le.trans (h.order i)

theorem State.leaveQueue_keeps (s : State) (w : Waiter) : KeepsBounds s (s.leaveQueue w) := .of_places rfl fun h => h.leave w

/-! ### Outstanding places (R101, R102, R122) -/

/-- A context in EMITTING takes one of the free places. -/
theorem State.Places.take {s : State} (h : s.Places) {i : CtxIx} {w : Wrap} (hw : (s.ctx i).wrap = some w) (hp : w.place = false)
    (he : (s.ctx i).phase = .emitting) (hi : i ∉ s.placeWait) (hu : s.usedPlaces < Config.outstandingPlaces) :
    (s.placing i w).Places ∧ ((s.placing i w).ctx i).holdsPlace = true ∧ (s.placing i w).waits i = 0 := by
  have holds : ((s.placing i w).ctx i).holdsPlace = true := Ctx.holdsPlace_of_wrap (s.placing_wrap i w)
  have none_held : (s.ctx i).holdsPlace = false := (Ctx.holdsPlace_of_wrap hw).trans hp
  have others : ∀ j, j ≠ i → (s.placing i w).ctx j = s.ctx j := fun j => s.placing_ctx_ne w
  have zero : (s.placing i w).waits i = 0 := by
    have := h.order i
    rw [none_held] at this
    exact Nat.le_zero.1 this
  refine ⟨h.update i ?_ others (fun v hv => ?_) (List.Sublist.refl _) hi (fun j _ => le_rfl) (zero.le.trans (Nat.zero_le _)), holds, zero⟩
  · have : (s.placing i w).usedPlaces = s.usedPlaces + 1 := by
      rw [State.usedPlaces, s.takenPlaces_add_one _ i none_held holds others]
      rfl
    rw [this]
    exact hu
  · have hin : w.inHand = none := by
      by_contra hc
      have := (h.phased i w hw).2 (by simpa [Option.isSome_iff_ne_none] using hc)
      rw [he] at this
      cases this
    rw [s.placing_wrap i w] at hv
    cases hv
    refine ⟨fun _ => ?_, fun hc => ?_⟩
    · rw [State.placing, State.ctx_setCtx_self]; exact he
    · rw [show Wrap.inHand { w with place := true } = none from hin] at hc
      cases hc

/-- A context takes a place and offers its frame, where it stands in EMITTING with no place and one is free. -/
theorem KeepsBounds.offerWrap {s t : State} (k : KeepsBounds s t) (i : CtxIx)
    (h : s.Places → (t.ctx i).phase = .emitting ∧ (t.ctx i).holdsPlace = false ∧ i ∉ t.placeWait
      ∧ t.usedPlaces < Config.outstandingPlaces) : KeepsBounds s (t.offerWrap i) := by
  cases hw : (t.ctx i).wrap with
  | none => simp only [State.offerWrap, hw]; exact k
  | some w =>
    cases hm : w.msg with
    | none => simp only [State.offerWrap, hw, hm]; exact k
    | some m =>
      rw [t.offerWrap_eq i w m hw hm]
      have taken : s.Places → (t.placing i w).Places ∧ ((t.placing i w).ctx i).holdsPlace = true ∧ (t.placing i w).waits i = 0 := by
        intro hs
        obtain ⟨he, hp, hi, hu⟩ := h hs
        rw [Ctx.holdsPlace_of_wrap hw] at hp
        exact (t.placesSound_iff.1 (k.places (s.placesSound_iff.2 hs))).take hw hp he hi hu
      have placing : KeepsBounds s (t.placing i w) :=
        ⟨fun hs => withinDepths_congr rfl (k.depths hs),
          fun hs => (State.placesSound_iff _).2 (taken (s.placesSound_iff.1 hs)).1, k.cards⟩
      refine placing.offerUplink _ _ fun hs j e => ?_
      cases e
      exact (taken hs).2

/-- A place freed goes to the context that began waiting earliest. -/
theorem State.serveOnePlace_keeps (s : State) (i : CtxIx) (rest : List CtxIx) (hq : s.placeWait = i :: rest)
    (room : s.usedPlaces < Config.outstandingPlaces) :
    KeepsBounds s (State.offerWrap { s with placeWait := s.placeWait.drop 1 } i) := by
  have left : KeepsBounds s { s with placeWait := s.placeWait.drop 1 } := .of_places rfl fun h => by
    have sub : (s.placeWait.drop 1).Sublist s.placeWait := List.drop_sublist _ _
    exact ⟨h.used, h.phased, h.nodup.sublist sub, fun j hj => h.waiting j (sub.subset hj), h.order⟩
  refine left.offerWrap i fun hs => ?_
  have hmem : i ∈ s.placeWait := hq ▸ List.mem_cons_self
  obtain ⟨he, w, hw, hp⟩ := hs.waiting i hmem
  have hnd := hs.nodup
  rw [hq] at hnd
  refine ⟨he, (Ctx.holdsPlace_of_wrap hw).trans hp, ?_, room⟩
  change i ∉ s.placeWait.drop 1
  rw [hq]
  exact (List.nodup_cons.1 hnd).1

theorem State.placeWait_offerWrap (s : State) (i : CtxIx) : (s.offerWrap i).placeWait = s.placeWait := by
  cases hw : (s.ctx i).wrap with
  | none => simp only [State.offerWrap, hw]
  | some w =>
    cases hm : w.msg with
    | none => simp only [State.offerWrap, hw, hm]
    | some m =>
      rcases s.offerWrap_cases i w m hw hm with h | ⟨up, ev, h⟩
      · rw [h]; rfl
      · rw [h]; exact (congrArg State.placeWait (State.ctxToIdle_frame _ i) :)

theorem State.servePlaces_keeps (s : State) : KeepsBounds s s.servePlaces :=
  foldl_serve State.placeWait (fun t => t.usedPlaces < Config.outstandingPlaces)
    (fun t i => State.offerWrap { t with placeWait := t.placeWait.drop 1 } i) (KeepsBounds s)
    (fun t i rest hq room h => ⟨h.trans (t.serveOnePlace_keeps i rest hq room), by rw [State.placeWait_offerWrap, hq]; rfl⟩)
    s.placeWait s rfl (.refl s)

/-- A context outside EMITTING enters it, with nothing in hand and no place. -/
theorem State.Places.enter {s : State} (h : s.Places) {i : CtxIx} (hp : (s.ctx i).phase ≠ .emitting) (hh : (s.ctx i).phase ≠ .holding) :
    (s.setCtx i { s.ctx i with phase := .emitting }).Places := by
  have none_held := (h.outside hp).1
  have here : (s.setCtx i { s.ctx i with phase := .emitting }).ctx i = { s.ctx i with phase := .emitting } := s.ctx_setCtx_self ..
  refine h.move hp (fun j hj => s.ctx_setCtx_ne _ hj) ?_ (by rw [here]; exact none_held) rfl
  rw [here]
  intro v hv
  exact ⟨fun _ => rfl, fun hc => absurd ((h.phased i v hv).2 hc) hh⟩

theorem State.enterEmitting_keeps (s : State) (i : CtxIx) (w : Wrap) (hw : (s.ctx i).wrap = some w) (hp : (s.ctx i).phase ≠ .emitting)
    (hh : (s.ctx i).phase ≠ .holding) : KeepsBounds s (s.enterEmitting i) := by
  have entered : KeepsBounds s (s.setCtx i { s.ctx i with phase := .emitting }) := .of_places rfl fun h => h.enter hp hh
  have here : (s.setCtx i { s.ctx i with phase := .emitting }).ctx i = { s.ctx i with phase := .emitting } := s.ctx_setCtx_self ..
  unfold State.enterEmitting
  dsimp only
  split
  · rename_i hc
    simp only [Bool.and_eq_true, decide_eq_true_eq] at hc
    refine entered.offerWrap i fun hs => ?_
    rw [here]
    exact ⟨rfl, (hs.outside hp).1, (hs.outside hp).2.1, hc.2⟩
  · refine ⟨fun hs => withinDepths_congr rfl (entered.depths hs), fun hs => ?_, entered.cards⟩
    have hs' := s.placesSound_iff.1 hs
    obtain ⟨none_held, hi, -⟩ := hs'.outside hp
    have ht := (State.placesSound_iff _).1 (entered.places hs)
    rw [Ctx.holdsPlace_of_wrap hw] at none_held
    refine (State.placesSound_iff _).2 ⟨ht.used, ht.phased, List.nodup_append.2 ⟨hs'.nodup, List.nodup_singleton i, ?_⟩, fun j hj => ?_,
      ht.order⟩
    · intro a ha b hb e
      rw [List.mem_singleton.1 hb] at e
      exact hi (e ▸ ha)
    · rcases List.mem_append.1 hj with hj | hj
      · exact ht.waiting j hj
      · rw [List.mem_singleton.1 hj]
        exact ⟨congrArg Ctx.phase here, w, (congrArg Ctx.wrap here).trans hw, none_held⟩

theorem State.dropPrevious_keeps (s : State) (k : SlotIx) (gen : Nat) : KeepsBounds s (s.dropPrevious k gen) := by
  rw [State.dropPrevious_frame]; exact .of_same rfl

theorem State.removeEntry_keeps (s : State) (e : OutEntry) : KeepsBounds s (s.removeEntry e) := by
  refine KeepsBounds.trans (t := { s with outstanding := s.outstanding.eraseP _ }) (.of_places rfl fun h => ?_)
    ((State.dropPrevious_keeps _ _ _).trans (State.servePlaces_keeps _))
  exact ⟨(Nat.add_le_add_right List.eraseP_sublist.length_le _).trans h.used, h.phased, h.nodup, h.waiting, h.order⟩

/-! ### Abandonment (R56, R106, R107) -/

theorem State.abandon_keeps (s : State) (i : CtxIx) : KeepsBounds s (s.abandon i) := by
  have left : KeepsBounds s { (s.leaveQueue (.ctx i)) with
      placeWait := s.placeWait.filter (fun j => j != i)
      holding := { s.holding with ops := s.holding.ops.map (StoreOp.disown i) } } := .of_places rfl fun h => by
    have sub : (s.placeWait.filter (fun j => j != i)).Sublist s.placeWait := List.filter_sublist
    have order := (h.leave (.ctx i)).order
    exact ⟨h.used, h.phased, h.nodup.sublist sub, fun j hj => h.waiting j (sub.subset hj), order⟩
  refine left.ctxToIdle i fun _ => ⟨by simp, ?_⟩
  rw [State.waits_eq_zero]
  intro x hx
  exact bne_iff_ne.1 (List.mem_filter.1 hx).2

theorem State.loseReservation_keeps (s : State) (i : TillIx) : KeepsBounds s (s.loseReservation i).1 := by
  unfold State.loseReservation
  split
  · exact .refl s
  · exact ((s.abandon_keeps _).trans (State.raise_keeps ..)).trans (State.servePlaces_keeps _)

/-! ### Grants (R49, R50, R94, R117) -/

theorem State.counterEvents_keeps (s : State) (k : SlotIx) (i : TillIx) (c : Nat) : KeepsBounds s (s.counterEvents k i c) :=
  .ite (fun _ => s.raise_keeps ..) fun _ => .ite (fun _ => s.raise_keeps ..) fun _ => .refl s

theorem State.reserve_keeps (s : State) (k : SlotIx) (i : TillIx) : KeepsBounds s (s.reserve k i) := by
  have raises : ∀ t : State, KeepsBounds t (if (t.ctr k i).wantsRaise then (t.requestRaise k i).kick3 else t) := fun t =>
    .ite (fun _ => (t.requestRaise_keeps k i).trans (State.kick3_keeps _)) fun _ => .refl t
  have refuses : ∀ (t : State) (c : Nat), KeepsBounds t (if c = Config.spent then t.refuseIfBarred i else t) := fun t c =>
    .ite (fun _ => t.refuseIfBarred_keeps i) fun _ => .refl t
  unfold State.reserve
  exact (((s.setCtr_keeps k i { s.ctr k i with c := (s.ctr k i).c + 1 }).trans (raises _)).trans
    (State.counterEvents_keeps _ k i _)).trans (refuses _ _)

/-- A context outside EMITTING is given a wrap with no place, in a phase outside EMITTING. -/
theorem State.setCtx_keeps (s : State) (i : CtxIx) (x : Ctx) (hp : (s.ctx i).phase ≠ .emitting)
    (h : s.Places → x.phased ∧ x.holdsPlace = false) : KeepsBounds s (s.setCtx i x) :=
  .of_places rfl fun hs => hs.move hp (fun j hj => s.ctx_setCtx_ne _ hj) (by rw [State.ctx_setCtx_self]; exact (h hs).1)
    (by rw [State.ctx_setCtx_self]; exact (h hs).2) rfl

theorem State.grantTo_keeps (s : State) (c : CtxIx) (i : TillIx) (x : TillClass) (hc : (s.ctx c).phase = .idle) :
    KeepsBounds s (s.grantTo c i x) := by
  unfold State.grantTo
  split
  · rename_i b m rest _ hq
    have granted : ∀ w : Wrap, w.place = false → w.inHand = none → KeepsBounds s (s.setCtx c { phase := .reserved, wrap := some w }) :=
      fun w hp hh => s.setCtx_keeps c _ (by rw [hc]; decide) fun _ =>
        ⟨fun v hv => by cases hv; exact ⟨fun h => by simp [hp] at h, fun h => by simp [hh] at h⟩,
          (Ctx.holdsPlace_of_wrap (w := w) rfl).trans hp⟩
    have popped : ∀ t : State, (t.till i).queue = m :: rest →
        KeepsBounds t (t.setTill i { t.till i with queue := rest, wrapInFlight := true }) := fun t ht =>
      t.setTill_keeps i _ fun h => ⟨(Nat.le_succ _).trans (by simpa [ht] using h.1), h.2⟩
    have arbiter : ∀ (t : State) (x : Arbiter), KeepsBounds t { t with arbiter := x } := fun _ _ => .of_same rfl
    exact (((granted _ rfl rfl).trans (popped _ hq)).trans (arbiter _ _)).trans (State.reserve_keeps _ _ _)
  · exact .refl s

theorem State.grantOnce_keeps (s : State) : KeepsBounds s s.grantOnce := by
  unfold State.grantOnce
  split
  · rename_i c i cls hc _
    exact s.grantTo_keeps c i cls (beq_iff_eq.1 (List.find?_some (p := fun c => (s.ctx c).phase == .idle) hc))
  · exact .refl s

theorem State.grants_keeps (s : State) : KeepsBounds s s.grants :=
  ((s.grantOnce_keeps.trans (State.grantOnce_keeps _)).trans (State.grantOnce_keeps _)).trans (State.grantOnce_keeps _)

end Sys2Proof.Machine
end

section
/-! PROOFS. Bounds, third part: the link and the drain (R137 to R144, R163 to R170), the Stand-in Unit and the Holding Store (R145 to R162), LOCKDOWN and
resets (R187 to R193), and what follows at the end of a step. -/

namespace Sys2Proof.Machine

/-! ### The link and the drain -/

theorem State.endPass_keeps (s : State) : KeepsBounds s s.endPass := (s.leaveQueue_keeps .drain).trans (.of_same rfl)

theorem State.leaveRunning_keeps (s : State) : KeepsBounds s s.leaveRunning :=
  .ite (fun _ => s.endPass_keeps.trans (.of_same rfl)) fun _ => .refl s

theorem State.drainToIdle_keeps (s : State) : KeepsBounds s s.drainToIdle := by
  unfold State.drainToIdle
  split
  · exact .refl s
  · exact .of_same rfl
  · exact s.endPass_keeps.trans (.of_same rfl)

theorem State.tryRun_keeps (s : State) : KeepsBounds s s.tryRun := .ite (fun _ => .of_same rfl) fun _ => .refl s

theorem State.armDrain_keeps (s : State) : KeepsBounds s s.armDrain :=
  KeepsBounds.trans (t := { s with drain := { s.drain with state := .armed } }) (.of_same rfl) (State.tryRun_keeps _)

theorem State.autoArm_keeps (s : State) : KeepsBounds s s.autoArm := .ite (fun _ => s.armDrain_keeps) fun _ => .refl s

theorem State.withLink_keeps (s : State) (x : LinkMonitor) : KeepsBounds s { s with link := x } := .of_same rfl

theorem State.setLink_keeps (s : State) (x : LinkState) (n : Nat) : KeepsBounds s (s.setLink x n) := .of_same rfl

theorem State.startSettle_keeps (s : State) : KeepsBounds s s.startSettle :=
  .ite (fun _ => (s.withLink_keeps _).trans (State.tryRun_keeps _)) fun _ => .of_same rfl

theorem State.leaveUp_keeps (s : State) : KeepsBounds s s.leaveUp := (s.withLink_keeps _).trans (State.leaveRunning_keeps _)

theorem State.enterUp_keeps (s : State) : KeepsBounds s s.enterUp := (s.setLink_keeps .up 0).trans (State.startSettle_keeps _)

theorem State.successRun_keeps (s : State) (n : Nat) : KeepsBounds s (s.successRun n) :=
  .ite (fun _ => (s.raise_keeps ..).trans (State.enterUp_keeps _)) fun _ => .of_same rfl

theorem State.failureRun_keeps (s : State) (n : Nat) : KeepsBounds s (s.failureRun n) :=
  .ite (fun _ => .of_same rfl) fun _ => .of_same rfl

theorem State.linkSuccess_keeps (s : State) : KeepsBounds s s.linkSuccess := by
  unfold State.linkSuccess
  split
  · split
    · exact .refl s
    · exact s.enterUp_keeps
    · exact s.successRun_keeps _
    · exact s.successRun_keeps _
  · exact .refl s

theorem State.linkFailure_keeps (s : State) : KeepsBounds s s.linkFailure := by
  unfold State.linkFailure
  split
  · exact s.leaveUp_keeps.trans (State.failureRun_keeps _ _)
  · exact s.failureRun_keeps _
  · exact .refl s
  · exact .of_same rfl

theorem State.physicalLoss_keeps (s : State) : KeepsBounds s s.physicalLoss := by
  have down : ∀ t : State, KeepsBounds t (match t.link.state with
      | .up => (t.leaveUp.raise .linkDown).setLink .down 0
      | .suspect => (t.raise .linkDown).setLink .down 0
      | .down => t
      | .recovering => t.setLink .down 0) := by
    intro t
    split
    · exact (t.leaveUp_keeps.trans (State.raise_keeps _ .linkDown none none none)).trans (State.setLink_keeps _ .down 0)
    · exact .of_same rfl
    · exact .refl t
    · exact .of_same rfl
  exact (s.withLink_keeps { s.link with physicalUp := false }).trans (down _)

theorem State.physicalReturn_keeps (s : State) : KeepsBounds s s.physicalReturn :=
  (s.withLink_keeps _).trans (.ite (fun _ => State.setLink_keeps _ _ _) fun _ => .refl _)

theorem State.restartSettle_keeps (s : State) : KeepsBounds s s.restartSettle := .ite (fun _ => s.startSettle_keeps) fun _ => .refl s

theorem State.probeTick_keeps (s : State) : KeepsBounds s s.probeTick := by
  by_cases h : s.link.inHand.isSome = true ∨ s.settings.store.probeGw.ip = 0
  · rw [s.probeTick_idle h]; exact .of_same rfl
  · rw [not_or, Option.not_isSome_iff_eq_none] at h
    rw [s.probeTick_offers h.1 h.2]
    exact KeepsBounds.trans (t := s.probing) (.of_same rfl) (State.offerUplink_keeps _ _ _ nofun)

theorem State.unawait_keeps (s : State) (n : Nat) : KeepsBounds s (s.unawait n) := .of_same rfl

/-! ### Charges and the Offline Card List (R148, R149, R152) -/

theorem length_updateFirst {α : Type} (p : α → Bool) (f : α → α) (l : List α) : (updateFirst p f l).length = l.length := by
  induction l with
  | nil => rfl
  | cons x l ih =>
    rw [updateFirst]
    split
    · rfl
    · rw [List.length_cons, List.length_cons, ih]

theorem length_releaseCard (cards : List CardEntry) (w : Nat) (fp : Option Fingerprint) : (releaseCard cards w fp).length ≤ cards.length := by
  cases fp with
  | none => exact le_rfl
  | some f => exact (List.length_filter_le _ _).trans (length_updateFirst _ _ _).le

/-- A charge adds an entry only for a fingerprint that has none. -/
theorem length_chargeCard (cards : List CardEntry) (w : Nat) (fp : Option Fingerprint) (n : Nat) (hl : cards.length ≤ n)
    (h : ∀ f, fp = some f → (∀ c ∈ cards, c.fp ≠ f) → cards.length < n) : (chargeCard cards w fp).length ≤ n := by
  cases fp with
  | none => exact hl
  | some f =>
    rw [chargeCard]
    split
    · rw [length_updateFirst]; exact hl
    · rename_i hn
      rw [List.length_append]
      exact h f rfl fun c hc e => hn (List.any_eq_true.2 ⟨c, hc, beq_iff_eq.2 e⟩)

/-- Check 5 of R147, the room on the list: an accepted SALE has its card's entry, or finds room for a new one (R152). -/
theorem State.room_of_accepted (s : State) (r : StandInRequest) (w : Nat) (h : s.standInRefusal r w = none) (f : Fingerprint)
    (hf : r.usedFp = some f) (hn : ∀ c ∈ s.standIn.cards, c.fp ≠ f) : s.standIn.cards.length < Config.cardEntries := by
  have sale : r.kind = .sale := by
    by_contra hk
    simp [StandInRequest.usedFp, hk] at hf
  have hfp : r.fp = some f := by simpa [StandInRequest.usedFp, sale] using hf
  have entry : s.cardEntry r.fp = none := List.find?_eq_none.2 fun c hc => by simpa [hfp] using hn c hc
  by_contra full
  rw [Nat.not_lt] at full
  have refused : ∀ (a b c d : Prop) [Decidable a] [Decidable b] [Decidable c] [Decidable d] (x : Option DeclineReason), x ≠ none →
      (if a then some .cardCheckUnavailable else if b then some .overSingle else if c then some .overTill
        else if d then some .overStore else x) ≠ none := by
    intro a b c d _ _ _ _ x hx
    split_ifs <;> simp_all
  refine refused _ _ _ _ _ ?_ h
  simp [sale, entry, full]

theorem State.acceptStandIn_keeps (s : State) (r : StandInRequest) (w slot : Nat) (h : s.standInRefusal r w = none) :
    KeepsBounds s (s.acceptStandIn r w slot) :=
  ⟨withinDepths_congr rfl, placesSound_congr rfl, fun hs =>
    length_chargeCard s.standIn.cards w r.usedFp Config.cardEntries hs fun f hf hn => s.room_of_accepted r w h f hf hn⟩

/-- A decision that accepts has passed every check (R147). -/
theorem State.standInOutcome_accepts (s : State) (r : StandInRequest) (slot w : Nat) (h : s.standInOutcome r = .inr (slot, w)) :
    s.standInRefusal r w = none := by
  unfold State.standInOutcome at h
  dsimp only at h
  split at h
  · rename_i hr _
    cases h
    exact hr
  · cases h
  · cases h

theorem State.release_keeps (s : State) (h : RecordHead) : KeepsBounds s (s.release h) :=
  ⟨withinDepths_congr rfl, placesSound_congr rfl, fun hs => (length_releaseCard s.standIn.cards h.weight h.fp).trans hs⟩

/-! ### The Holding Store and the Drain Controller (R155 to R170) -/

theorem State.withHolding_keeps (s : State) (h : HoldingStore) : KeepsBounds s { s with holding := h } := .of_same rfl

theorem State.requestWrite_keeps (s : State) (slot : Nat) (by_ : Requester) (r : HeldRecord) : KeepsBounds s (s.requestWrite slot by_ r) :=
  (.of_same rfl)

theorem State.requestFree_keeps (s : State) (slot : Nat) (by_ : Requester) : KeepsBounds s (s.requestFree slot by_) := .of_same rfl

theorem State.completeDrain_keeps (s : State) : KeepsBounds s s.completeDrain := .of_same rfl

theorem State.checkDrain_keeps (s : State) : KeepsBounds s s.checkDrain := .ite (fun _ => s.completeDrain_keeps) fun _ => .refl s

theorem State.takeRecord_keeps (s : State) (l : IndexLine) : KeepsBounds s (s.takeRecord l) := by
  rw [s.takeRecord_eq l]
  exact KeepsBounds.trans (t := s.taking l) (.of_same rfl) (State.offerUplink_keeps _ _ _ nofun)

theorem State.drainTurn_keeps (s : State) : KeepsBounds s s.drainTurn := by
  unfold State.drainTurn
  split
  · split
    · exact s.takeRecord_keeps _
    · exact .ite (fun _ => .refl s) fun _ => .ite (fun _ => .of_same rfl) fun _ => s.completeDrain_keeps
  · exact .refl s

theorem State.drainTurns_keeps (n : Nat) (s : State) : KeepsBounds s (State.drainTurns n s) := by
  induction n generalizing s with
  | zero => exact .refl s
  | succ n ih => exact s.drainTurn_keeps.trans (ih _)

theorem State.pumpDrain_keeps (s : State) : KeepsBounds s s.pumpDrain := s.autoArm_keeps.trans (State.drainTurns_keeps 12 _)

theorem State.answerNote_keeps (s : State) (q : Nat) (r : LocalReply) : KeepsBounds s (s.answerNote q r) := by
  unfold State.answerNote
  split
  · exact .refl s
  · exact KeepsBounds.trans (t := { s with holdNotes := s.holdNotes.filter (fun x => x.seq != q) }) (.of_same rfl)
      (State.localReply_keeps _ _ _ _ _ _)

theorem State.ctxs_localReply (s : State) (i : TillIx) (n r : Nat) (p : ReturnPath) (x : LocalReply) :
    (s.localReply i n r p x).ctxs = s.ctxs := (congrArg State.ctxs (s.localReply_repliesOnly i n r p x).eq :)

theorem State.ctx_localReply (s : State) (i : TillIx) (n r : Nat) (p : ReturnPath) (x : LocalReply) (j : CtxIx) :
    (s.localReply i n r p x).ctx j = s.ctx j := by rw [State.ctx, State.ctxs_localReply]; rfl

/-- A context with an outcome in hand is in HOLDING, and so has no place to lose. -/
theorem State.endHolding_keeps (s : State) (i : CtxIx) (r : LocalReply) : KeepsBounds s (s.endHolding i r) := by
  unfold State.endHolding
  split
  · exact .refl s
  · rename_i w hw
    split
    · exact .refl s
    · rename_i o ho
      refine (s.localReply_keeps w.till o.number o.reference o.path r).endsIdle i fun ht => ?_
      rw [(ht.phased i w (by rw [State.ctx_localReply]; exact hw)).2 (by rw [ho]; rfl)]
      decide

theorem State.endQueued_keeps (s : State) (o : StoreOp) : KeepsBounds s (s.endQueued o) := by
  have dropped : ∀ (n : Nat) (h : RecordHead), KeepsBounds s (State.release { s with holding := s.holding.dropLine n } h) := fun n h =>
    (s.withHolding_keeps _).trans (State.release_keeps _ h)
  cases o with
  | write n by_ r =>
    unfold State.endQueued
    refine (dropped n r.head).trans ?_
    cases by_ with
    | ctx i => exact State.endHolding_keeps _ _ _
    | matcher => exact State.answerNote_keeps _ _ _
    | drain => exact .refl _
    | nobody => exact .refl _
  | free n by_ =>
    unfold State.endQueued
    dsimp only
    split
    · exact .refl s
    · rename_i l _
      refine (dropped n l.head).trans (KeepsBounds.trans ?_ (State.checkDrain_keeps _))
      cases by_ with
      | ctx i => exact State.endHolding_keeps _ _ _
      | matcher => exact .refl _
      | drain => exact .of_same rfl
      | nobody => exact .refl _

theorem State.runFormat_keeps (s : State) : KeepsBounds s s.runFormat :=
  (s.withHolding_keeps _).trans (.foldl _ State.endQueued_keeps _ _)

theorem State.beginFormat_keeps (s : State) : KeepsBounds s s.beginFormat := .ite (fun _ => s.runFormat_keeps) fun _ => .of_same rfl

theorem State.endOp_keeps (s : State) : KeepsBounds s s.endOp := .of_same rfl

theorem State.afterOp_keeps (s : State) : KeepsBounds s s.afterOp := .ite (fun _ => s.runFormat_keeps) fun _ => .refl s

/-! ### LOCKDOWN, containment and tamper (R84, R85, R191 to R193) -/

theorem State.enterLockdown_keeps (s : State) : KeepsBounds s s.enterLockdown := by
  have locked : KeepsBounds s { s with opState := .lockdown } := .of_same rfl
  exact ((locked.trans (.foldl _ State.abandon_keeps allCtxs _)).trans (refuseQueues_keeps allTills (.unavailable .lockdown) _)).trans
    (State.drainToIdle_keeps _)

theorem State.contain_keeps (s : State) : KeepsBounds s s.contain := by
  unfold State.contain
  split
  · exact .refl s
  · split
    · exact s.enterLockdown_keeps
    · exact .of_same rfl
    · exact .refl s
    · exact .refl s

theorem State.faultSlot_keeps (s : State) (k : SlotIx) (gen : Nat) (till : TillIx) : KeepsBounds s (s.faultSlot k gen till) := by
  have faulted : KeepsBounds s (s.faulting k gen till) := .of_same rfl
  rw [s.faultSlot_eq]
  exact (faulted.trans (refuseQueues_keeps _ _ _)).trans (State.request2_keeps _ _)

theorem State.faultFp_keeps (s : State) (till : TillIx) : KeepsBounds s (s.faultFp till) := by
  have marked : ∀ k : KeyTable, KeepsBounds s { s with keys := k } := fun _ => .of_same rfl
  exact ((marked _).trans (State.raise_keeps _ .keyCheckFail (some till) none none)).trans (State.request2_keeps _ _)

/-- Two contexts of one phase, one place and one outcome in hand. -/
def Ctx.SamePlace (x y : Ctx) : Prop :=
  y.phase = x.phase ∧ y.wrap.map (fun w => (w.place, w.inHand)) = x.wrap.map (fun w => (w.place, w.inHand))

theorem Ctx.SamePlace.wrap {x y : Ctx} (h : x.SamePlace y) {w : Wrap} (hw : y.wrap = some w) :
    ∃ v, x.wrap = some v ∧ w.place = v.place ∧ w.inHand = v.inHand := by
  obtain ⟨-, hm⟩ := h
  cases hx : x.wrap with
  | none => rw [hw, hx] at hm; cases hm
  | some v =>
    rw [hw, hx] at hm
    simp only [Option.map_some, Option.some.injEq, Prod.mk.injEq] at hm
    exact ⟨v, rfl, hm.1, hm.2⟩

theorem Ctx.SamePlace.symm {x y : Ctx} (h : x.SamePlace y) : y.SamePlace x := ⟨h.1.symm, h.2.symm⟩

theorem Ctx.SamePlace.holdsPlace {x y : Ctx} (h : x.SamePlace y) : y.holdsPlace = x.holdsPlace := by
  cases hy : y.wrap with
  | none =>
    have := h.2
    rw [hy, Option.map_none] at this
    rw [Ctx.holdsPlace_of_none hy, Ctx.holdsPlace_of_none (Option.map_eq_none_iff.1 this.symm)]
  | some w =>
    obtain ⟨v, hv, hp, -⟩ := h.wrap hy
    rw [Ctx.holdsPlace_of_wrap hy, Ctx.holdsPlace_of_wrap hv, hp]

/-- Every context is changed in what the places do not depend on. -/
theorem State.Places.mapCtxs {s : State} (h : s.Places) (f : Ctx → Ctx) (hf : ∀ x : Ctx, x.SamePlace (f x)) :
    State.Places { s with ctxs := s.ctxs.map f } := by
  obtain ⟨t, ht⟩ : ∃ t : State, t = { s with ctxs := s.ctxs.map f } := ⟨_, rfl⟩
  have ctx : ∀ i, t.ctx i = f (s.ctx i) := fun i => by rw [ht]; simp [State.ctx]
  have holds : ∀ i, (t.ctx i).holdsPlace = (s.ctx i).holdsPlace := fun i => by rw [ctx]; exact (hf _).holdsPlace
  have used : t.usedPlaces = s.usedPlaces := by
    rw [State.usedPlaces, State.usedPlaces, State.takenPlaces_eq, State.takenPlaces_eq, List.filter_congr fun i _ => holds i, ht]
  have waits : ∀ i, t.waits i = s.waits i := fun i => by rw [ht]; rfl
  have wait : t.placeWait = s.placeWait := by rw [ht]
  rw [← ht]
  refine ⟨used ▸ h.used, fun i w hw => ?_, wait ▸ h.nodup, fun i hi => ?_, fun i => ?_⟩
  · rw [ctx] at hw ⊢
    obtain ⟨v, hv, hp, hh⟩ := (hf _).wrap hw
    rw [hp, hh, (hf _).1]
    exact h.phased i v hv
  · obtain ⟨he, v, hv, hp⟩ := h.waiting i (wait ▸ hi)
    obtain ⟨w, hw, hwp, -⟩ := (hf (s.ctx i)).symm.wrap hv
    rw [ctx]
    exact ⟨(hf _).1.trans he, w, hw, hwp.symm.trans hp⟩
  · rw [waits, holds]; exact h.order i

theorem State.mapCtxs_keeps (s : State) (f : Ctx → Ctx) (hf : ∀ x : Ctx, x.SamePlace (f x)) :
    KeepsBounds s { s with ctxs := s.ctxs.map f } := .of_places rfl fun h => h.mapCtxs f hf

theorem Ctx.samePlace_withoutKeys (x : Ctx) : x.SamePlace x.withoutKeys := by
  refine ⟨rfl, ?_⟩
  rw [Ctx.withoutKeys, Option.map_map]
  rfl

/-- Entries leave the Outstanding List at once. -/
theorem State.dropOutstanding_keeps (s : State) : KeepsBounds s { s with outstanding := [] } := .of_places rfl fun h =>
  ⟨(Nat.add_le_add_right (Nat.zero_le _) _).trans h.used, h.phased, h.nodup, h.waiting, h.order⟩

theorem State.tamper_keeps (s : State) : KeepsBounds s s.tamper := by
  have zeroised : ∀ (k : KeyTable) (w : Writer2), KeepsBounds s
      { s.raise .tamper with keys := k, ctxs := s.ctxs.map Ctx.withoutKeys, writer2 := w } := fun k w =>
    (s.mapCtxs_keeps Ctx.withoutKeys Ctx.samePlace_withoutKeys).trans (.of_same rfl)
  have lost : ∀ (l : List OutEntry) (t : State), KeepsBounds t (l.foldl (fun s e => s.raise .lostToTamper (till := some e.till)) t) :=
    .foldl _ fun t e => t.raise_keeps ..
  have ends : ∀ t : State, KeepsBounds t (match t.opState with
      | .serving => t.enterLockdown
      | .starting => { t with cause := true }
      | .factory => t
      | .lockdown => t) := by
    intro t
    split
    · exact t.enterLockdown_keeps
    · exact .of_same rfl
    · exact .refl t
    · exact .refl t
  unfold State.tamper
  exact ((((zeroised _ _).trans (State.mapJobs_keeps _ _)).trans (State.dropOutstanding_keeps _)).trans (lost _ _)).trans (ends _)

/-! ### A reset (R188) -/

/-- A reset empties every queue and list, frees every place and every card entry. -/
theorem State.beginReset_keeps (s : State) (st : Startup) : KeepsBounds s (s.beginReset st) := by
  have quiet : ∀ up : Bool, (quietPort up).within := fun up => ⟨Nat.zero_le _, Nat.zero_le _⟩
  have ctx : ∀ i, (s.beginReset st).ctx i = idleCtx := fun i => by simp [State.beginReset, State.reset, State.ctx]
  refine ⟨fun _ => (State.withinDepths_iff _).2 ⟨fun i => ?_, quiet _, quiet _, Nat.zero_le _⟩, fun _ =>
    (State.placesSound_iff _).2 ⟨?_, fun i => ctx i ▸ idleCtx_phased, List.nodup_nil, nofun, fun i => Nat.zero_le _⟩, fun _ => Nat.zero_le _⟩
  · have : (s.beginReset st).till i = vacantTill := by simp [State.beginReset, State.reset, State.till]
    rw [this]
    exact ⟨Nat.zero_le _, nofun⟩
  · have : (s.beginReset st).takenPlaces = 0 := by
      rw [State.takenPlaces_eq, List.length_eq_zero_iff, List.filter_eq_nil_iff]
      intro i _
      rw [ctx]
      decide
    rw [State.usedPlaces, this]
    exact Nat.zero_le _

theorem State.resetIfGone_keeps (s : State) : KeepsBounds s s.resetIfGone := .ite (fun _ => s.beginReset_keeps _) fun _ => .refl s

/-! ### Answers and responses (R15, R174, R175) -/

theorem State.withMgmt_keeps (s : State) (m : MgmtUnit) (h : m.arrivals.length ≤ s.mgmt.arrivals.length) :
    KeepsBounds s { s with mgmt := m } :=
  .of_depths rfl fun hs => by
    rw [State.withinDepths_iff] at hs ⊢
    obtain ⟨tills, lane, uplink, arrivals⟩ := hs
    exact ⟨tills, lane, uplink, h.trans arrivals⟩

theorem State.answerJobs_keeps (s : State) : KeepsBounds s s.answerJobs :=
  (s.withMgmt_keeps { s.mgmt with jobs := s.mgmt.jobs.filter (fun j => !j.ended) } le_rfl).trans (.foldl State.answerJob (fun _ _ => .of_same rfl) _ _)

theorem State.offerResponse_keeps (s : State) : KeepsBounds s s.offerResponse := by
  unfold State.offerResponse
  split
  · exact .refl s
  · split
    · exact .refl s
    · exact s.offerUplink_keeps _ _ nofun

theorem State.offerResponses_keeps (s : State) : KeepsBounds s s.offerResponses := .foldl _ (fun t _ => t.offerResponse_keeps) _ _

theorem State.addJob_keeps (s : State) (j : Job) : KeepsBounds s (s.addJob j) := .of_same rfl

theorem State.answer_keeps (s : State) (t : Taken) (x : Status) (r : Results) : KeepsBounds s (s.answer t x r) :=
  (s.addJob_keeps _).trans (State.request1_keeps _)

theorem State.refuse_keeps (s : State) (t : Taken) (x : Status) : KeepsBounds s (s.refuse t x) := s.answer_keeps ..

theorem State.settleWaiting_keeps (s : State) (x : Status) (r : Results) (f : Job → Job) : KeepsBounds s (s.settleWaiting x r f) :=
  s.mapJobs_keeps _

theorem State.beginWait_keeps (s : State) (t : Taken) (h : Hold) : KeepsBounds s (s.beginWait t h) :=
  .ite (fun _ => s.refuse_keeps ..) fun _ => (s.addJob_keeps _).trans (State.request1_keeps _)

/-! ### The waiting command (R74, R78, R79, R178, R184) -/

theorem State.carryActivate_keeps (s : State) (k : SlotIx) : KeepsBounds s (s.carryActivate k) :=
  .ite (fun _ => s.settleWaiting_keeps ..) fun _ => .ite (fun _ => s.settleWaiting_keeps ..) fun _ =>
    .ite (fun _ => s.settleWaiting_keeps ..) fun _ => .ite (fun _ => s.settleWaiting_keeps ..) fun _ =>
      ((s.settleWaiting_keeps ..).trans (State.setSlot_keeps _ k _)).trans (State.request2_keeps _ _)

theorem State.eraseEntry_keeps (s : State) (e : OutEntry) : KeepsBounds s (s.eraseEntry e) :=
  ((s.removeEntry_keeps e).trans (State.localReply_keeps _ _ _ _ _ _)).trans (State.raise_keeps ..)

theorem eraseEntries_keeps (l : List OutEntry) (s : State) : KeepsBounds s (l.foldl State.eraseEntry s) :=
  .foldl _ State.eraseEntry_keeps l s

theorem State.carryErase_keeps (s : State) (k : SlotIx) : KeepsBounds s (s.carryErase k) :=
  .ite (fun _ => s.settleWaiting_keeps ..) fun _ => .ite (fun _ => s.settleWaiting_keeps ..) fun _ =>
    (((((s.settleWaiting_keeps ..).trans (State.setSlot_keeps _ k _)).trans (State.raise_keeps _ .keyErased none (some k) none)).trans
      (eraseEntries_keeps _ _)).trans (refuseQueues_keeps _ (.refused .noKey) _)).trans (State.request2_keeps _ _)

/-- The message of a wrap that has lost its reservation is refused, if there is one (R43, R45). -/
theorem State.refuseLost_keeps (s : State) (i : TillIx) (x : LocalReply) (m : Option TillMsg) :
    KeepsBounds s (match m with | none => s | some m => s.replyTo i m x) := by
  cases m with
  | none => exact .refl s
  | some m => exact s.replyTo_keeps ..

theorem State.emptyTill_keeps (s : State) (i : TillIx) : KeepsBounds s (s.emptyTill i) := by
  have emptied : KeepsBounds s (s.setTill i { s.till i with binding := none, record := none }) :=
    s.setTill_keeps i _ fun h => Till.within_noRecord h
  exact ((emptied.trans (State.loseReservation_keeps _ i)).trans (State.refuseLost_keeps _ i (.refused .tillDisabled) _)).trans
    (State.refuseQueue_keeps _ i _)

theorem State.decommission_keeps (s : State) : KeepsBounds s s.decommission := by
  have keys : KeepsBounds s { s with keys := blankKeys } := .of_same rfl
  have tills : ∀ t : State, KeepsBounds t (allTills.foldl (fun s i => if (s.till i).binding.isSome then s.emptyTill i else s) t) :=
    .foldl _ (fun t i => .ite (fun _ => t.emptyTill_keeps i) fun _ => .refl t) _
  have counters : ∀ (t : State) (c : CounterTable), KeepsBounds t { t with counters := c } := fun _ _ => .of_same rfl
  have settings : ∀ (t : State) (x : Settings), KeepsBounds t { t with settings := x } := fun _ _ => .of_same rfl
  have erases : ∀ (t : State) (w : Writer1) (x : Writer2), KeepsBounds t { t with writer1 := w, writer2 := x } := fun _ _ _ => .of_same rfl
  unfold State.decommission
  exact ((((((((((keys.trans (eraseEntries_keeps _ _)).trans (tills _)).trans (counters _ _)).trans (State.kick3_keeps _)).trans
    (settings _ blankSettings)).trans (State.leaveRunning_keeps _)).trans (State.beginFormat_keeps _)).trans
    (State.raise_keeps _ .decommissioned none none none)).trans (erases _ _ _)).trans (State.kick1_keeps _)).trans (State.kick2_keeps _)

theorem State.carryDecommission_keeps (s : State) (force : Nat) : KeepsBounds s (s.carryDecommission force) :=
  .ite (fun _ => s.settleWaiting_keeps ..) fun _ => (s.settleWaiting_keeps ..).trans (State.decommission_keeps _)

theorem State.quietCheck_keeps (s : State) : KeepsBounds s s.quietCheck := by
  unfold State.quietCheck
  split
  · exact .refl s
  · split
    · exact .refl s
    · split
      · split
        · exact s.carryActivate_keeps _
        · exact s.carryErase_keeps _
        · exact s.carryDecommission_keeps _
        · exact .refl s
      · exact .refl s

/-! ### The end of a step -/

theorem State.finish_keeps (s : State) : KeepsBounds s s.finish :=
  (((s.pumpDrain_keeps.trans (State.answerJobs_keeps _)).trans (State.offerResponses_keeps _)).trans (State.grants_keeps _)).trans
    (State.resetIfGone_keeps _)

theorem State.settle_keeps (s : State) : KeepsBounds s s.settle := s.quietCheck_keeps.trans (State.finish_keeps _)

end Sys2Proof.Machine
end

section
/-! PROOFS. Bounds, fourth part: what the rows of the factory port, of resets and start-up, of the receive path and the Message Assembler, and of the
transmit side keep (sections 1, 2, 3 and 13). -/

namespace Sys2Proof.Machine

/-- Whatever state a row leads to, the bounds are kept. -/
def NextKeeps (s : State) (o : Host.Outcome State Fault Refusal) : Prop := ∀ t, o = .next t → KeepsBounds s t

theorem NextKeeps.next {s t : State} (h : KeepsBounds s t) : NextKeeps s (.next t) := by
  intro u hu
  cases hu
  exact h

/-! ### The factory port (R190) -/

theorem State.factoryAnswer_keeps (s : State) (a : FactoryAnswer) : KeepsBounds s (s.factoryAnswer a) := .of_same rfl

theorem State.clearFactory_keeps (s : State) : KeepsBounds s s.clearFactory := .of_same rfl

theorem State.cutHolding_keeps (s : State) : KeepsBounds s s.cutHolding := by
  unfold State.cutHolding
  split
  · exact .refl s
  · split
    · exact .of_same rfl
    · split <;> [exact .refl s; exact .of_same rfl; exact .of_same rfl]

theorem State.takeIdentity_keeps (s : State) (serial : BitVec 64) (mac : Mac) (etype : Nat) (mgmtKey transportKey : Key) :
    KeepsBounds s (s.takeIdentity serial mac etype mgmtKey transportKey) :=
  .ite (fun _ => .of_same rfl) fun _ => s.factoryAnswer_keeps _

theorem State.takeClose_keeps (s : State) : KeepsBounds s s.takeClose := by
  unfold State.takeClose
  split
  · exact s.factoryAnswer_keeps _
  · exact .ite (fun _ => .of_same rfl) fun _ => s.factoryAnswer_keeps _

theorem State.takeErase_keeps (s : State) : KeepsBounds s s.takeErase := by
  have erasing : ∀ t : State, KeepsBounds t { t with
      rxOpen := false
      writer1 := { inFlight := none, wanted := false, eraseWanted := false }
      writer2 := { inFlight := t.writer2.inFlight.filter (·.zeroise), waiting := [], wanted := false, eraseWanted := false }
      counters := { t.counters with pending := [], activations := [], eraseWanted := false, inFlight := none }
      holding := { t.holding with ops := [], format := .running }
      mgmt := { t.mgmt with jobs := t.mgmt.jobs.filter Job.free }
      factory := { t.factory with op := some .erase } } := fun _ => .of_same rfl
  exact s.cutHolding_keeps.trans (erasing _)

theorem State.takeFactory_keeps (s : State) (c : Instr) : KeepsBounds s (s.takeFactory c) := by
  unfold State.takeFactory
  split
  · exact s.takeIdentity_keeps ..
  · exact s.takeClose_keeps
  · exact s.takeErase_keeps
  · exact .refl s

theorem State.offerFactory_keeps (s : State) (c : Instr) : KeepsBounds s (s.offerFactory c) :=
  .ite (fun _ => s.takeFactory_keeps c) fun _ => .of_same rfl

theorem State.serveFactory_keeps (s : State) : KeepsBounds s s.serveFactory := by
  have waited : ∀ t : State, KeepsBounds t { t with factory := { t.factory with waiting := t.factory.waiting.drop 1 } } := fun _ => .of_same rfl
  exact .foldl _ (fun t c => .ite (fun _ => (waited t).trans (State.takeFactory_keeps _ c)) fun _ => .refl t) _ _

theorem State.endFactory_keeps (s : State) (ok0 ok1 ok2 ok3 : Bool) : KeepsBounds s (s.endFactory ok0 ok1 ok2 ok3) := by
  have failed : KeepsBounds s (s.clearFactory.factoryAnswer (.failed 0)).serveFactory :=
    (s.clearFactory_keeps.trans (State.factoryAnswer_keeps _ _)).trans (State.serveFactory_keeps _)
  have resets : ∀ t : State, KeepsBounds t (t.beginReset .reading) := fun t => t.beginReset_keeps _
  have stored : ∀ (t : State) (x : KeyStore) (h : HoldingStore), KeepsBounds t { t with store := x, holding := h } := fun _ _ _ => .of_same rfl
  have named : ∀ (t : State) (x : KeyStore) (c : Option Identity), KeepsBounds t { t with store := x, identity := c } := fun _ _ _ => .of_same rfl
  unfold State.endFactory
  split
  · exact .refl s
  · exact .ite (fun _ => ((s.clearFactory_keeps.trans (named _ _ _)).trans (State.factoryAnswer_keeps _ _)).trans
      (State.serveFactory_keeps _)) fun _ => failed
  · exact .ite (fun _ => ((s.clearFactory_keeps.trans (stored _ _ _)).trans (State.factoryAnswer_keeps _ _)).trans (resets _)) fun _ => failed
  · exact ((s.clearFactory_keeps.trans (stored _ _ _)).trans (State.factoryAnswer_keeps _ _)).trans (resets _)

/-! ### Resets and start-up (R70, R161, R188, R189) -/

/-- The Till Table as sector 1 restores it has no queues and no records (R47). -/
theorem State.restore_keeps (s : State) : KeepsBounds s s.restore := by
  have restored : ∀ i, (s.restore.till i).within := by
    have vacant : ∀ b : Option Binding, { vacantTill with binding := b }.within := fun _ => ⟨Nat.zero_le _, nofun⟩
    intro i
    unfold State.till State.restore
    dsimp only
    cases s.store.sec1.contents? with
    | none => simpa using (show vacantTill.within from vacant none)
    | some c => simpa using vacant _
  refine .of_depths rfl fun hs => ?_
  obtain ⟨-, ports⟩ := s.withinDepths_iff.1 hs
  exact (State.withinDepths_iff _).2 ⟨restored, ports⟩

theorem State.sectorFail_keeps (s : State) (n : Nat) (failing : Bool) : KeepsBounds s (s.sectorFail n failing) :=
  .ite (fun _ => .ite (fun _ => s.raise_keeps ..) fun _ => (s.raise_keeps ..).trans (State.contain_keeps _)) fun _ => .refl s

theorem State.startupRaise_keeps (s : State) : KeepsBounds s s.startupRaise := by
  have raised : ∀ x : CounterTable, KeepsBounds s { s with counters := x } := fun _ => .of_same rfl
  exact (raised _).trans (State.kick3_keeps _)

theorem State.endReads_keeps (s : State) (bad0 bad1 bad2 bad3 : Bool) : KeepsBounds s (s.endReads bad0 bad1 bad2 bad3) := by
  have read : ∀ x : KeyStore, KeepsBounds s { s with store := x, rxOpen := true } := fun _ => .of_same rfl
  have started : ∀ (t : State) (x : OpState) (y : Startup), KeepsBounds t { t with opState := x, startup := y } := fun _ _ _ => .of_same rfl
  have restored : ∀ x : KeyStore, KeepsBounds s (State.restore { s with store := x, rxOpen := true }) := fun x =>
    (read x).trans (State.restore_keeps _)
  have checked : ∀ (t : State) (a b c d : Bool),
      KeepsBounds t ((((t.sectorFail 0 a).sectorFail 1 b).sectorFail 2 c).sectorFail 3 d) := fun t a b c d =>
    (((t.sectorFail_keeps 0 a).trans (State.sectorFail_keeps _ 1 b)).trans (State.sectorFail_keeps _ 2 c)).trans (State.sectorFail_keeps _ 3 d)
  unfold State.endReads
  exact ((restored _).trans (checked _ _ _ _ _)).trans
    (.ite (fun _ => ((State.startupRaise_keeps _).trans (started _ _ _)).trans (State.serveFactory_keeps _))
      fun _ => (started _ _ _).trans (State.serveFactory_keeps _))

theorem State.scanSlot_keeps (last : Option Nat) (s : State) (x : NvSlot) : KeepsBounds s (State.scanSlot last s x) := by
  unfold State.scanSlot
  split
  · exact .refl s
  · split
    · exact s.withHolding_keeps _
    · exact (s.withHolding_keeps _).trans (State.raise_keeps _ .tornRecord none none _)
    · exact ((s.withHolding_keeps _).trans (State.raise_keeps _ .recordLost none none _)).trans (State.contain_keeps _)
    · exact s.withHolding_keeps _

/-- The scan keeps the depths and the places; the Offline Card List is rebuilt without a check (R153). -/
theorem State.endScan_keeps (s : State) (headerBad : Bool) (badHeads badMessages : List Nat) :
    (s.withinDepths → (s.endScan headerBad badHeads badMessages).withinDepths)
      ∧ (s.placesSound → (s.endScan headerBad badHeads badMessages).placesSound) := by
  have header : ∀ (t : State) (good : Bool), KeepsBounds t (if good then t else (t.raise .storeHeaderFail).contain) := fun t good =>
    .ite (fun _ => .refl t) fun _ => (t.raise_keeps ..).trans (State.contain_keeps _)
  have scanned : ∀ (l : List NvSlot) (last : Option Nat) (t : State), KeepsBounds t (l.foldl (State.scanSlot last) t) := fun l last =>
    .foldl _ (State.scanSlot_keeps last) l
  have kept := fun (h : HoldingStore) (good : Bool) (last : Option Nat) =>
    ((s.withHolding_keeps h).trans (header _ good)).trans (scanned (s.holding.damage headerBad badHeads badMessages).nv last _)
  constructor
  · exact fun hs => withinDepths_congr rfl ((kept _ _ _).depths hs)
  · exact fun hs => placesSound_congr rfl ((kept _ _ _).places hs)

theorem State.repeatCounterLow_keeps (s : State) : KeepsBounds s s.repeatCounterLow := by
  refine .foldl _ (fun t i => ?_) _ _
  split
  · exact .refl t
  · exact .ite (fun _ => t.raise_keeps ..) fun _ => .refl t

theorem State.endStartup_keeps (s : State) : KeepsBounds s s.endStartup := by
  have tampers : ∀ t : State, KeepsBounds t (if t.tamperIn then t.tamper else t) := fun t => .ite (fun _ => t.tamper_keeps) fun _ => .refl t
  have ended : ∀ t : State, KeepsBounds t { t with startup := .over } := fun _ => .of_same rfl
  have serving : ∀ t : State, KeepsBounds t (if t.cause then t.enterLockdown else { t with opState := .serving }) := fun t =>
    .ite (fun _ => t.enterLockdown_keeps) fun _ => .of_same rfl
  have reports : ∀ t : State, KeepsBounds t (State.probeTick { t with link := { t.link with physicalUp := t.uplink.linkUp } }) := fun t =>
    (t.withLink_keeps { t.link with physicalUp := t.uplink.linkUp }).trans (State.probeTick_keeps _)
  unfold State.endStartup
  exact (((s.repeatCounterLow_keeps.trans (reports _)).trans (tampers _)).trans (ended _)).trans (serving _)

/-! ### Assembly and admission (R28 to R34, R110, R111) -/

theorem State.admission_keeps (s : State) (i : TillIx) (m : TillMsg) : KeepsBounds s (s.admission i m) :=
  .ite (fun _ => s.raise_keeps ..) fun _ => .ite (fun _ => (s.raise_keeps ..).trans (State.replyTo_keeps _ _ _ _)) fun _ =>
    .ite (fun _ => s.replyTo_keeps ..) fun hn => s.setTill_keeps i _ fun h =>
      ⟨by simpa using Nat.not_le.1 hn, h.2⟩

theorem State.endRecord_keeps (s : State) (i : TillIx) : KeepsBounds s (s.setTill i { s.till i with record := none }) :=
  s.setTill_keeps i _ Till.within_noRecord

theorem State.completeMessage_keeps (s : State) (i : TillIx) (r : AssemblyRecord) : KeepsBounds s (s.completeMessage i r) := by
  have ends := s.endRecord_keeps i
  unfold State.completeMessage
  refine ends.trans (.ite (fun _ => State.localReply_keeps ..) fun _ => ?_)
  split
  · exact State.localReply_keeps ..
  · refine .ite (fun _ => State.replyTo_keeps ..) fun _ => ?_
    split
    · exact State.replyTo_keeps ..
    · exact State.admission_keeps ..

theorem State.standRecord_keeps (s : State) (i : TillIx) (r : AssemblyRecord) (hr : r.items.length ≤ Config.itemBytesMax) :
    KeepsBounds s (s.standRecord i r) :=
  .ite (fun _ => s.completeMessage_keeps i r) fun _ => s.setTill_keeps i _ fun h => ⟨h.1, fun x hx => by cases hx; exact hr⟩

theorem State.takeSegment_keeps (s : State) (i : TillIx) (path : ReturnPath) (p : Bytes) : KeepsBounds s (s.takeSegment i path p) := by
  have breaks : ∀ c : Bool, KeepsBounds s (if c then s.raise .segmentOrder (till := some i) else s) := fun c =>
    .ite (fun _ => s.raise_keeps ..) fun _ => .refl s
  unfold State.takeSegment
  refine .ite (fun _ => (breaks _).trans (State.standRecord_keeps _ i _ (List.length_take_le _ _))) fun _ => ?_
  split
  · exact s.raise_keeps ..
  · exact .ite (fun _ => s.standRecord_keeps i _ (List.length_take_le _ _)) fun _ => (s.endRecord_keeps i).trans (State.raise_keeps ..)

/-! ### The receive path (R16, R21 to R25) -/

theorem State.replyFails_keeps (s : State) (e : OutEntry) : KeepsBounds s (s.replyFails e) := s.raise_keeps ..

theorem State.forwardReply_keeps (s : State) (e : OutEntry) (p : Bytes) : KeepsBounds s (s.forwardReply e p) :=
  (((s.removeEntry_keeps e).trans (State.sendReply_keeps _ _ _)).trans (State.linkSuccess_keeps _)).trans (State.raise_keeps ..)

theorem State.takeReply_keeps (s : State) (p : Bytes) : KeepsBounds s (s.takeReply p) := by
  unfold State.takeReply
  refine .ite (fun _ => s.raise_keeps ..) fun _ => ?_
  split
  · exact s.raise_keeps ..
  · split
    · exact s.replyFails_keeps _
    · split
      · exact s.replyFails_keeps _
      · exact ((s.faultSlot_keeps _ _ _).trans (State.replyFails_keeps _ _)).trans (State.contain_keeps _)
      · exact .ite (fun _ => s.forwardReply_keeps _ _) fun _ => s.replyFails_keeps _

theorem State.withDrain_keeps (s : State) (d : Drain) : KeepsBounds s { s with drain := d } := .of_same rfl

theorem State.acknowledge_keeps (s : State) (q : Nat) : KeepsBounds s (s.acknowledge q) := by
  unfold State.acknowledge
  split
  · exact s.raise_keeps ..
  · exact .ite (fun _ => s.raise_keeps ..) fun _ =>
      .ite (fun _ => ((s.leaveQueue_keeps .drain).trans (State.withDrain_keeps _ _)).trans (State.requestFree_keeps _ _ _))
        fun _ => s.requestFree_keeps _ _

theorem State.takeAck_keeps (s : State) (p : Bytes) : KeepsBounds s (s.takeAck p) :=
  .ite (fun _ => s.raise_keeps ..) fun _ => .ite (fun _ => s.acknowledge_keeps _) fun _ => s.raise_keeps ..

theorem State.takeProbeAnswer_keeps (s : State) (p : Bytes) : KeepsBounds s (s.takeProbeAnswer p) :=
  .ite (fun _ => (s.unawait_keeps _).trans (State.linkSuccess_keeps _)) fun _ => s.raise_keeps ..

theorem State.answerAddress_keeps (s : State) (e : EthFrame) : KeepsBounds s (s.answerAddress e) :=
  .ite (fun _ => s.raise_keeps ..) fun _ => s.offerUplink_keeps _ _ nofun

theorem State.arrive_keeps (s : State) (f : Bytes) : KeepsBounds s (s.arrive f) := by
  refine .ite (fun room => .of_depths rfl fun hs => ?_) fun _ => s.raise_keeps ..
  obtain ⟨tills, lane, uplink, -⟩ := s.withinDepths_iff.1 hs
  exact (State.withinDepths_iff _).2 ⟨tills, lane, uplink, by simpa using room⟩

theorem State.takePayment_keeps (s : State) (e : EthFrame) (v : IpView) : KeepsBounds s (s.takePayment e v) := by
  unfold State.takePayment
  split
  · exact s.raise_keeps ..
  · exact .ite (fun _ => s.raise_keeps ..) fun _ => s.takeSegment_keeps _ _ _

theorem State.classifyLane_keeps (s : State) (f : Bytes) : KeepsBounds s (s.classifyLane f) :=
  .ite (fun _ => s.raise_keeps ..) fun _ => .ite (fun _ => s.raise_keeps ..) fun _ => .ite (fun _ => s.raise_keeps ..) fun _ =>
    .ite (fun _ => s.bridge_keeps _ _) fun _ => .ite (fun _ => s.raise_keeps ..) fun _ =>
      .ite (fun _ => .ite (fun _ => s.takePayment_keeps _ _) fun _ => s.raise_keeps ..) fun _ => s.bridge_keeps _ _

theorem State.classifyUplink_keeps (s : State) (f : Bytes) : KeepsBounds s (s.classifyUplink f) := by
  unfold State.classifyUplink
  refine .ite (fun _ => s.raise_keeps ..) fun _ => .ite (fun _ => .ite (fun _ => s.arrive_keeps f) fun _ => s.raise_keeps ..) fun _ =>
    .ite (fun _ => s.answerAddress_keeps _) fun _ => .ite (fun _ => s.raise_keeps ..) fun _ => ?_
  split
  · exact s.takeReply_keeps _
  · exact s.takeAck_keeps _
  · exact s.takeProbeAnswer_keeps _
  · exact .ite (fun _ => s.raise_keeps ..) fun _ => s.bridge_keeps _ _

theorem State.receive_keeps (s : State) (p : Port) (f : Bytes) : KeepsBounds s (s.receive p f) := by
  refine .ite (fun _ => s.raise_keeps ..) fun _ => ?_
  cases p <;> [exact s.classifyLane_keeps f; exact s.classifyUplink_keeps f]

/-! ### The transmit side and the physical links (R17, R19, R20) -/

theorem State.startSending_keeps (s : State) (p : Port) : KeepsBounds s (s.startSending p) := by
  unfold State.startSending
  split
  · rename_i f rest hq
    have taken : KeepsBounds s (s.setPort p { s.port p with priority := rest, sending := some f }) :=
      s.setPort_keeps p _ fun h => ⟨(Nat.le_succ _).trans (by simpa [hq] using h.1), h.2⟩
    cases p
    · exact taken
    · exact taken.trans (State.serveUplink_keeps _)
  · rename_i f rest _ hq
    exact s.setPort_keeps p _ fun h => ⟨h.1, (Nat.le_succ _).trans (by simpa [hq] using h.2)⟩
  · exact .refl s

theorem State.finishSending_keeps (s : State) (p : Port) (f : TxFrame) : KeepsBounds s (s.finishSending p f) := by
  have ended : KeepsBounds s (s.setPort p { s.port p with sending := none }) := s.setPort_keeps p _ id
  have leaves : ∀ t : State, KeepsBounds t (State.resetIfGone { t with mgmt := { t.mgmt with reset := .gone } }) := fun t =>
    (t.withMgmt_keeps { t.mgmt with reset := .gone } le_rfl).trans (State.resetIfGone_keeps _)
  exact ended.trans (.ite (fun _ => leaves _) fun _ => .refl _)

theorem State.loseLink_keeps (s : State) (p : Port) : KeepsBounds s (s.loseLink p) := by
  have discarded : KeepsBounds s (((s.port p).priority ++ (s.port p).bridge).foldl State.discardFrame
      (s.setPort p { s.port p with priority := [], bridge := [], linkUp := false })) :=
    (s.setPort_keeps p _ fun _ => ⟨Nat.zero_le _, Nat.zero_le _⟩).trans (.foldl _ State.discardFrame_keeps _ _)
  have reported : ∀ t : State, KeepsBounds t (if s.monitoring then t.physicalLoss else t) := fun t =>
    .ite (fun _ => t.physicalLoss_keeps) fun _ => .refl t
  have served : ∀ t : State, KeepsBounds t (if t.monitoring then t.physicalLoss else t).serveUplink := fun t =>
    (KeepsBounds.ite (fun _ => t.physicalLoss_keeps) fun _ => .refl t).trans (State.serveUplink_keeps _)
  cases p
  · exact discarded
  · exact discarded.trans (served _)

theorem State.restoreLink_keeps (s : State) (p : Port) : KeepsBounds s (s.setPort p { s.port p with linkUp := true }) :=
  s.setPort_keeps p _ id

/-! ### The rows -/

theorem execSectorReadsEnd_keeps (s : State) (bad0 bad1 bad2 bad3 : Bool) : NextKeeps s (execSectorReadsEnd bad0 bad1 bad2 bad3 s) :=
  .next (.ite (fun _ => s.endReads_keeps ..) fun _ => .refl s)

theorem execStartupEnd_keeps (s : State) : NextKeeps s (execStartupEnd s) :=
  .next (.ite (fun _ => s.endStartup_keeps.trans (State.settle_keeps _)) fun _ => .refl s)

theorem execAssemblyTimeout_keeps (s : State) (i : TillIx) : NextKeeps s (execAssemblyTimeout i s) :=
  .next (.ite (fun _ => (s.endRecord_keeps i).trans (State.raise_keeps ..)) fun _ => .refl s)

theorem execRxFrame_keeps (s : State) (p : Port) (f : Bytes) : NextKeeps s (execRxFrame p f s) :=
  .next (.ite (fun _ => (s.receive_keeps p f).trans (State.settle_keeps _)) fun _ => .refl s)

theorem execTransmitStart_keeps (s : State) (p : Port) : NextKeeps s (execTransmitStart p s) :=
  .next (.ite (fun _ => (s.startSending_keeps p).trans (State.settle_keeps _)) fun _ => .refl s)

theorem execTransmitEnd_keeps (s : State) (p : Port) : NextKeeps s (execTransmitEnd p s) := by
  refine .next ?_
  split
  · exact .refl s
  · exact s.finishSending_keeps p _

theorem execPhysicalLinkLost_keeps (s : State) (p : Port) : NextKeeps s (execPhysicalLinkLost p s) :=
  .next (.ite (fun _ => (s.loseLink_keeps p).trans (State.settle_keeps _)) fun _ => .refl s)

theorem execPhysicalLinkRestored_keeps (s : State) (p : Port) : NextKeeps s (execPhysicalLinkRestored p s) := by
  refine .next (.ite (fun _ => .refl s) fun _ => ?_)
  cases p
  · exact s.restoreLink_keeps .lane
  · exact (s.restoreLink_keeps .uplink).trans (.ite (fun _ => State.physicalReturn_keeps _) fun _ => .refl _)

end Sys2Proof.Machine
end

section
/-! PROOFS. Bounds, fifth part: what the phases of a Wrap Context, the expiries and the ends of writes and store operations keep (sections 5 to 12). -/

namespace Sys2Proof.Machine

/-! ### Phases (R93, R95 to R104) -/

theorem State.inPhase_some {s : State} {i : CtxIx} {p : Phase} {w : Wrap} {m : TillMsg} (h : s.inPhase i p = some (w, m)) :
    (s.ctx i).wrap = some w ∧ (s.ctx i).phase = p := by
  unfold State.inPhase at h
  split at h
  · cases h
  · rename_i v hv
    split at h
    · rename_i hp
      obtain ⟨_, -, e⟩ := Option.map_eq_some_iff.1 h
      cases e
      exact ⟨hv, hp⟩
    · cases h

/-- A context between RESERVED and DECIDING goes on with its wrap, to HOLDING if it takes an outcome in hand. -/
theorem State.moveCtx_keeps (s : State) (i : CtxIx) (w : Wrap) (x : Ctx) (hw : (s.ctx i).wrap = some w) (hp : (s.ctx i).phase ≠ .emitting)
    (hh : (s.ctx i).phase ≠ .holding)
    (hx : ∀ v, x.wrap = some v → v.place = w.place ∧ (v.inHand = w.inHand ∨ x.phase = .holding)) : KeepsBounds s (s.setCtx i x) := by
  refine s.setCtx_keeps i x hp fun hs => ?_
  obtain ⟨place, hand⟩ := hs.phased i w hw
  have unplaced : ∀ v, x.wrap = some v → v.place = false := fun v hv => by
    rw [(hx v hv).1]
    by_contra hc
    exact hp (place (by simpa using hc))
  refine ⟨fun v hv => ⟨fun hc => ?_, fun hc => ?_⟩, ?_⟩
  · rw [unplaced v hv] at hc; cases hc
  · rcases (hx v hv).2 with e | e
    · exact absurd (hand (e ▸ hc)) hh
    · exact e
  · cases hv : x.wrap with
    | none => exact Ctx.holdsPlace_of_none hv
    | some v => rw [Ctx.holdsPlace_of_wrap hv, unplaced v hv]

/-- A context outside EMITTING ends its wrap with a reply. -/
theorem State.endWrap_keeps (s : State) (i : CtxIx) (w : Wrap) (m : TillMsg) (x : LocalReply) (hp : (s.ctx i).phase ≠ .emitting) :
    KeepsBounds s (s.endWrap i w m x) :=
  (s.replyTo_keeps w.till m x).endsIdle i fun _ => by
    rw [show (s.replyTo w.till m x).ctx i = s.ctx i from State.ctx_localReply ..]
    exact hp

theorem State.takeFingerprint_keeps (s : State) (w : Wrap) (m : TillMsg) : KeepsBounds s (s.takeFingerprint w m).1 := by
  unfold State.takeFingerprint
  split
  · split
    · exact .refl s
    · exact s.faultFp_keeps _
  · exact .refl s

theorem State.ctx_takeFingerprint (s : State) (w : Wrap) (m : TillMsg) (i : CtxIx) : (s.takeFingerprint w m).1.ctx i = s.ctx i := by
  unfold State.takeFingerprint
  split
  · split
    · rfl
    · rw [State.ctx, State.faultFp, State.request2_frame]
      rfl
  · rfl

theorem State.ctx_faultSlot (s : State) (k : SlotIx) (gen : Nat) (till : TillIx) (i : CtxIx) : (s.faultSlot k gen till).ctx i = s.ctx i := by
  rw [State.ctx, s.faultSlot_frame k gen till]
  rfl

theorem State.deriveKeys_keeps (s : State) (i : CtxIx) (w : Wrap) (m : TillMsg) (r : KeyRecord) (h : s.inPhase i .reserved = some (w, m)) :
    KeepsBounds s (s.deriveKeys i w m r) := by
  obtain ⟨hw, hp⟩ := State.inPhase_some h
  have derived : ∀ x : Wrap, x.place = w.place → x.inHand = w.inHand →
      KeepsBounds (s.takeFingerprint w m).1 ((s.takeFingerprint w m).1.setCtx i { phase := .derivingKeys, wrap := some x }) := fun x place hand =>
    State.moveCtx_keeps _ i w _ (by rw [s.ctx_takeFingerprint, hw]) (by rw [s.ctx_takeFingerprint, hp]; decide)
      (by rw [s.ctx_takeFingerprint, hp]; decide) fun v hv => by cases hv; exact ⟨place, .inl hand⟩
  unfold State.deriveKeys
  exact ((s.takeFingerprint_keeps w m).trans (derived _ (by rfl) (by rfl))).trans (.ite (fun _ => State.contain_keeps _) fun _ => .refl _)

theorem State.deriveFails_keeps (s : State) (i : CtxIx) (w : Wrap) (m : TillMsg) (r : KeyRecord) (hp : (s.ctx i).phase ≠ .emitting) :
    KeepsBounds s (s.deriveFails i w m r) := by
  have faulted := s.faultSlot_keeps w.slot r.gen w.till
  unfold State.deriveFails
  dsimp only
  split
  · exact faulted.trans (State.endWrap_keeps _ i w m _ (by rw [s.ctx_faultSlot]; exact hp))
  · exact faulted.trans (State.contain_keeps _)

theorem execDeriving_keeps (s : State) (i : CtxIx) : NextKeeps s (execDeriving i s) := by
  refine .next ?_
  split
  · exact .refl s
  · rename_i w m h
    have hp : (s.ctx i).phase ≠ .emitting := by rw [(State.inPhase_some h).2]; decide
    split
    · exact .refl s
    · split
      · exact (s.deriveKeys_keeps i w m _ h).trans (State.settle_keeps _)
      · exact (s.endWrap_keeps i w m _ hp).trans (State.settle_keeps _)
      · exact (s.deriveFails_keeps i w m _ hp).trans (State.settle_keeps _)

theorem execWrapping_keeps (s : State) (i : CtxIx) : NextKeeps s (execWrapping i s) := by
  refine .next ?_
  split
  · exact .refl s
  · rename_i w m h
    obtain ⟨hw, hp⟩ := State.inPhase_some h
    split
    · exact .refl s
    · split
      · exact (s.endWrap_keeps i w m _ (by rw [hp]; decide)).trans (State.settle_keeps _)
      · exact s.moveCtx_keeps i w _ hw (by rw [hp]; decide) (by rw [hp]; decide) fun v hv => by cases hv; exact ⟨rfl, .inl rfl⟩

theorem execAuthenticating_keeps (s : State) (i : CtxIx) : NextKeeps s (execAuthenticating i s) := by
  refine .next ?_
  split
  · exact .refl s
  · rename_i w m h
    obtain ⟨hw, hp⟩ := State.inPhase_some h
    split
    · exact .refl s
    · exact (s.moveCtx_keeps i w _ hw (by rw [hp]; decide) (by rw [hp]; decide) fun v hv => by cases hv; exact ⟨rfl, .inl rfl⟩).trans
        (State.setTill_keeps _ _ _ id)

section Deciding

variable (s : State) (i : CtxIx) (w : Wrap) (m : TillMsg) (hw : (s.ctx i).wrap = some w) (hp : (s.ctx i).phase = .deciding)
include hw hp

theorem State.beginVoid_keeps (slot : Nat) : KeepsBounds s (s.beginVoid i w m slot) :=
  (s.moveCtx_keeps i w _ hw (by rw [hp]; decide) (by rw [hp]; decide) fun v hv => by cases hv; exact ⟨rfl, .inr rfl⟩).trans
    (State.requestFree_keeps _ _ _)

theorem State.goOffline_keeps : KeepsBounds s (s.goOffline i w m) := by
  have ends : ∀ x : LocalReply, KeepsBounds s (s.endWrap i w m x) := fun x => s.endWrap_keeps i w m x (by rw [hp]; decide)
  have holds : ∀ (t : State) (x : Wrap), t.ctx i = s.ctx i → x.place = w.place →
      KeepsBounds t (t.setCtx i { phase := .holding, wrap := some x }) := fun t x ht place =>
    t.moveCtx_keeps i w _ (ht ▸ hw) (by rw [ht, hp]; decide) (by rw [ht, hp]; decide) fun v hv => by cases hv; exact ⟨place, .inr rfl⟩
  unfold State.goOffline
  refine .ite (fun _ => ends _) fun _ => .ite (fun _ => ends _) fun _ => ?_
  dsimp only
  split
  · exact ends _
  · rename_i h
    exact ((s.acceptStandIn_keeps _ _ _ (s.standInOutcome_accepts _ _ _ h)).trans (holds _ _ (by rfl) (by rfl))).trans (State.requestWrite_keeps _ _ _ _)

theorem State.route_keeps : KeepsBounds s (s.route i w m) :=
  .ite (fun _ => s.goOffline_keeps i w m hw hp) fun _ =>
    .ite (fun _ => s.enterEmitting_keeps i w hw (by rw [hp]; decide) (by rw [hp]; decide)) fun _ => s.goOffline_keeps i w m hw hp

end Deciding

theorem execDeciding_keeps (s : State) (i : CtxIx) : NextKeeps s (execDeciding i s) := by
  refine .next ?_
  split
  · exact .refl s
  · rename_i w m h
    obtain ⟨hw, hp⟩ := State.inPhase_some h
    obtain ⟨t, ht⟩ : ∃ t : State, t = s.setCtx i { s.ctx i with phase := .deciding } := ⟨_, rfl⟩
    have here : t.ctx i = { s.ctx i with phase := .deciding } := ht ▸ s.ctx_setCtx_self ..
    have tw : (t.ctx i).wrap = some w := (congrArg Ctx.wrap here).trans hw
    have tp : (t.ctx i).phase = .deciding := congrArg Ctx.phase here
    have entered : KeepsBounds s t := ht ▸ s.moveCtx_keeps i w _ hw (by rw [hp]; decide) (by rw [hp]; decide) fun v hv =>
      ⟨congrArg Wrap.place (Option.some.inj (hv.symm.trans hw)), .inl (congrArg Wrap.inHand (Option.some.inj (hv.symm.trans hw)))⟩
    dsimp only
    rw [← ht]
    refine (entered.trans ?_).trans (State.settle_keeps _)
    split
    · exact t.route_keeps i w m tw tp
    · exact t.endWrap_keeps i w m _ (by rw [tp]; decide)
    · exact t.beginVoid_keeps i w m tw tp _

/-! ### Expiries (R127 to R130, R139, R140, R143, R167, R178) -/

theorem State.standInOnExpiry_keeps (s : State) (e : OutEntry) (copy : Bytes) : KeepsBounds s (s.standInOnExpiry e copy) := by
  unfold State.standInOnExpiry
  refine .ite (fun _ => s.localReply_keeps ..) fun _ => ?_
  dsimp only
  split
  · exact s.localReply_keeps ..
  · rename_i h
    have noted : ∀ (t : State) (n : List HoldNote), KeepsBounds t { t with holdNotes := n } := fun _ _ => .of_same rfl
    exact ((s.acceptStandIn_keeps _ _ _ (s.standInOutcome_accepts _ _ _ h)).trans (noted _ _)).trans (State.requestWrite_keeps _ _ _ _)

theorem State.answerExpiry_keeps (s : State) (e : OutEntry) : KeepsBounds s (s.answerExpiry e) := by
  unfold State.answerExpiry
  split
  · exact s.localReply_keeps ..
  · exact .ite (fun _ => s.standInOnExpiry_keeps _ _) fun _ => s.localReply_keeps ..

theorem State.expireEntry_keeps (s : State) (e : OutEntry) : KeepsBounds s (s.expireEntry e) :=
  (((s.removeEntry_keeps e).trans (State.linkFailure_keeps _)).trans (State.raise_keeps ..)).trans (State.answerExpiry_keeps _ e)

theorem State.timeOutDrain_keeps (s : State) : KeepsBounds s s.timeOutDrain :=
  (((s.raise_keeps ..).trans (State.linkFailure_keeps _)).trans (State.restartSettle_keeps _)).trans (State.leaveRunning_keeps _)

theorem State.timeOutQuiet_keeps (s : State) : KeepsBounds s s.timeOutQuiet := (s.mapJobs_keeps _).trans (State.raise_keeps ..)

theorem execReplyWindowExpiry_keeps (s : State) (till : TillIx) (reference : Nat) : NextKeeps s (execReplyWindowExpiry till reference s) := by
  refine .next ?_
  split
  · exact .refl s
  · exact (s.expireEntry_keeps _).trans (State.settle_keeps _)

theorem execProbeDeadlineExpiry_keeps (s : State) (n : Nat) : NextKeeps s (execProbeDeadlineExpiry n s) :=
  .next (.ite (fun _ => (((s.unawait_keeps n).trans (State.linkFailure_keeps _)).trans (State.raise_keeps ..)).trans (State.settle_keeps _))
    fun _ => .refl s)

theorem execSettleTimerExpiry_keeps (s : State) : NextKeeps s (execSettleTimerExpiry s) :=
  .next (.ite (fun _ => ((s.withLink_keeps { s.link with settleTimer := none, settled := true }).trans (State.tryRun_keeps _)).trans
    (State.settle_keeps _)) fun _ => .refl s)

/-! ### The ends of Key Store writes (R52, R53, R60, R68, R69, R72, R73, R75, R185) -/

theorem State.withCounters_keeps (s : State) (x : CounterTable) : KeepsBounds s { s with counters := x } := .of_same rfl

theorem State.withStore_keeps (s : State) (x : KeyStore) : KeepsBounds s { s with store := x } := .of_same rfl

theorem State.end3_keeps (s : State) : KeepsBounds s s.end3 :=
  ((s.withCounters_keeps { s.counters with inFlight := none }).trans (State.mapJobs_keeps _ _)).trans (State.kick3_keeps _)

theorem State.end2_keeps (s : State) : KeepsBounds s s.end2 := by
  have ended : KeepsBounds s { s with writer2 := { s.writer2 with inFlight := none } } := .of_same rfl
  exact (ended.trans (State.mapJobs_keeps _ _)).trans (State.kick2_keeps _)

theorem State.end1_keeps (s : State) : KeepsBounds s s.end1 := by
  have ended : KeepsBounds s { s with writer1 := { s.writer1 with inFlight := none } } := .of_same rfl
  exact (ended.trans (State.mapJobs_keeps _ _)).trans (State.kick1_keeps _)

theorem State.endRaise_keeps (s : State) : KeepsBounds s s.endRaise := by
  unfold State.endRaise
  split
  · exact .of_same rfl
  · exact .refl s

theorem State.endPending_keeps (s : State) (k : SlotIx) : KeepsBounds s (s.endPending k) :=
  (s.withCounters_keeps { s.counters with pending := s.counters.pending.filter (fun p => p.1 != k) }).trans (State.mapJobs_keeps _ _)

theorem State.activationDone_keeps (s : State) (k : SlotIx) : KeepsBounds s (s.activationDone k) := by
  have refreshed : ∀ t : State, KeepsBounds t { t with counters :=
      { t.counters with entries := t.counters.entries.set k (Vector.replicate 128 freshEntry) } } := fun _ => .of_same rfl
  exact (((s.endPending_keeps k).trans (refreshed _)).trans (State.setSlot_keeps _ _ _)).trans (State.raise_keeps ..)

theorem State.raiseDone_keeps (s : State) (p : SlotIx × TillIx) : KeepsBounds s (s.raiseDone p) := s.setCtr_keeps ..

theorem State.completeWrite3_keeps (s : State) (w : Write3) : KeepsBounds s (s.completeWrite3 w) :=
  (s.withStore_keeps { s.store with sec3 := if w.erase then .blank else .good w.contents }).trans
    (.ite (fun _ => .refl _) fun _ => (KeepsBounds.foldl _ State.raiseDone_keeps _ _).trans (.foldl _ State.activationDone_keeps _ _))

theorem State.raiseFailed_keeps (s : State) (p : SlotIx × TillIx) : KeepsBounds s (s.raiseFailed p) := s.setCtr_keeps ..

theorem State.activationFailed_keeps (s : State) (k : SlotIx) : KeepsBounds s (s.activationFailed k) := by
  have marked : ∀ c, KeepsBounds s { s with counters := { s.counters with entries := c } } := fun _ => .of_same rfl
  exact (marked _).trans (State.setSlot_keeps _ _ _)

theorem State.refuseHalted_keeps (s : State) : KeepsBounds s s.refuseHalted :=
  .foldl _ (fun t i => .ite (fun _ => t.refuseIfBarred_keeps i) fun _ => .refl t) _ _

theorem State.failWrite3_keeps (s : State) (w : Write3) : KeepsBounds s (s.failWrite3 w) := by
  have marks : ∀ t : State, KeepsBounds t
      (if w.void then t else (w.activations.foldl State.activationFailed (w.raises.foldl State.raiseFailed t)).refuseHalted) := fun t =>
    .ite (fun _ => .refl t) fun _ => ((KeepsBounds.foldl _ State.raiseFailed_keeps _ _).trans
      (.foldl _ State.activationFailed_keeps _ _)).trans (State.refuseHalted_keeps _)
  exact .ite (fun _ => (s.raise_keeps ..).trans (State.contain_keeps _))
    fun _ => ((s.raise_keeps ..).trans (marks _)).trans (State.contain_keeps _)

theorem State.requestColumn_keeps (s : State) (k : SlotIx) : KeepsBounds s (s.requestColumn k) := by
  have wanted : ∀ t : State, KeepsBounds t { t with counters :=
      { t.counters with pending := t.counters.pending.filter (fun p => p.1 != k), activations := t.counters.activations ++ [k] } } :=
    fun _ => .of_same rfl
  exact ((s.mapJobs_keeps _).trans (wanted _)).trans (State.kick3_keeps _)

theorem State.addition_keeps (void : Bool) (s : State) (a : KeyAddition) : KeepsBounds s (State.addition void s a) := by
  have keyed : ∀ k : KeyTable, KeepsBounds s { s with keys := k } := fun _ => .of_same rfl
  cases a with
  | load k r =>
    have set : KeepsBounds s (if void then s else s.setSlot k { s.slot k with staged := some r, busy := false }) :=
      .ite (fun _ => .refl s) fun _ => s.setSlot_keeps ..
    exact set.trans (State.raise_keeps ..)
  | loadFp r =>
    have set : KeepsBounds s (if void then s else { s with keys := { s.keys with fp := some r, fpFloor := r.gen } }) :=
      .ite (fun _ => .refl s) fun _ => keyed _
    exact set.trans (State.raise_keeps ..)
  | activate k => exact .ite (fun _ => .refl s) fun _ => (s.setSlot_keeps ..).trans (State.requestColumn_keeps _ _)

theorem State.requestErase3_keeps (s : State) : KeepsBounds s s.requestErase3 := by
  have wanted : ∀ t : State, KeepsBounds t { t with counters := { t.counters with eraseWanted := true } } := fun _ => .of_same rfl
  exact ((s.mapJobs_keeps _).trans (wanted _)).trans (State.kick3_keeps _)

theorem State.additionFails_keeps (s : State) (a : KeyAddition) : KeepsBounds s (s.additionFails a) := by
  cases a with
  | load k _ => exact s.setSlot_keeps ..
  | loadFp _ => exact .refl s
  | activate k => exact s.setSlot_keeps ..

theorem State.dropAdditions_keeps (s : State) (w : Write2) : KeepsBounds s (s.dropAdditions w) :=
  .ite (fun _ => .refl s) fun _ => .foldl _ State.additionFails_keeps _ _

theorem State.completeWrite2_keeps (s : State) (w : Write2) : KeepsBounds s (s.completeWrite2 w) := by
  have made : ∀ t : State, KeepsBounds t (if w.contents.isNone then t.dropAdditions w else w.additions.foldl (State.addition w.void) t) :=
    fun t => .ite (fun _ => t.dropAdditions_keeps w) fun _ => .foldl _ (State.addition_keeps w.void) _ _
  exact ((s.withStore_keeps { s.store with sec2 := writtenSector w.contents }).trans (made _)).trans
    (.ite (fun _ => State.requestErase3_keeps _) fun _ => .refl _)

theorem State.failWrite2_keeps (s : State) (w : Write2) : KeepsBounds s (s.failWrite2 w) :=
  ((s.dropAdditions_keeps w).trans (State.raise_keeps ..)).trans (State.contain_keeps _)

theorem execCheckpointWriteComplete_keeps (s : State) : NextKeeps s (execCheckpointWriteComplete s) := by
  refine .next ?_
  split
  · exact .refl s
  · exact (((s.completeWrite3_keeps _).trans (State.endRaise_keeps _)).trans (State.end3_keeps _)).trans (State.settle_keeps _)

theorem execCheckpointWriteFail_keeps (s : State) : NextKeeps s (execCheckpointWriteFail s) := by
  refine .next ?_
  split
  · exact .refl s
  · exact (((s.failWrite3_keeps _).trans (State.endRaise_keeps _)).trans (State.end3_keeps _)).trans (State.settle_keeps _)

theorem execSectorWriteComplete_keeps (s : State) (x : WSector) : NextKeeps s (execSectorWriteComplete x s) := by
  refine .next ?_
  cases x with
  | settings =>
    dsimp only
    split
    · exact .refl s
    · rename_i c _
      exact ((s.withStore_keeps { s.store with sec1 := writtenSector c }).trans (State.end1_keeps _)).trans (State.settle_keeps _)
  | keys =>
    dsimp only
    split
    · exact .refl s
    · exact ((s.completeWrite2_keeps _).trans (State.end2_keeps _)).trans (State.settle_keeps _)

theorem execSectorWriteFail_keeps (s : State) (x : WSector) : NextKeeps s (execSectorWriteFail x s) := by
  refine .next ?_
  cases x with
  | settings =>
    dsimp only
    split
    · exact .refl s
    · exact (((s.raise_keeps ..).trans (State.contain_keeps _)).trans (State.end1_keeps _)).trans (State.settle_keeps _)
  | keys =>
    dsimp only
    split
    · exact .refl s
    · exact .ite (fun _ => (s.failWrite2_keeps _).trans (State.settle_keeps _))
        fun _ => ((s.failWrite2_keeps _).trans (State.end2_keeps _)).trans (State.settle_keeps _)

/-! ### The ends of Holding Store operations (R100, R105, R130, R157 to R159, R162) -/

theorem State.countStoodIn_keeps (s : State) (i : TillIx) : KeepsBounds s (s.countStoodIn i) := s.setTill_keeps i _ id

theorem State.writeDone_keeps (s : State) (slot : Nat) (by_ : Requester) (r : HeldRecord) : KeepsBounds s (s.writeDone slot by_ r) := by
  have told : ∀ t : State, KeepsBounds t
      (match by_ with
      | .ctx i => t.endHolding i .held
      | .matcher => t.answerNote r.head.seq .held
      | .drain => t
      | .nobody => t) := by
    intro t
    cases by_ with
    | ctx i => exact t.endHolding_keeps _ _
    | matcher => exact t.answerNote_keeps _ _
    | drain => exact .refl t
    | nobody => exact .refl t
  exact ((s.withHolding_keeps _).trans (State.countStoodIn_keeps _ r.head.till)).trans (told _)

theorem State.writeFailed_keeps (s : State) (slot : Nat) (by_ : Requester) (r : HeldRecord) : KeepsBounds s (s.writeFailed slot by_ r) := by
  have bad : ∀ (n : Nat) (h : HoldingStore), KeepsBounds s { s with free := n, holding := h } := fun _ _ => .of_same rfl
  have told : ∀ t : State, KeepsBounds t
      (match by_ with
      | .ctx i => if t.settings.store.policy = Containment.lenient then t.endHolding i (.declined .storeFault) else t
      | .matcher => t.answerNote r.head.seq (.declined .storeFault)
      | .drain => t
      | .nobody => t) := by
    intro t
    cases by_ with
    | ctx i => exact .ite (fun _ => t.endHolding_keeps _ _) fun _ => .refl t
    | matcher => exact t.answerNote_keeps _ _
    | drain => exact .refl t
    | nobody => exact .refl t
  exact ((((bad _ _).trans (State.raise_keeps _ .nvWriteFail none none _)).trans (State.release_keeps _ r.head)).trans (told _)).trans
    (State.contain_keeps _)

theorem State.freeDone_keeps (s : State) (slot : Nat) (by_ : Requester) : KeepsBounds s (s.freeDone slot by_) := by
  unfold State.freeDone
  split
  · exact .refl s
  · rename_i l _
    have told : ∀ t : State, KeepsBounds t
        (match by_ with
        | .ctx i => t.endHolding i .voidedLocal
        | .matcher => t
        | .drain => { t with drain := { t.drain with tally := t.drain.tally.add l } }
        | .nobody => t) := by
      intro t
      cases by_ with
      | ctx i => exact t.endHolding_keeps _ _
      | matcher => exact .refl t
      | drain => exact t.withDrain_keeps _
      | nobody => exact .refl t
    exact (((s.withHolding_keeps _).trans (State.release_keeps _ l.head)).trans (told _)).trans (State.checkDrain_keeps _)

theorem State.freeFailed_keeps (s : State) (slot : Nat) (by_ : Requester) : KeepsBounds s (s.freeFailed slot by_) := by
  have told : ∀ t : State, KeepsBounds t
      (match by_ with
      | .ctx i => t.endHolding i (.refused .busy)
      | .matcher => t
      | .drain => t
      | .nobody => t) := by
    intro t
    cases by_ with
    | ctx i => exact t.endHolding_keeps _ _
    | matcher => exact .refl t
    | drain => exact .refl t
    | nobody => exact .refl t
  exact ((((s.withHolding_keeps _).trans (State.raise_keeps _ .nvWriteFail none none _)).trans (told _)).trans (State.checkDrain_keeps _)).trans
    (State.contain_keeps _)

theorem State.formatDone_keeps (s : State) : KeepsBounds s s.formatDone := by
  have formatted : ∀ t : State, KeepsBounds t { t with holding := formattedStore, standIn := emptyStandIn, drain := resetDrain } := fun _ =>
    ⟨withinDepths_congr rfl, placesSound_congr rfl, fun _ => Nat.zero_le _⟩
  exact ((s.leaveQueue_keeps .drain).trans (formatted _)).trans (State.mapJobs_keeps _ _)

/-- The operation in flight has ended with its effect, and what followed it in the store. -/
theorem State.opEnds_keeps {s t : State} (h : KeepsBounds s.endOp t) : KeepsBounds s t.afterOp.settle :=
  ((s.endOp_keeps.trans h).trans (State.afterOp_keeps _)).trans (State.settle_keeps _)

theorem execRecordWriteComplete_keeps (s : State) : NextKeeps s (execRecordWriteComplete s) := by
  refine .next ?_
  split <;> [exact State.opEnds_keeps (State.writeDone_keeps _ _ _ _); exact .refl s; exact .refl s]

theorem execRecordWriteFail_keeps (s : State) : NextKeeps s (execRecordWriteFail s) := by
  refine .next ?_
  split <;> [exact State.opEnds_keeps (State.writeFailed_keeps _ _ _ _); exact .refl s; exact .refl s]

theorem execRecordFreeComplete_keeps (s : State) : NextKeeps s (execRecordFreeComplete s) := by
  refine .next ?_
  split <;> [exact State.opEnds_keeps (State.freeDone_keeps _ _ _); exact .refl s; exact .refl s]

theorem execRecordFreeFail_keeps (s : State) : NextKeeps s (execRecordFreeFail s) := by
  refine .next ?_
  split <;> [exact State.opEnds_keeps (State.freeFailed_keeps _ _ _); exact .refl s; exact .refl s]

end Sys2Proof.Machine
end

section
/-! PROOFS. Bounds, last part: what the management commands keep (section 14), and every step: it settles O9 and O19. -/

namespace Sys2Proof.Machine

/-! ### The Management Unit (R172 to R175) -/

theorem State.respond_keeps (s : State) (r : Response) : KeepsBounds s (s.respond r) := .of_same rfl

theorem State.answerUncarried_keeps (s : State) (e : EthFrame) (number code : Nat) (status : Status) :
    KeepsBounds s (s.answerUncarried e number code status) := (s.addJob_keeps _).trans (State.request1_keeps _)

theorem State.acceptCommand_keeps (s : State) (e : EthFrame) (number code : Nat) (operands : Bytes) :
    KeepsBounds s (s.acceptCommand e number code operands) := by
  refine (s.withMgmt_keeps { s.mgmt with last := number } le_rfl).trans ?_
  unfold State.acceptCommand
  split
  · exact (State.raise_keeps ..).trans (State.answerUncarried_keeps ..)
  · exact .ite (fun _ => State.answerUncarried_keeps ..) fun _ => .of_same rfl

theorem State.takeFrame_keeps (s : State) (f : Bytes) : KeepsBounds s (s.takeFrame f) := by
  unfold State.takeFrame
  refine .ite (fun _ => s.raise_keeps ..) fun _ => ?_
  split
  · exact s.raise_keeps ..
  · exact .ite (fun _ => (s.raise_keeps ..).trans (State.respond_keeps _ _)) fun _ => s.acceptCommand_keeps _ _ _ _

theorem execMgmtFrameTake_keeps (s : State) : NextKeeps s (execMgmtFrameTake s) := by
  refine .next ?_
  split
  · exact .refl s
  · rename_i f rest h
    have taken : KeepsBounds s { s with mgmt := { s.mgmt with arrivals := rest } } :=
      s.withMgmt_keeps { s.mgmt with arrivals := rest } (by rw [h]; exact Nat.le_succ _)
    exact .ite (fun _ => .refl s) fun _ => (taken.trans (State.takeFrame_keeps _ f)).trans (State.settle_keeps _)

/-- A command's own row keeps what its effect keeps. -/
theorem State.carry_keeps (s : State) (c : Instr) (f : Taken → State → State) (h : ∀ t u, KeepsBounds u (f t u)) :
    NextKeeps s (.next (s.carry c f)) := by
  refine .next ?_
  unfold State.carry
  split
  · exact .refl s
  · exact .ite (fun _ => (s.withMgmt_keeps { s.mgmt with taken := none } le_rfl).trans (h _ _)) fun _ => .refl s

/-! ### Tills (R40 to R45, R56, R57, R112) -/

theorem Ctx.samePlace_leftBehind (i : TillIx) (x : Ctx) : x.SamePlace (x.leftBehind i) := by
  refine ⟨rfl, ?_⟩
  rw [Ctx.leftBehind, Option.map_map]
  congr 1
  funext w
  dsimp only [Function.comp]
  split <;> rfl

theorem State.createTill_keeps (s : State) (i : TillIx) (b : Binding) : KeepsBounds s (s.createTill i b) :=
  (s.mapCtxs_keeps _ (Ctx.samePlace_leftBehind i)).trans (State.setTill_keeps _ i _ fun _ => ⟨Nat.zero_le _, nofun⟩)

/-- A wrap's message goes back to the head of its till's queue (R57). -/
def State.requeued (s : State) (i : TillIx) (m : TillMsg) : State := s.setTill i { s.till i with queue := m :: (s.till i).queue }

/-- With one message more than its depth, a queue is within it again once its tail is refused, or the whole queue is (R57, R112). -/
theorem State.returnMessage_keeps (s : State) (i : TillIx) (m : TillMsg) : KeepsBounds s ((s.returnMessage i m).refuseIfBarred i) := by
  have shortened : ∀ q : List TillMsg, q.length ≤ Config.pendingDepth →
      KeepsBounds s ((s.requeued i m).setTill i { (s.requeued i m).till i with queue := q }) := by
    intro q hq
    have same : (s.requeued i m).setTill i { (s.requeued i m).till i with queue := q } = s.setTill i { s.till i with queue := q } := by
      simp [State.requeued, State.setTill, State.till]
    rw [same]
    exact s.setTill_keeps i _ fun h => ⟨hq, h.2⟩
  have unfolds : s.returnMessage i m =
      if ((s.requeued i m).completionRefusal i).isSome then s.requeued i m else (s.requeued i m).displaceTail i := rfl
  rw [unfolds]
  cases hb : (s.requeued i m).completionRefusal i with
  | some x =>
    rw [if_pos Option.isSome_some, State.refuseIfBarred, hb]
    exact (shortened [] (Nat.zero_le _)).trans (.foldl _ (fun t m => t.replyTo_keeps i m x) _ _)
  | none =>
    rw [if_neg (by simp)]
    refine KeepsBounds.trans ?_ (State.refuseIfBarred_keeps _ i)
    unfold State.displaceTail
    split
    · exact (shortened _ le_rfl).trans (State.replyTo_keeps _ _ _ _)
    · rename_i short
      refine s.setTill_keeps i _ fun h => ⟨?_, h.2⟩
      have queue : ((s.requeued i m).till i).queue = m :: (s.till i).queue := by simp [State.requeued]
      match hq : (s.till i).queue with
      | [] => exact Nat.le_succ _
      | [_] => exact le_rfl
      | _ :: _ :: _ => exact absurd (queue.trans (congrArg (m :: ·) hq)) (short _ _ _ _)

theorem State.rewriteTill_keeps (s : State) (i : TillIx) (old new : Binding) : KeepsBounds s (s.rewriteTill i old new) := by
  have bound : ∀ (c : Prop) [Decidable c],
      KeepsBounds s (s.setTill i { s.till i with binding := some new, record := if c then none else (s.till i).record }) := by
    intro c _
    split
    · exact s.setTill_keeps i _ fun h => ⟨h.1, nofun⟩
    · exact s.setTill_keeps i _ id
  have moves : ∀ (t : State) (c : Prop) [Decidable c], KeepsBounds t
      (State.refuseIfBarred (if c then (match (t.loseReservation i).2 with
        | none => (t.loseReservation i).1
        | some m => (t.loseReservation i).1.returnMessage i m) else t) i) := by
    intro t c _
    split
    · refine (t.loseReservation_keeps i).trans ?_
      split
      · exact State.refuseIfBarred_keeps _ i
      · exact State.returnMessage_keeps _ i _
    · exact t.refuseIfBarred_keeps i
  exact (bound _).trans (moves _ _)

theorem State.writeEntry_keeps (s : State) (i : TillIx) (mac : Mac) (number : Nat) (p : ProfIx) (k : SlotIx) :
    KeepsBounds s (s.writeEntry i mac number p k) := by
  unfold State.writeEntry
  split
  · exact .ite (fun _ => .refl s) fun _ => s.createTill_keeps i _
  · exact .ite (fun _ => s.emptyTill_keeps i) fun _ => s.rewriteTill_keeps i _ _

theorem State.retryRaise_keeps (s : State) (t : Taken) (k : SlotIx) (i : TillIx) : KeepsBounds s (s.retryRaise t k i) := by
  have raises : KeepsBounds s (if (s.ctr k i).raise.isNone then s.requestRaise k i else s) :=
    .ite (fun _ => s.requestRaise_keeps k i) fun _ => .refl s
  exact ((raises.trans (State.addJob_keeps _ _)).trans (State.request1_keeps _)).trans (State.kick3_keeps _)

theorem State.rebind_keeps (s : State) (i : TillIx) (b : Binding) : KeepsBounds s (s.setTill i { s.till i with binding := some b }) :=
  s.setTill_keeps i _ id

theorem State.disableEntry_keeps (s : State) (i : TillIx) (b : Binding) : KeepsBounds s (s.disableEntry i b) :=
  (((s.rebind_keeps i { b with enabled := false }).trans (State.loseReservation_keeps _ i)).trans
    (State.refuseLost_keeps _ i (.refused .tillDisabled) _)).trans (State.refuseQueue_keeps _ i _)

theorem execWriteTill_keeps (s : State) (index : Nat) (mac : Mac) (number profile slot : Nat) :
    NextKeeps s (execWriteTill index mac number profile slot s) := by
  refine s.carry_keeps _ _ fun t u => ?_
  split
  · refine .ite (fun _ => u.refuse_keeps ..) fun _ => .ite (fun _ => u.refuse_keeps ..) fun _ => ?_
    split
    · exact u.answer_keeps ..
    · exact ((u.writeEntry_keeps ..).trans (State.answer_keeps _ _ _ _)).trans (State.settle_keeps _)
  · exact u.refuse_keeps ..

theorem execEnableTill_keeps (s : State) (index : Nat) : NextKeeps s (execEnableTill index s) := by
  refine s.carry_keeps _ _ fun t u => ?_
  split
  · exact u.refuse_keeps ..
  · split
    · exact u.refuse_keeps ..
    · rename_i i _ _ b _
      exact ((u.rebind_keeps i { b with enabled := true }).trans
        (.ite (fun _ => State.retryRaise_keeps ..) fun _ => State.answer_keeps ..)).trans (State.settle_keeps _)

theorem execDisableTill_keeps (s : State) (index : Nat) : NextKeeps s (execDisableTill index s) := by
  refine s.carry_keeps _ _ fun t u => ?_
  split
  · exact u.refuse_keeps ..
  · split
    · exact u.refuse_keeps ..
    · exact ((u.disableEntry_keeps _ _).trans (State.answer_keeps _ _ _ _)).trans (State.settle_keeps _)

/-! ### Settings (R88, R91, R138, R151, R182) -/

theorem State.withSettings_keeps (s : State) (x : Settings) : KeepsBounds s { s with settings := x } := .of_same rfl

theorem State.noteStanding_keeps (s : State) (above : Bool) : KeepsBounds s (s.noteStanding above) :=
  .ite (fun _ => s.raise_keeps ..) fun _ => .refl s

theorem State.setStore_keeps (s : State) (x : StoreSettings) : KeepsBounds s (s.setStore x) :=
  (s.withSettings_keeps { s.settings with store := x }).trans
    (.ite (fun _ => State.tryRun_keeps _) fun _ => State.leaveRunning_keeps _)

theorem execWriteProfile_keeps (s : State) (o : ProfileOperands) : NextKeeps s (execWriteProfile o s) := by
  refine s.carry_keeps _ _ fun t u => ?_
  split
  · exact u.refuse_keeps ..
  · split
    · exact u.refuse_keeps ..
    · exact .ite (fun _ => (u.withSettings_keeps _).trans (State.answer_keeps _ _ _ _)) fun _ => u.refuse_keeps ..

theorem execWriteFieldMap_keeps (s : State) (index count : Nat) (rules : List (Nat × Nat)) :
    NextKeeps s (execWriteFieldMap index count rules s) := by
  refine s.carry_keeps _ _ fun t u => ?_
  split
  · exact .ite (fun _ => u.refuse_keeps ..) fun _ => .ite (fun _ => u.refuse_keeps ..) fun _ =>
      .ite (fun _ => (u.withSettings_keeps _).trans (State.answer_keeps _ _ _ _)) fun _ => u.refuse_keeps ..
  · exact u.refuse_keeps ..

theorem execSetLimits_keeps (s : State) (target l1 lt nc lc : Nat) : NextKeeps s (execSetLimits target l1 lt nc lc s) := by
  have written : ∀ (u : State) (t : Taken) (x : Settings) (above : Bool) (r : Results),
      KeepsBounds u ((State.noteStanding { u with settings := x } above).answer t .ok r) := fun u t x above r =>
    ((u.withSettings_keeps x).trans (State.noteStanding_keeps _ above)).trans (State.answer_keeps _ t .ok r)
  refine s.carry_keeps _ _ fun t u => .ite (fun _ => .ite (fun _ => u.refuse_keeps ..) fun _ => written ..) fun _ => ?_
  split
  · exact u.refuse_keeps ..
  · exact .ite (fun _ => u.refuse_keeps ..) fun _ => written ..

theorem execSetLink_keeps (s : State) (interval nDown nUp settle : Nat) : NextKeeps s (execSetLink interval nDown nUp settle s) :=
  s.carry_keeps _ _ fun t u =>
    (u.withSettings_keeps { u.settings with link := clampedLink interval nDown nUp settle }).trans (State.answer_keeps _ t _ _)

theorem execSetStore_keeps (s : State) (o : StoreOperands) : NextKeeps s (execSetStore o s) := by
  refine s.carry_keeps _ _ fun t u => ?_
  split
  · exact u.refuse_keeps ..
  · exact ((u.setStore_keeps _).trans (State.answer_keeps _ t _ _)).trans (State.settle_keeps _)

/-! ### Reading commands, keys, the drain, RESET and the quiet-class commands -/

theorem execReadTill_keeps (s : State) (index : Nat) : NextKeeps s (execReadTill index s) := by
  refine s.carry_keeps _ _ fun t u => ?_
  split <;> [exact u.refuse_keeps ..; exact u.answer_keeps ..]

theorem execReadEvents_keeps (s : State) (clear : BitVec 8) : NextKeeps s (execReadEvents clear s) := by
  have cleared : ∀ (u : State) (x : Events), KeepsBounds u { u with events := x } := fun _ _ => .of_same rfl
  exact s.carry_keeps _ _ fun t u => (cleared u _).trans (State.answer_keeps _ t _ _)

theorem execReadDrainSummary_keeps (s : State) : NextKeeps s (execReadDrainSummary s) :=
  s.carry_keeps _ _ fun t u => (u.withDrain_keeps _).trans (State.answer_keeps _ t _ _)

theorem State.loadRecord_keeps (s : State) (t : Taken) (x : Option SlotIx) (r : KeyRecord) : KeepsBounds s (s.loadRecord t x r) := by
  have taken := fun j => (s.addJob_keeps j).trans (State.request1_keeps _)
  unfold State.loadRecord
  dsimp only
  split
  · exact ((taken _).trans (State.setSlot_keeps _ _ _)).trans (State.request2_keeps _ _)
  · exact (taken _).trans (State.request2_keeps _ _)

theorem execLoadKey_keeps (s : State) (target ksid gen : Nat) (enc : BitVec 384) : NextKeeps s (execLoadKey target ksid gen enc s) := by
  refine s.carry_keeps _ _ fun t u => ?_
  split
  · exact u.refuse_keeps ..
  · refine .ite (fun _ => u.refuse_keeps ..) fun _ => ?_
    split
    · exact u.refuse_keeps ..
    · exact .ite (fun _ => u.refuse_keeps ..) fun _ => .ite (fun _ => u.refuse_keeps ..) fun _ =>
        .ite (fun _ => u.refuse_keeps ..) fun _ => u.loadRecord_keeps ..

theorem State.startDrain_keeps (s : State) : KeepsBounds s s.startDrain :=
  (s.withSettings_keeps { s.settings with suspended := false }).trans (.ite (fun _ => State.armDrain_keeps _) fun _ => .refl _)

theorem execStopDrain_keeps (s : State) : NextKeeps s (execStopDrain s) :=
  s.carry_keeps _ _ fun t u =>
    ((u.withSettings_keeps { u.settings with suspended := true }).trans (State.drainToIdle_keeps _)).trans (State.answer_keeps _ t _ _)

theorem execReleaseLockdown_keeps (s : State) : NextKeeps s (execReleaseLockdown s) := by
  have serving : ∀ u : State, KeepsBounds u { u with opState := .serving } := fun _ => .of_same rfl
  exact s.carry_keeps _ _ fun t u => .ite (fun _ => u.answer_keeps ..) fun _ => .ite (fun _ => u.refuse_keeps ..) fun _ =>
    .ite (fun _ => u.refuse_keeps ..) fun _ =>
      (((serving u).trans (State.raise_keeps _ .lockdownReleased none none none)).trans (State.answer_keeps _ t _ _)).trans (State.settle_keeps _)

theorem execReset_keeps (s : State) : NextKeeps s (execReset s) :=
  s.carry_keeps _ _ fun t u =>
    ((u.withMgmt_keeps { u.mgmt with reset := .accepted, jobs := u.mgmt.jobs.map Job.stop } le_rfl).trans
      (State.answer_keeps _ t _ _)).trans (State.settle_keeps _)

theorem State.quietTaken_keeps (s : State) (t : Taken) (h : Hold) : KeepsBounds s (s.beginWait t h).settle :=
  (s.beginWait_keeps t h).trans (State.settle_keeps _)

theorem execActivateKey_keeps (s : State) (slot : Nat) : NextKeeps s (execActivateKey slot s) := by
  refine s.carry_keeps _ _ fun t u => ?_
  split <;> [exact u.refuse_keeps ..; exact u.quietTaken_keeps ..]

theorem execEraseKey_keeps (s : State) (slot : Nat) : NextKeeps s (execEraseKey slot s) := by
  refine s.carry_keeps _ _ fun t u => ?_
  split <;> [exact u.refuse_keeps ..; exact u.quietTaken_keeps ..]

/-! ### Every step -/

theorem execTamperAssert_keeps (s : State) : NextKeeps s (execTamperAssert s) := by
  have asserted : KeepsBounds s { s with tamperIn := true } := .of_same rfl
  exact .next (asserted.trans (.ite (fun _ => .refl _) fun _ => (State.tamper_keeps _).trans (State.settle_keeps _)))

/-- HOLDING_SCAN_END rebuilds the Offline Card List without a check (R153), and keeps the rest. -/
theorem execHoldingScanEnd_keeps (s t : State) (headerBad : Bool) (badHeads badMessages : List Nat)
    (h : execHoldingScanEnd headerBad badHeads badMessages s = .next t) :
    (s.withinDepths → t.withinDepths) ∧ (s.placesSound → t.placesSound) := by
  obtain ⟨depths, places⟩ := s.endScan_keeps headerBad badHeads badMessages
  cases h
  split
  · split
    · exact ⟨id, id⟩
    · exact ⟨fun hs => withinDepths_congr rfl (depths hs), fun hs => placesSound_congr rfl (places hs)⟩
  · exact ⟨id, id⟩

/-- Every command but HOLDING_SCAN_END keeps the bounds. -/
theorem exec_keeps (s : State) (c : Instr) (hc : ∀ bad heads messages, c ≠ .holdingScanEnd bad heads messages) : NextKeeps s (exec c s) := by
  cases c with
  | powerOn => exact .next (s.beginReset_keeps _)
  | resetPinAssert => exact .next (s.beginReset_keeps _)
  | resetPinRelease => exact .next (.ite (fun _ => .of_same rfl) fun _ => .refl s)
  | sectorReadsEnd bad0 bad1 bad2 bad3 => exact execSectorReadsEnd_keeps s bad0 bad1 bad2 bad3
  | holdingScanEnd bad heads messages => exact absurd rfl (hc bad heads messages)
  | startupEnd => exact execStartupEnd_keeps s
  | rxFrame port frame => exact execRxFrame_keeps s port frame
  | transmitStart port => exact execTransmitStart_keeps s port
  | transmitEnd port => exact execTransmitEnd_keeps s port
  | physicalLinkLost port => exact execPhysicalLinkLost_keeps s port
  | physicalLinkRestored port => exact execPhysicalLinkRestored_keeps s port
  | assemblyTimeout till => exact execAssemblyTimeout_keeps s till
  | derivingKeys ctx => exact execDeriving_keeps s ctx
  | wrapping ctx => exact execWrapping_keeps s ctx
  | authenticating ctx => exact execAuthenticating_keeps s ctx
  | deciding ctx => exact execDeciding_keeps s ctx
  | replyWindowExpiry till reference => exact execReplyWindowExpiry_keeps s till reference
  | probeTimerExpiry => exact .next (.ite (fun _ => s.probeTick_keeps) fun _ => .refl s)
  | probeDeadlineExpiry number => exact execProbeDeadlineExpiry_keeps s number
  | settleTimerExpiry => exact execSettleTimerExpiry_keeps s
  | drainTimeout sequence => exact .next (.ite (fun _ => s.timeOutDrain_keeps.trans (State.settle_keeps _)) fun _ => .refl s)
  | quietWaitLimitExpiry => exact .next (.ite (fun _ => s.timeOutQuiet_keeps.trans (State.settle_keeps _)) fun _ => .refl s)
  | checkpointWriteComplete => exact execCheckpointWriteComplete_keeps s
  | checkpointWriteFail => exact execCheckpointWriteFail_keeps s
  | sectorWriteComplete sector => exact execSectorWriteComplete_keeps s sector
  | sectorWriteFail sector => exact execSectorWriteFail_keeps s sector
  | recordWriteComplete => exact execRecordWriteComplete_keeps s
  | recordWriteFail => exact execRecordWriteFail_keeps s
  | recordFreeComplete => exact execRecordFreeComplete_keeps s
  | recordFreeFail => exact execRecordFreeFail_keeps s
  | formatEnd => exact .next (.ite (fun _ => s.formatDone_keeps.trans (State.settle_keeps _)) fun _ => .refl s)
  | tamperAssert => exact execTamperAssert_keeps s
  | tamperDeassert => exact .next (.of_same rfl)
  | mgmtFrameTake => exact execMgmtFrameTake_keeps s
  | readStatus => exact s.carry_keeps _ _ fun _ u => u.answer_keeps ..
  | readTill index => exact execReadTill_keeps s index
  | readCounters first count =>
    exact s.carry_keeps _ _ fun _ u => .ite (fun _ => u.answer_keeps ..) fun _ => u.refuse_keeps ..
  | readEvents clear => exact execReadEvents_keeps s clear
  | readDrainSummary => exact execReadDrainSummary_keeps s
  | writeTill index mac number profile slot => exact execWriteTill_keeps s index mac number profile slot
  | enableTill index => exact execEnableTill_keeps s index
  | disableTill index => exact execDisableTill_keeps s index
  | writeProfile ops => exact execWriteProfile_keeps s ops
  | writeFieldMap index count rules => exact execWriteFieldMap_keeps s index count rules
  | setLimits target l1 lt nc lc => exact execSetLimits_keeps s target l1 lt nc lc
  | setLink interval nDown nUp settle => exact execSetLink_keeps s interval nDown nUp settle
  | setStore ops => exact execSetStore_keeps s ops
  | loadKey target ksid gen encrypted => exact execLoadKey_keeps s target ksid gen encrypted
  | startDrain =>
    exact s.carry_keeps _ _ fun _ u => (u.startDrain_keeps.trans (State.answer_keeps ..)).trans (State.settle_keeps _)
  | stopDrain => exact execStopDrain_keeps s
  | releaseLockdown => exact execReleaseLockdown_keeps s
  | reset => exact execReset_keeps s
  | activateKey slot => exact execActivateKey_keeps s slot
  | eraseKey slot => exact execEraseKey_keeps s slot
  | decommission force =>
    exact s.carry_keeps _ _ fun _ u => .ite (fun _ => u.refuse_keeps ..) fun _ => u.quietTaken_keeps ..
  | writeIdentity serial mac etype mgmtKey transportKey => exact .next (s.offerFactory_keeps _)
  | closeFactory => exact .next (s.offerFactory_keeps _)
  | fullErase => exact .next (s.offerFactory_keeps _)
  | factoryWriteEnd ok0 ok1 ok2 ok3 => exact .next (s.endFactory_keeps ..)

/-- Every step keeps the bounds, but that HOLDING_SCAN_END may break that of the cards. -/
theorem step_keeps (s t : State) (h : step s = .next t) :
    (s.withinDepths → t.withinDepths) ∧ (s.placesSound → t.placesSound)
      ∧ ((∀ bad heads messages, s.pending.head? ≠ some (.holdingScanEnd bad heads messages)) → s.cardsBounded → t.cardsBounded) := by
  unfold step at h
  split at h
  · cases h
    exact ⟨withinDepths_congr rfl, placesSound_congr rfl, fun _ => id⟩
  · rename_i c rest hp
    have popped : KeepsBounds s { s with pending := rest } := .of_same rfl
    by_cases hc : ∀ bad heads messages, c ≠ .holdingScanEnd bad heads messages
    · obtain ⟨depths, places, cards⟩ := popped.trans (exec_keeps _ c hc t h)
      exact ⟨depths, places, fun _ => cards⟩
    · simp only [not_forall, not_not] at hc
      obtain ⟨bad, heads, messages, rfl⟩ := hc
      obtain ⟨depths, places⟩ := execHoldingScanEnd_keeps _ t bad heads messages h
      exact ⟨depths ∘ popped.depths, places ∘ popped.places, fun hn => absurd (by rw [hp]; rfl) (hn bad heads messages)⟩

/-- Settles O9, from the bounds that every step keeps. -/
theorem stepKeepsQueuesWithinDepth : Obligations.StepKeepsQueuesWithinDepth := fun s t hs h => (step_keeps s t h).1 hs

/-- Settles O19, from the bounds that every step keeps. -/
theorem stepKeepsPlacesAndCardsBounded : Obligations.StepKeepsPlacesAndCardsBounded :=
  ⟨fun s t hs h => (step_keeps s t h).2.1 hs, fun s t hs hn h => (step_keeps s t h).2.2 hn hs⟩

end Sys2Proof.Machine
end

section
/-! PROOFS. Assembly Records and admission (R28 to R34, R110, R111): what a segment, an expiry and a completion do; it settles O22, O26 and O35. -/

namespace Sys2Proof.Machine

section Lemmas

variable (s : State) (i : TillIx)

/-! ### Segments and records (R28 to R32) -/

/-- A segment that opens a record (R29). -/
def opensRecord (p : Bytes) : Prop := field p 8 1 = 1 ∧ 1 ≤ field p 9 1 ∧ field p 9 1 ≤ 4

/-- A segment that continues a record (R30). -/
def AssemblyRecord.continuedBy (r : AssemblyRecord) (p : Bytes) : Prop :=
  field p 8 1 = r.received + 1 ∧ field p 9 1 = r.expected ∧ field p 4 4 = r.reference

theorem State.takeSegment_first (path : ReturnPath) (p : Bytes) (h : opensRecord p) :
    s.takeSegment i path p =
      (if (s.till i).record.isSome then s.raise .segmentOrder (till := some i) else s).standRecord i (s.newAssembly path p) := by
  unfold opensRecord at h
  rw [State.takeSegment, if_pos h]
  dsimp only
  split <;> rfl

theorem State.takeSegment_alone (path : ReturnPath) (p : Bytes) (hr : (s.till i).record = none) (h : ¬ opensRecord p) :
    s.takeSegment i path p = s.raise .segmentOrder (till := some i) := by
  unfold opensRecord at h
  rw [State.takeSegment, if_neg h, hr]

theorem State.takeSegment_next (path : ReturnPath) (p : Bytes) (r : AssemblyRecord) (hr : (s.till i).record = some r) (h : ¬ opensRecord p)
    (hn : r.continuedBy p) : s.takeSegment i path p = s.standRecord i (r.extend p) := by
  unfold opensRecord at h
  rw [State.takeSegment, if_neg h, hr]
  exact if_pos hn

theorem State.takeSegment_breaks (path : ReturnPath) (p : Bytes) (r : AssemblyRecord) (hr : (s.till i).record = some r) (h : ¬ opensRecord p)
    (hn : ¬ r.continuedBy p) :
    s.takeSegment i path p = (s.setTill i { s.till i with record := none }).raise .segmentOrder (till := some i) := by
  unfold opensRecord at h
  rw [State.takeSegment, if_neg h, hr]
  exact if_neg hn

theorem State.standRecord_full (r : AssemblyRecord) (h : r.received = r.expected) : s.standRecord i r = s.completeMessage i r := if_pos h

theorem State.standRecord_open (r : AssemblyRecord) (h : r.received ≠ r.expected) :
    s.standRecord i r = s.setTill i { s.till i with record := some r } := if_neg h

/-! ### A message completes (R33) -/

theorem State.record_localReply (j : TillIx) (n r : Nat) (p : ReturnPath) (x : LocalReply) :
    ((s.localReply i n r p x).till j).record = (s.till j).record := by
  rw [s.till_localReply]
  split
  · rename_i h; rw [h.1]
  · rfl

/-- Admission opens no record. -/
theorem State.record_admission (m : TillMsg) : ((s.admission i m).till i).record = (s.till i).record := by
  unfold State.admission
  split
  · rfl
  · split
    · exact State.record_localReply ..
    · split
      · exact State.record_localReply ..
      · rw [State.till_setTill_self]

/-- The record ends with its message (R33). -/
theorem State.record_completeMessage (r : AssemblyRecord) : ((s.completeMessage i r).till i).record = none := by
  have ended : ((s.setTill i { s.till i with record := none }).till i).record = none := by rw [State.till_setTill_self]
  have replied : ∀ n q p x, (((s.setTill i { s.till i with record := none }).localReply i n q p x).till i).record = none := fun n q p x =>
    (State.record_localReply _ i i n q p x).trans ended
  unfold State.completeMessage
  dsimp only
  split
  · exact replied ..
  · split
    · exact replied ..
    · split
      · exact replied ..
      · split
        · exact replied ..
        · exact (State.record_admission ..).trans ended

/-- A segment that is a message of its own leaves no record. -/
theorem State.record_single (path : ReturnPath) (p : Bytes) (h1 : field p 8 1 = 1) (hc : field p 9 1 = 1) :
    ((s.takeSegment i path p).till i).record = none := by
  rw [s.takeSegment_first i path p ⟨h1, by omega, by omega⟩, State.standRecord_full _ i _ hc.symm]
  exact State.record_completeMessage ..

theorem State.completeMessage_outside (r : AssemblyRecord) (h : s.opState ≠ .serving) :
    s.completeMessage i r =
      (s.setTill i { s.till i with record := none }).localReply i r.number r.reference r.path (.unavailable s.opState) := if_pos h

theorem State.completeMessage_malformed (r : AssemblyRecord) (x : RefuseReason) (h : s.opState = .serving) (hm : r.message = .inl x) :
    s.completeMessage i r =
      (s.setTill i { s.till i with record := none }).localReply i r.number r.reference r.path (.refused x) := by
  simp only [State.completeMessage, hm]
  exact if_neg (not_not.2 h)

/-- A message in good form is checked against its till's entry (R33). -/
theorem State.completeMessage_formed (r : AssemblyRecord) (m : TillMsg) (h : s.opState = .serving) (hm : r.message = .inr m) :
    s.completeMessage i r =
      let t := s.setTill i { s.till i with record := none }
      if (s.till i).binding.map (·.number) ≠ some m.number then t.replyTo i m (.refused .tillMismatch)
      else match s.completionRefusal i with
        | some x => t.replyTo i m x
        | none => t.admission i m := by
  have binding : ((s.setTill i { s.till i with record := none }).till i).binding = (s.till i).binding := by rw [State.till_setTill_self]
  have refusal : (s.setTill i { s.till i with record := none }).completionRefusal i = s.completionRefusal i := by
    simp only [State.completionRefusal, State.entryState, binding, State.ctr_setTill, State.slot_setTill]
  simp only [State.completeMessage, hm, binding, refusal]
  exact if_neg (not_not.2 h)

/-- Checks 4 and 5 of R33 for an entry that is not VACANT: its own state, then its slot's. -/
theorem State.completionRefusal_bound (b : Binding) (h : (s.till i).binding = some b) :
    s.completionRefusal i =
      if b.enabled = false then some (.refused .tillDisabled)
      else if (s.ctr b.slot i).c = Config.spent then some (.refused .exhausted)
      else if (s.ctr b.slot i).failed = true then some (.refused .counterFault)
      else match (s.slot b.slot).state with
        | .empty => some (.refused .noKey)
        | .faulted => some (.refused .keyFault)
        | .active => none := by
  simp only [State.completionRefusal, State.entryState, entryStateOf, h, Bool.not_eq_true']
  by_cases he : b.enabled = false
  · rw [if_pos he, if_pos he]
  · rw [if_neg he, if_neg he]
    by_cases hc : (s.ctr b.slot i).c = Config.spent
    · rw [if_pos hc, if_pos hc]
    · rw [if_neg hc, if_neg hc]
      by_cases hf : (s.ctr b.slot i).failed = true
      · rw [if_pos hf, if_pos hf]
      · cases (s.slot b.slot).state <;> rw [if_neg hf, if_neg hf]

/-! ### Admission (R110, R111) -/

theorem Ctx.holdsPair_iff (x : Ctx) (reference : Nat) :
    x.holdsPair i reference = true ↔ ∃ w m, x.wrap = some w ∧ w.till = i ∧ w.msg = some m ∧ m.reference = reference := by
  unfold Ctx.holdsPair
  cases hw : x.wrap with
  | none => simp
  | some w => cases hm : w.msg <;> simp [hm]

/-- A pair is being worked on: it is queued, wrapped, outstanding, or its record is in the Holding Store but not plainly HELD (R110). -/
theorem State.isDuplicate_iff (reference : Nat) :
    s.isDuplicate i reference = true ↔
      (∃ x ∈ (s.till i).queue, x.reference = reference)
        ∨ (∃ c w x, (s.ctx c).wrap = some w ∧ w.till = i ∧ w.msg = some x ∧ x.reference = reference)
        ∨ (∃ e ∈ s.outstanding, e.till = i ∧ e.reference = reference)
        ∨ ∃ l, s.holding.findPair i reference = some l ∧ (l.held = false ∨ l.freeing = true) := by
  have wrapped : allCtxs.any (fun c => (s.ctx c).holdsPair i reference) = true ↔
      ∃ c w x, (s.ctx c).wrap = some w ∧ w.till = i ∧ w.msg = some x ∧ x.reference = reference := by
    simp only [List.any_eq_true, Ctx.holdsPair_iff, mem_allCtxs, true_and]
  have stored : (match s.holding.findPair i reference with | none => false | some l => !l.held || l.freeing) = true ↔
      ∃ l, s.holding.findPair i reference = some l ∧ (l.held = false ∨ l.freeing = true) := by
    cases s.holding.findPair i reference <;> simp
  unfold State.isDuplicate
  rw [Bool.or_eq_true, Bool.or_eq_true, Bool.or_eq_true, wrapped, or_assoc, or_assoc]
  refine or_congr (by simp) (or_congr Iff.rfl (or_congr (by simp) ?_))
  exact stored

theorem State.admission_duplicate (m : TillMsg) (h : s.isDuplicate i m.reference = true) :
    s.admission i m = s.raise .duplicate (till := some i) := if_pos h

section Unworked

variable (m : TillMsg) (h : ¬ s.isDuplicate i m.reference = true)
include h

theorem State.admission_held (hf : (s.holding.findPair i m.reference).isSome = true) :
    s.admission i m = (s.raise .heldRepeat (till := some i)).replyTo i m .held := (if_neg h).trans (if_pos hf)

theorem State.admission_full (hf : s.holding.findPair i m.reference = none) (hq : Config.pendingDepth ≤ (s.till i).queue.length) :
    s.admission i m = s.replyTo i m (.refused .busy) :=
  ((if_neg h).trans (if_neg (by rw [hf]; decide))).trans (if_pos hq)

theorem State.admission_joins (hf : s.holding.findPair i m.reference = none) (hq : (s.till i).queue.length < Config.pendingDepth) :
    s.admission i m = s.setTill i { s.till i with queue := (s.till i).queue ++ [m] } :=
  ((if_neg h).trans (if_neg (by rw [hf]; decide))).trans (if_neg (Nat.not_le.2 hq))

end Unworked

end Lemmas

/-- Settles O22, by the kinds of segment and whether the record it leaves is full. -/
theorem segmentOpensFillsOrBreaksRecord : Obligations.SegmentOpensFillsOrBreaksRecord := by
  intro s i path p index count opened first
  have stands : ∀ t : State, first → (if (s.till i).record.isSome then s.raise .segmentOrder (till := some i) else s) = t →
      s.takeSegment i path p = t.standRecord i opened := fun t hf ht => ht ▸ s.takeSegment_first i path p hf
  refine ⟨fun hr hf => s.takeSegment_alone i path p hr hf, fun hr hf hc => ?_, fun hr hf hc => ?_, fun hr hf => ?_, fun r hr hf => ?_⟩
  · rw [stands s hf (by rw [hr]; rfl), s.standRecord_open i opened (Ne.symm hc)]
  · rw [stands s hf (by rw [hr]; rfl), s.standRecord_full i opened hc.symm]
  · intro t
    refine ⟨s.count_raise_self .., fun hc => ?_, fun hc => ?_⟩
    · rw [stands t hf (if_pos hr), t.standRecord_open i opened (Ne.symm hc)]
      rfl
    · rw [stands t hf (if_pos hr), t.standRecord_full i opened hc.symm]
  · intro wider next
    refine ⟨fun hn he => ?_, fun hn he => ?_, fun hn => s.takeSegment_breaks i path p r hr hf hn⟩
    · rw [s.takeSegment_next i path p r hr hf hn]
      exact s.standRecord_full i wider (hn.1.symm.trans he)
    · rw [s.takeSegment_next i path p r hr hf hn]
      exact s.standRecord_open i wider fun e => he (hn.1.trans e)

/-- Settles O35: the expiry is one change of the till and one count, and R30 finds no record afterwards. -/
theorem assemblyTimeoutDiscardsTheRecord : Obligations.AssemblyTimeoutDiscardsTheRecord := by
  intro s i
  refine ⟨fun hr => ?_, fun hr => ?_, s.record_single i⟩
  · obtain ⟨t, ht⟩ : ∃ t : State, t = (s.setTill i { s.till i with record := none }).raise .assemblyTimeout (till := some i) := ⟨_, rfl⟩
    have here : t.till i = { s.till i with record := none } := by rw [ht, State.till_raise, State.till_setTill_self]
    refine ⟨t, ?_, here, fun j hj => ?_, ?_, by rw [ht]; rfl, fun path p hp => ?_⟩
    · rw [ht]
      exact congrArg Host.Outcome.next (if_pos hr)
    · rw [ht, State.till_raise, State.till_setTill_ne _ _ hj]
    · rw [ht, State.count_raise_self, State.count_setTill]
      rfl
    · exact t.takeSegment_alone i path p (by rw [here]) fun hf => hp hf.1
  · exact congrArg Host.Outcome.next (if_neg (by rw [hr]; decide))

/-- Settles O26, by the checks of completion and the lines of R110 in their order. -/
theorem completionChecksThenAdmission : Obligations.CompletionChecksThenAdmission := by
  constructor
  · intro s i r s0
    refine ⟨s.completeMessage_outside i r, fun x hs hm => s.completeMessage_malformed i r x hs hm, fun m hs hm hb => ?_,
      fun m b hs hm hb hn => ?_⟩
    · rw [s.completeMessage_formed i r m hs hm]
      refine if_pos fun e => ?_
      obtain ⟨b, hbind, hnum⟩ := Option.map_eq_some_iff.1 e
      exact hb b hbind hnum
    · have refused : ∀ x, s.completionRefusal i = some x → s.completeMessage i r = s0.replyTo i m x := fun x hx => by
        rw [s.completeMessage_formed i r m hs hm, hx]
        exact if_neg (not_not.2 (by rw [hb, ← hn]; rfl))
      have refusal := s.completionRefusal_bound i b hb
      refine ⟨fun he => refused _ ?_, fun he (hc : _ = Config.spent) => refused _ ?_,
        fun he (hc : ¬ _ = Config.spent) => ⟨fun hf => refused _ ?_, fun hf => ?_⟩⟩
      · rw [refusal, if_pos he]
      · rw [refusal, if_neg (by simp [he]), if_pos hc]
      · rw [refusal, if_neg (by simp [he]), if_neg hc, if_pos hf]
      · rw [if_neg (by simp [he]), if_neg hc, if_neg (by simp [hf])] at refusal
        refine ⟨fun hk => refused _ (by rw [refusal, hk]), fun hk => refused _ (by rw [refusal, hk]), fun hk => ?_⟩
        rw [hk] at refusal
        rw [s.completeMessage_formed i r m hs hm, refusal]
        exact if_neg (not_not.2 (by rw [hb, ← hn]; rfl))
  · intro s i m working
    have worked : s.isDuplicate i m.reference = true ↔ working := s.isDuplicate_iff i m.reference
    exact ⟨fun h => s.admission_duplicate i m (worked.2 h), fun h => s.admission_held i m (mt worked.1 h),
      fun h => s.admission_full i m (mt worked.1 h), fun h => s.admission_joins i m (mt worked.1 h)⟩

end Sys2Proof.Machine
end

section
/-! PROOFS. The Frame Classifier and the ports it bridges between (R16, R18, R20 to R25): what becomes of each frame received; it settles O20, O21
and O28. -/

namespace Sys2Proof.Machine

/-! ### Bridging (R18, R20) -/

theorem oppositePort_of_ne {p q : Port} (h : q ≠ p) : oppositePort p = q := by revert h; cases p <;> cases q <;> decide

theorem State.bridge_joins (s : State) {p q : Port} (f : Bytes) (h : q ≠ p) (room : (s.port q).bridge.length < Config.bridgeDepth)
    (up : (s.port q).linkUp = true) :
    s.bridge p f = s.setPort q { s.port q with bridge := (s.port q).bridge ++ [{ bytes := f, isReset := false }] } := by
  rw [State.bridge, oppositePort_of_ne h]
  exact (if_pos room).trans (if_pos up)

theorem State.bridge_down (s : State) {p q : Port} (f : Bytes) (h : q ≠ p) (room : (s.port q).bridge.length < Config.bridgeDepth)
    (down : (s.port q).linkUp = false) : s.bridge p f = s.raise .linkDiscard := by
  rw [State.bridge, oppositePort_of_ne h]
  exact (if_pos room).trans (if_neg (by rw [down]; decide))

theorem State.bridge_full (s : State) {p q : Port} (f : Bytes) (h : q ≠ p) (full : Config.bridgeDepth ≤ (s.port q).bridge.length) :
    s.bridge p f = s.raise .bridgeOverflow := by
  rw [State.bridge, oppositePort_of_ne h]
  exact if_neg (Nat.not_lt.2 full)

/-- Settles O21. -/
theorem bridgedFrameJoinsTheTail : Obligations.BridgedFrameJoinsTheTail := fun s _ _ f h =>
  ⟨fun room up => s.bridge_joins f h room up, fun full => s.bridge_full f h full⟩

/-! ### The receive path (R16, R20) -/

theorem exec_rxFrame_closed (s : State) (p : Port) (f : Bytes) (h : s.rxOpen = false ∨ (s.port p).linkUp = false) :
    exec (.rxFrame p f) s = .next s :=
  congrArg Host.Outcome.next (if_neg (by rcases h with h | h <;> simp [State.receives, h]))

theorem exec_rxFrame_open (s : State) (p : Port) (f : Bytes) (hrx : s.rxOpen = true) (up : (s.port p).linkUp = true) :
    exec (.rxFrame p f) s = .next (s.receive p f).settle :=
  congrArg Host.Outcome.next (if_pos (by simp [State.receives, hrx, up]))

theorem State.receive_bad (s : State) (p : Port) (f : Bytes) (h : frameGood f = false) : s.receive p f = s.raise .rxError :=
  if_pos (by rw [h]; rfl)

theorem State.receive_lane (s : State) (f : Bytes) (h : frameGood f = true) : s.receive .lane f = s.classifyLane f :=
  if_neg (by rw [h]; decide)

theorem State.receive_uplink (s : State) (f : Bytes) (h : frameGood f = true) : s.receive .uplink f = s.classifyUplink f :=
  if_neg (by rw [h]; decide)

theorem frameGood_iff (f : Bytes) : frameGood f = true ↔
    64 ≤ f.length ∧ f.length ≤ 1518 + 4 * min 2 (readEth f).tags.length ∧ f.drop (f.length - 4) = fcs (f.take (f.length - 4)) := by
  rw [frameGood, Bool.and_eq_true, decide_eq_true_eq, beq_iff_eq, and_assoc, eq_comm (a := fcs _)]

theorem EthFrame.isIp_iff (e : EthFrame) : e.isIp = true ↔ e.etype = 0x0800 := beq_iff_eq

theorem IpView.isUdp_iff (v : IpView) : v.isUdp = true ↔ v.protocol = 17 := beq_iff_eq

/-! ### The Lane port (R21, R22) -/

section Lane

variable (s : State) (f : Bytes)

theorem State.classifyLane_tagged (h : 2 ≤ (readEth f).tags.length) : s.classifyLane f = s.raise .multiTag := if_pos h

theorem State.classifyLane_mgmt (h : (readEth f).tags.length < 2) (hm : s.isMgmt (readEth f) = true) :
    s.classifyLane f = s.raise .mgmtWrongPort := (if_neg (Nat.not_le.2 h)).trans (if_pos hm)

theorem State.classifyLane_toPart (h : (readEth f).tags.length < 2) (hm : s.isMgmt (readEth f) = false)
    (hp : s.toPart (readEth f) = true) : s.classifyLane f = s.raise .unclaimed :=
  ((if_neg (Nat.not_le.2 h)).trans (if_neg (Bool.eq_false_iff.1 hm))).trans (if_pos hp)

section Passing

variable (h : (readEth f).tags.length < 2) (hm : s.isMgmt (readEth f) = false) (hp : s.toPart (readEth f) = false)
include h hm hp

/-- A frame that is not for the part goes by its contents (R21). -/
theorem State.classifyLane_passing : s.classifyLane f =
    if !(readEth f).isIp then s.bridge .lane f
    else if (readIp (readEth f).payload).isUdp && (readIp (readEth f).payload).isFragment then s.raise .fragment
    else if s.toPayment (readIp (readEth f).payload) then
      (if (readIp (readEth f).payload).isUdp && (readIp (readEth f).payload).udpWhole then
        s.takePayment (readEth f) (readIp (readEth f).payload) else s.raise .notUdp)
    else s.bridge .lane f :=
  ((if_neg (Nat.not_le.2 h)).trans (if_neg (Bool.eq_false_iff.1 hm))).trans (if_neg (Bool.eq_false_iff.1 hp))

theorem State.classifyLane_other (hi : (readEth f).etype ≠ 0x0800) : s.classifyLane f = s.bridge .lane f := by
  rw [s.classifyLane_passing f h hm hp, if_pos]
  rw [Bool.not_eq_true', Bool.eq_false_iff]
  exact mt (readEth f).isIp_iff.1 hi

section Ip

variable (hi : (readEth f).etype = 0x0800)
include hi

theorem State.classifyLane_fragment (hu : (readIp (readEth f).payload).protocol = 17) (hf : (readIp (readEth f).payload).isFragment = true) :
    s.classifyLane f = s.raise .fragment := by
  rw [s.classifyLane_passing f h hm hp, if_neg (by rw [(readEth f).isIp_iff.2 hi]; decide), if_pos]
  rw [(readIp (readEth f).payload).isUdp_iff.2 hu, hf]
  rfl

/-- IPv4 that is no UDP fragment is a payment frame or is bridged by its destination (R3, R21). -/
theorem State.classifyLane_whole
    (hw : (readIp (readEth f).payload).protocol ≠ 17 ∨ (readIp (readEth f).payload).isFragment = false) :
    s.classifyLane f = if s.toPayment (readIp (readEth f).payload) then
      (if (readIp (readEth f).payload).isUdp && (readIp (readEth f).payload).udpWhole then
        s.takePayment (readEth f) (readIp (readEth f).payload) else s.raise .notUdp)
      else s.bridge .lane f := by
  rw [s.classifyLane_passing f h hm hp, if_neg (by rw [(readEth f).isIp_iff.2 hi]; decide), if_neg]
  rw [Bool.and_eq_true, not_and_or, IpView.isUdp_iff, Bool.not_eq_true]
  exact hw

end Ip
end Passing

theorem State.takePayment_unknown (e : EthFrame) (v : IpView) (h : s.tillAddressed e.src = none) :
    s.takePayment e v = s.raise .unknownTill := by rw [State.takePayment, h]

theorem State.takePayment_till (e : EthFrame) (v : IpView) (i : TillIx) (h : s.tillAddressed e.src = some i) :
    s.takePayment e v = if v.udpPayload.length < 10 then s.raise .shortSegment (till := some i)
      else s.takeSegment i (returnPath e v) v.udpPayload := by rw [State.takePayment, h]

end Lane

/-- Settles O20, by the rows of R21 and R22 in their order. -/
theorem laneFrameOutcomes : Obligations.LaneFrameOutcomes := by
  refine ⟨exec_rxFrame_closed, fun s p f hrx up bad => ?_, frameGood_iff, fun s f hrx up good => ?_⟩
  · rw [exec_rxFrame_open s p f hrx up, s.receive_bad p f bad]
  intro e v outcome
  have leads : ∀ u, s.classifyLane f = u → outcome u := fun u hu => by
    change exec (.rxFrame .lane f) s = .next u.settle
    rw [exec_rxFrame_open s .lane f hrx up, s.receive_lane f good, hu]
  refine ⟨fun ht => leads _ (s.classifyLane_tagged f ht), fun ht hm => leads _ (s.classifyLane_mgmt f ht hm),
    fun ht hm hp => leads _ (s.classifyLane_toPart f ht hm hp), fun ht hm hp =>
      ⟨fun hi => leads _ (s.classifyLane_other f ht hm hp hi), fun hi hu hf => leads _ (s.classifyLane_fragment f ht hm hp hi hu hf),
        fun hi hw hd => leads _ ?_, fun hi hw hd hn => leads _ ?_, fun hi hu hf hd hl => ?_⟩⟩
  · rw [s.classifyLane_whole f ht hm hp hi hw]
    exact if_neg (Bool.eq_false_iff.1 hd)
  · rw [s.classifyLane_whole f ht hm hp hi hw, if_pos hd, if_neg]
    rw [Bool.and_eq_true, not_and_or, IpView.isUdp_iff, Bool.not_eq_true]
    exact hn
  · have payment : s.classifyLane f = s.takePayment e v := by
      rw [s.classifyLane_whole f ht hm hp hi (.inr hf), if_pos hd]
      exact if_pos (Bool.and_eq_true_iff.2 ⟨v.isUdp_iff.2 hu, hl⟩)
    refine ⟨fun hn => leads _ (payment.trans (s.takePayment_unknown e v hn)), fun i hi => ⟨fun short => leads _ ?_, fun long => leads _ ?_⟩⟩
    · exact (payment.trans (s.takePayment_till e v i hi)).trans (if_pos short)
    · exact (payment.trans (s.takePayment_till e v i hi)).trans (if_neg (Nat.not_lt.2 long))

/-! ### The Uplink port (R23) -/

section Uplink

variable (s : State) (f : Bytes)

theorem State.classifyUplink_tagged (h : 2 ≤ (readEth f).tags.length) : s.classifyUplink f = s.raise .multiTag := if_pos h

theorem State.classifyUplink_mgmt (h : (readEth f).tags.length < 2) (hm : s.isMgmt (readEth f) = true) :
    s.classifyUplink f = if s.toPart (readEth f) then s.arrive f else s.raise .unclaimed := (if_neg (Nat.not_le.2 h)).trans (if_pos hm)

theorem State.arrive_room (h : s.mgmt.arrivals.length < Config.arrivalDepth) :
    s.arrive f = { s with mgmt := { s.mgmt with arrivals := s.mgmt.arrivals ++ [f] } } := if_pos h

theorem State.arrive_full (h : Config.arrivalDepth ≤ s.mgmt.arrivals.length) : s.arrive f = s.raise .mgmtOverflow :=
  if_neg (Nat.not_lt.2 h)

section Unmanaged

variable (h : (readEth f).tags.length < 2) (hm : s.isMgmt (readEth f) = false)
include h hm

theorem State.classifyUplink_asks (ha : s.asksForPart (readEth f) = true) : s.classifyUplink f = s.answerAddress (readEth f) :=
  ((if_neg (Nat.not_le.2 h)).trans (if_neg (Bool.eq_false_iff.1 hm))).trans (if_pos ha)

/-- A frame that is neither a management frame nor an address request goes by its contents (R23). -/
theorem State.classifyUplink_rest (ha : s.asksForPart (readEth f) = false) : s.classifyUplink f =
    let e := readEth f
    let v := readIp e.payload
    if e.isIp && v.isUdp && v.isFragment && s.gatewayIp v.src then s.raise .fragment
    else match s.gatewayTraffic e v with
      | some .acquirer => s.takeReply v.udpPayload
      | some .drain => s.takeAck v.udpPayload
      | some .probe => s.takeProbeAnswer v.udpPayload
      | none => if s.toPart e then s.raise .unclaimed else s.bridge .uplink f :=
  ((if_neg (Nat.not_le.2 h)).trans (if_neg (Bool.eq_false_iff.1 hm))).trans (if_neg (Bool.eq_false_iff.1 ha))

end Unmanaged
end Uplink

theorem exec_rxFrame_uplink (s : State) (f : Bytes) (hrx : s.rxOpen = true) (up : s.uplink.linkUp = true) (good : frameGood f = true) :
    exec (.rxFrame .uplink f) s = .next (s.classifyUplink f).settle := by
  rw [exec_rxFrame_open s .uplink f hrx up, s.receive_uplink f good]

/-! ### Gateway traffic (R24) -/

theorem mem_allProfiles (i : ProfIx) : i ∈ allProfiles := by revert i; decide

/-- A gateway at 0.0.0.0 matches no source (R24). -/
theorem Gateway.matches_iff (g : Gateway) (ip : Ip) (port : Nat) :
    (g.ip != 0 && g.ip == ip && g.port == port) = true ↔ ip ≠ 0 ∧ g.ip = ip ∧ g.port = port := by
  simp only [Bool.and_eq_true, bne_iff_ne, beq_iff_eq]
  exact ⟨fun ⟨⟨h0, hi⟩, hp⟩ => ⟨hi ▸ h0, hi, hp⟩, fun ⟨h0, hi, hp⟩ => ⟨⟨hi ▸ h0, hi⟩, hp⟩⟩

theorem State.matchesKind_iff (s : State) (k : GatewayKind) (ip : Ip) (port : Nat) :
    s.matchesKind k ip port = true ↔ ip ≠ 0 ∧ ∃ g ∈ s.gateways k, g.ip = ip ∧ g.port = port := by
  simp only [State.matchesKind, List.any_eq_true, Gateway.matches_iff]
  exact ⟨fun ⟨g, hg, h0, h⟩ => ⟨h0, g, hg, h⟩, fun ⟨h0, g, hg, h⟩ => ⟨g, hg, h0, h⟩⟩

/-- A source is some gateway's when a gateway of some kind has its address (R23). -/
theorem State.gatewayIp_iff (s : State) (ip : Ip) : s.gatewayIp ip = true ↔ ip ≠ 0 ∧ ∃ k, ∃ g ∈ s.gateways k, g.ip = ip := by
  simp only [State.gatewayIp, List.any_eq_true, Bool.and_eq_true, bne_iff_ne, beq_iff_eq]
  constructor
  · rintro ⟨k, -, g, hg, h0, hi⟩
    exact ⟨hi ▸ h0, k, g, hg, hi⟩
  · rintro ⟨h0, k, g, hg, hi⟩
    exact ⟨k, by cases k <;> simp, g, hg, hi ▸ h0, hi⟩

/-- The acquirer gateways are those of the eight profiles. -/
theorem State.mem_gateways_acquirer (s : State) (g : Gateway) :
    g ∈ s.gateways .acquirer ↔ ∃ i : ProfIx, (s.settings.profiles[i]).gateway = g := by
  simp only [State.gateways, List.mem_map, mem_allProfiles, true_and, State.profile]

theorem State.mem_gateways_drain (s : State) (g : Gateway) : g ∈ s.gateways .drain ↔ g = s.settings.store.drainGw := List.mem_singleton

theorem State.mem_gateways_probe (s : State) (g : Gateway) : g ∈ s.gateways .probe ↔ g = s.settings.store.probeGw := List.mem_singleton

theorem State.matchesKind_acquirer (s : State) (ip : Ip) (port : Nat) : s.matchesKind .acquirer ip port = true ↔
    ip ≠ 0 ∧ ∃ i : ProfIx, (s.settings.profiles[i]).gateway.ip = ip ∧ (s.settings.profiles[i]).gateway.port = port := by
  simp only [State.matchesKind_iff, State.mem_gateways_acquirer, exists_exists_eq_and]

theorem State.matchesKind_drain (s : State) (ip : Ip) (port : Nat) : s.matchesKind .drain ip port = true ↔
    ip ≠ 0 ∧ s.settings.store.drainGw.ip = ip ∧ s.settings.store.drainGw.port = port := by
  simp only [State.matchesKind_iff, State.mem_gateways_drain, exists_eq_left]

theorem State.matchesKind_probe (s : State) (ip : Ip) (port : Nat) : s.matchesKind .probe ip port = true ↔
    ip ≠ 0 ∧ s.settings.store.probeGw.ip = ip ∧ s.settings.store.probeGw.port = port := by
  simp only [State.matchesKind_iff, State.mem_gateways_probe, exists_eq_left]

theorem State.gatewayIp_kinds (s : State) (ip : Ip) : s.gatewayIp ip = true ↔
    ip ≠ 0 ∧ ((∃ i : ProfIx, (s.settings.profiles[i]).gateway.ip = ip) ∨ s.settings.store.drainGw.ip = ip
      ∨ s.settings.store.probeGw.ip = ip) := by
  have kinds : (∃ k, ∃ g ∈ s.gateways k, g.ip = ip) ↔
      (∃ g ∈ s.gateways .acquirer, g.ip = ip) ∨ (∃ g ∈ s.gateways .drain, g.ip = ip) ∨ ∃ g ∈ s.gateways .probe, g.ip = ip := by
    constructor
    · rintro ⟨k, h⟩
      cases k
      · exact .inl h
      · exact .inr (.inl h)
      · exact .inr (.inr h)
    · rintro (h | h | h) <;> exact ⟨_, h⟩
  rw [State.gatewayIp_iff, kinds]
  simp only [State.mem_gateways_acquirer, State.mem_gateways_drain, State.mem_gateways_probe, exists_eq_left, exists_exists_eq_and]

/-- What makes a frame gateway traffic (R24). -/
theorem State.gatewayTraffic_meant (s : State) (e : EthFrame) (v : IpView) :
    (e.isIp && v.isUdp && !v.isFragment && s.toPart e && v.dst == s.settings.store.ownIp) = true ↔
      e.etype = 0x0800 ∧ v.protocol = 17 ∧ v.isFragment = false ∧ s.identity.map (·.mac) = some e.dst ∧ v.dst = s.settings.store.ownIp := by
  simp only [Bool.and_eq_true, EthFrame.isIp_iff, IpView.isUdp_iff, Bool.not_eq_true', State.toPart, beq_iff_eq, and_assoc]

section Consumer

variable (s : State) (ip : Ip) (port n : Nat)

/-- One kind of gateway alone matches, or none: the payload's length has no part in it (R24). -/
theorem State.consumer_single {a d p : Bool} (ha : s.matchesKind .acquirer ip port = a) (hd : s.matchesKind .drain ip port = d)
    (hp : s.matchesKind .probe ip port = p) :
    (a = false → d = false → p = false → s.consumer ip port n = none)
      ∧ (a = true → d = false → p = false → s.consumer ip port n = some .acquirer)
      ∧ (a = false → d = true → p = false → s.consumer ip port n = some .drain)
      ∧ (a = false → d = false → p = true → s.consumer ip port n = some .probe) := by
  refine ⟨?_, ?_, ?_, ?_⟩ <;> rintro rfl rfl rfl <;> simp only [State.consumer, ha, hd, hp]

/-- Two kinds match at least: the payload's length chooses (R24). -/
theorem State.consumer_several {a d p : Bool} (ha : s.matchesKind .acquirer ip port = a) (hd : s.matchesKind .drain ip port = d)
    (hp : s.matchesKind .probe ip port = p) (h : (a && d || a && p || d && p) = true) :
    s.consumer ip port n =
      if n = 13 ∧ d = true then some .drain else if n = 14 ∧ p = true then some .probe else if a = true then some .acquirer else some .drain := by
  simp only [Bool.or_eq_true, Bool.and_eq_true] at h
  rcases h with (⟨rfl, rfl⟩ | ⟨rfl, rfl⟩) | ⟨rfl, rfl⟩
  · cases p <;> simp only [State.consumer, ha, hd, hp]
  · cases d <;> simp only [State.consumer, ha, hd, hp]
  · cases a <;> simp only [State.consumer, ha, hd, hp]

end Consumer

/-! ### Address requests (R25) -/

theorem State.asksForPart_iff (s : State) (e : EthFrame) : s.asksForPart e = true ↔
    s.identity.isSome = true ∧ s.settings.store.ownIp ≠ 0 ∧ e.etype = 0x0806 ∧ 28 ≤ e.payload.length ∧ field e.payload 0 2 = 1
      ∧ field e.payload 2 2 = 0x0800 ∧ field e.payload 4 1 = 6 ∧ field e.payload 5 1 = 4 ∧ field e.payload 6 2 = 1
      ∧ field e.payload 24 4 = s.settings.store.ownIp.toNat := by
  simp only [State.asksForPart, State.hasIdentity, isAddressRequest, Bool.and_eq_true, bne_iff_ne, beq_iff_eq, decide_eq_true_eq, ne_eq,
    and_assoc]

/-- The part's answer to an address request (R25). -/
def State.addressFrame (s : State) (e : EthFrame) : TxFrame :=
  { bytes := ethFrame (BitVec.ofNat 48 (field e.payload 8 6)) s.ownMac e.tags.head? 0x0806
      (addressAnswer s.ownMac s.settings.store.ownIp e.payload)
    isReset := false }

theorem State.responderWaits_iff (s : State) : s.waitOrder.any (fun x => x.1 == .responder) = true ↔ ∃ x ∈ s.waitOrder, x.1 = .responder := by
  simp

theorem State.answerAddress_waiting (s : State) (e : EthFrame) (h : ∃ x ∈ s.waitOrder, x.1 = .responder) :
    s.answerAddress e = s.raise .unclaimed := if_pos (s.responderWaits_iff.2 h)

theorem State.answerAddress_offers (s : State) (e : EthFrame) (h : ∀ x ∈ s.waitOrder, x.1 ≠ .responder) :
    s.answerAddress e = s.offerUplink .responder (s.addressFrame e) :=
  if_neg (mt s.responderWaits_iff.1 fun ⟨x, hx, hr⟩ => h x hx hr)

/-- The table of R24, one clause for each of its rows. -/
theorem State.consumer_table (s : State) (ip : Ip) (port n : Nat) :
    let a := s.matchesKind .acquirer ip port = true
    let d := s.matchesKind .drain ip port = true
    let p := s.matchesKind .probe ip port = true
    (¬ a → ¬ d → ¬ p → s.consumer ip port n = none)
      ∧ (a → ¬ d → ¬ p → s.consumer ip port n = some .acquirer) ∧ (¬ a → d → ¬ p → s.consumer ip port n = some .drain)
      ∧ (¬ a → ¬ d → p → s.consumer ip port n = some .probe)
      ∧ (d → (a ∨ p) → n = 13 → s.consumer ip port n = some .drain)
      ∧ (p → (a ∨ d) → n = 14 → s.consumer ip port n = some .probe)
      ∧ (a → (d ∨ p) → ¬ (n = 13 ∧ d) → ¬ (n = 14 ∧ p) → s.consumer ip port n = some .acquirer)
      ∧ (¬ a → d → p → n ≠ 14 → s.consumer ip port n = some .drain) := by
  intro a d p
  obtain ⟨none_matches, acquirer, drain, probe⟩ := s.consumer_single ip port n rfl rfl rfl
  have several := s.consumer_several ip port n rfl rfl rfl
  simp only [Bool.or_eq_true, Bool.and_eq_true] at several
  simp only [Bool.not_eq_true, a, d, p]
  refine ⟨none_matches, acquirer, drain, probe, fun hd h hn => ?_, fun hp h hn => ?_, fun ha h h13 h14 => ?_, fun ha hd hp hn => ?_⟩
  · rw [several (h.elim (fun ha => .inl (.inl ⟨ha, hd⟩)) fun hp => .inr ⟨hd, hp⟩), if_pos ⟨hn, hd⟩]
  · rw [several (h.elim (fun ha => .inl (.inr ⟨ha, hp⟩)) fun hd => .inr ⟨hd, hp⟩),
      if_neg fun hc => absurd (hn.symm.trans hc.1) (by decide), if_pos ⟨hn, hp⟩]
  · rw [several (.inl (h.imp (⟨ha, ·⟩) (⟨ha, ·⟩))), if_neg h13, if_neg h14, if_pos ha]
  · rw [several (.inr ⟨hd, hp⟩), if_neg fun hc : n = 14 ∧ _ => hn hc.1, if_neg (Bool.eq_false_iff.1 ha)]
    exact ite_self _

/-- Settles O28, by the rows of R23, the tables of R24, and R25. -/
theorem uplinkFrameOutcomes : Obligations.UplinkFrameOutcomes := by
  refine ⟨fun s f hrx up good => ?_, fun s e v => ?_, fun s ip port => ⟨s.matchesKind_acquirer ip port, s.matchesKind_drain ip port,
    s.matchesKind_probe ip port, s.gatewayIp_kinds ip⟩, State.consumer_table, State.asksForPart_iff, fun s e => ?_⟩
  · intro e v outcome
    have leads : ∀ u, s.classifyUplink f = u → outcome u := fun u hu => by
      change exec (.rxFrame .uplink f) s = .next u.settle
      rw [exec_rxFrame_uplink s f hrx up good, hu]
    refine ⟨fun ht => leads _ (s.classifyUplink_tagged f ht), fun ht hm hp => leads _ ?_, fun ht hm hp => ?_,
      fun ht hm ha => leads _ (s.classifyUplink_asks f ht hm ha), fun ht hm ha => ?_⟩
    · exact (s.classifyUplink_mgmt f ht hm).trans (if_neg (Bool.eq_false_iff.1 hp))
    · have arrives : s.classifyUplink f = s.arrive f := (s.classifyUplink_mgmt f ht hm).trans (if_pos hp)
      exact ⟨fun room => leads _ (arrives.trans (s.arrive_room f room)), fun full => leads _ (arrives.trans (s.arrive_full f full))⟩
    · have rest := s.classifyUplink_rest f ht hm ha
      refine ⟨fun hi hu hf hg => leads _ (rest.trans (if_pos (by simp [hi, hu, hf, hg, e, v]))), fun hn => ?_⟩
      have sorted := rest.trans (if_neg (Bool.eq_false_iff.1 hn))
      refine ⟨fun hg => leads _ ?_, fun hg => leads _ ?_, fun hg => leads _ ?_, fun hg hp => leads _ ?_, fun hg hp => leads _ ?_⟩
      · rw [sorted, hg]
      · rw [sorted, hg]
      · rw [sorted, hg]
      · rw [sorted, hg]; exact if_pos hp
      · rw [sorted, hg]; exact if_neg (Bool.eq_false_iff.1 hp)
  · intro meant
    have traffic := s.gatewayTraffic_meant e v
    exact ⟨fun h => if_pos (traffic.2 h), fun h => if_neg (mt traffic.1 h)⟩
  · intro answer
    refine ⟨s.answerAddress_waiting e, fun h => ?_, fun hw hr => ?_⟩
    · rw [s.answerAddress_offers e (by rw [h.1]; nofun), s.offerUplink_open _ _ h]
      rfl
    · rw [s.answerAddress_offers e hr, s.offerUplink_waits _ _ hw]
      rfl

end Sys2Proof.Machine
end

section
/-! PROOFS. The transmit side and the physical links (R17, R19, R20, R142, R165, R168, R183): a transmission's start and end, a place freed, a link lost
and restored; it settles O32 and O34. -/

namespace Sys2Proof.Machine

/-! ### The waiting order served (R19) -/

theorem State.uplink_placed (s : State) (w : Waiter) : (s.placed w).uplink = s.uplink := by
  cases w with
  | ctx i =>
    unfold State.placed
    dsimp only
    split
    · rfl
    · split
      · rfl
      · exact (congrArg State.uplink (State.ctxToIdle_frame _ i) :)
  | drain => unfold State.placed; dsimp only; split <;> rfl
  | monitor => unfold State.placed; dsimp only; split <;> rfl
  | mgmt => rfl
  | responder => rfl

/-- The head of the waiting order takes a freed place. -/
def State.serveNext (s : State) (x : Waiter × TxFrame) : State :=
  (State.placePriority { s with waitOrder := s.waitOrder.drop 1 } .uplink x.2).placed x.1

theorem State.waitOrder_serveNext (s : State) (x : Waiter × TxFrame) : (s.serveNext x).waitOrder = s.waitOrder.drop 1 := by
  rw [State.serveNext, State.waitOrder_placed, (State.placePriority_places _ _ _).2]

theorem State.serveUplink_none (s : State) (h : s.waitOrder = []) : s.serveUplink = s := by rw [State.serveUplink, h, List.foldl_nil]

/-- The one place freed in a full queue goes to the head of the waiting order (R19). -/
theorem State.serveUplink_one (s : State) (w : Waiter) (g : TxFrame) (more : List (Waiter × TxFrame)) (up : s.uplink.linkUp = true)
    (hlen : s.uplink.priority.length = 31) (hw : s.waitOrder = (w, g) :: more) :
    s.serveUplink = State.placed
      { s with waitOrder := more, uplink := { s.uplink with priority := s.uplink.priority ++ [g] } } w := by
  have room : s.uplink.priority.length < Config.priorityDepth := by rw [hlen]; decide
  have first := State.placePriority_uplink_up { s with waitOrder := s.waitOrder.drop 1 } g up
  rw [State.serveUplink, hw, List.foldl_cons, if_pos room, first, List.foldl_fixed']
  · rw [hw]
    rfl
  · intro x
    refine if_neg ?_
    rw [State.uplink_placed]
    simp [hlen, Config.priorityDepth]

/-! ### Transmission (R17, R183) -/

theorem exec_transmitStart_ready (s : State) (p : Port) (idle : (s.port p).sending = none) (up : (s.port p).linkUp = true) :
    exec (.transmitStart p) s = .next (s.startSending p).settle :=
  congrArg Host.Outcome.next (if_pos (by rw [idle, up]; rfl))

theorem exec_transmitStart_not_ready (s : State) (p : Port) (h : (s.port p).sending.isSome = true ∨ (s.port p).linkUp = false) :
    exec (.transmitStart p) s = .next s :=
  congrArg Host.Outcome.next (if_neg (by
    rw [Bool.and_eq_true, not_and_or, Option.isNone_iff_eq_none, Bool.not_eq_true]
    exact h.imp_left Option.ne_none_iff_isSome.2))

theorem exec_transmitEnd_idle (s : State) (p : Port) (h : (s.port p).sending = none) : exec (.transmitEnd p) s = .next s := by
  refine congrArg Host.Outcome.next ?_
  rw [h]

theorem exec_transmitEnd_sending (s : State) (p : Port) (f : TxFrame) (h : (s.port p).sending = some f) :
    exec (.transmitEnd p) s = .next (s.finishSending p f) := by
  refine congrArg Host.Outcome.next ?_
  rw [h]

theorem State.startSending_lane (s : State) (f : TxFrame) (rest : List TxFrame) (h : s.lane.priority = f :: rest) :
    s.startSending .lane = { s with lane := { s.lane with priority := rest, sending := some f } } := by
  simp only [State.startSending, State.port, h]
  rfl

theorem State.startSending_uplink (s : State) (f : TxFrame) (rest : List TxFrame) (h : s.uplink.priority = f :: rest) :
    s.startSending .uplink = State.serveUplink { s with uplink := { s.uplink with priority := rest, sending := some f } } := by
  simp only [State.startSending, State.port, h]
  rfl

theorem State.startSending_bridge (s : State) (p : Port) (f : TxFrame) (rest : List TxFrame) (hp : (s.port p).priority = [])
    (hb : (s.port p).bridge = f :: rest) :
    s.startSending p = s.setPort p { s.port p with bridge := rest, sending := some f } := by
  simp only [State.startSending, hp, hb]

/-- A drain frame placed: its record's line has its deadline, and counts as a damaged notice where the record fails its check (R165, R170). -/
theorem State.placed_drain_line (s : State) (q : Nat) (hq : s.drain.inHand = some q) (l : IndexLine) (hl : l ∈ s.holding.lines)
    (held : l.held = true) (seq : l.head.seq = q) :
    ∃ notice : Bool, (l.noticed = true → notice = true)
      ∧ (∀ (v : NvSlot) (r : HeldRecord), s.holding.nv.find? (fun x => x.slot == l.slot) = some v → v.contents = some r →
          notice = (l.noticed || !r.checkPasses))
      ∧ { l with deadline := some (s.now + 1000 * s.settings.store.ackTimeout), noticed := notice } ∈ (s.placed .drain).holding.lines := by
  rw [s.placed_drain q hq]
  refine ⟨l.noticed || !(s.holding.recordAt l).checkPasses, fun hn => by rw [hn]; rfl, fun v r hv hr => ?_, List.mem_map.2 ⟨l, hl, ?_⟩⟩
  · rw [s.holding.recordAt_of_find l v r hv hr]
  · rw [if_pos (by simp [held, seq])]
    rfl

/-- Nothing of sector 1 is touched by a reset that cuts no FULL-ERASE short (R188, R190). -/
theorem State.sec1_beginReset (s : State) (st : Startup) (h : s.erasing = false) : (s.beginReset st).store.sec1 = s.store.sec1 := by
  have cut : s.cutHolding.store = s.store ∧ s.cutHolding.erasing = false := by
    unfold State.cutHolding
    split
    · exact ⟨rfl, h⟩
    · split
      · exact ⟨rfl, h⟩
      · split <;> exact ⟨rfl, h⟩
  have whole : s.cutHolding.cutErase = s.cutHolding := if_neg (by rw [cut.2]; decide)
  have zeroised : ∀ t : State, t.finishZeroise.store.sec1 = t.store.sec1 := by
    intro t
    unfold State.finishZeroise
    split
    · rfl
    · split <;> rfl
  change s.cutHolding.cutErase.finishZeroise.store.sec1 = s.store.sec1
  rw [zeroised, whole, cut.1]

theorem State.finishSending_plain (s : State) (p : Port) (f : TxFrame) (h : f.isReset = false) :
    s.finishSending p f = s.setPort p { s.port p with sending := none } := if_neg (by rw [h]; decide)

/-- The response to RESET has left the port: the reset begins (R183). -/
theorem State.finishSending_reset (s : State) (p : Port) (f : TxFrame) (h : f.isReset = true) :
    ∃ t : State, t.erasing = s.erasing ∧ t.store = s.store ∧ s.finishSending p f = t.beginReset .reading := by
  refine ⟨_, ?_, ?_, (if_pos h).trans (if_pos rfl)⟩ <;> cases p <;> rfl

/-- Settles O32, by the port, the queue and the kind of frame. -/
theorem transmissionTakesTheHeadAndFreesThePort : Obligations.TransmissionTakesTheHeadAndFreesThePort := by
  refine ⟨fun s f rest idle up hq => ?_, fun s f rest idle up hw hq => ?_, fun s f g rest w more idle up hw hq hlen => ?_,
    fun s p f rest idle up hp hb => ?_, exec_transmitStart_not_ready, fun s p f hf hr => ?_, fun s p f hf hr => ?_, exec_transmitEnd_idle⟩
  · rw [exec_transmitStart_ready s .lane idle up, s.startSending_lane f rest hq]
  · rw [exec_transmitStart_ready s .uplink idle up, s.startSending_uplink f rest hq]
    exact congrArg (fun u => Host.Outcome.next (State.settle u)) (State.serveUplink_none _ hw)
  · obtain ⟨t, ht⟩ : ∃ t : State, t =
        { s with waitOrder := more, uplink := { s.uplink with priority := rest ++ [g], sending := some f } } := ⟨_, rfl⟩
    have served : s.startSending .uplink = t.placed w := by
      rw [s.startSending_uplink f rest hq, ht]
      exact State.serveUplink_one { s with uplink := { s.uplink with priority := rest, sending := some f } } w g more up hlen hw
    refine ⟨t.placed w, ?_, ?_, ?_, ?_, ?_⟩
    · rw [exec_transmitStart_ready s .uplink idle up, served]
    · rw [State.uplink_placed, ht]
    · rw [State.uplink_placed, ht]
    · rw [State.waitOrder_placed, ht]
    · rintro q rfl hd
      have inHand : t.drain.inHand = some q := by rw [ht]; exact hd
      have drain : (t.placed .drain).drain = { t.drain with inHand := none } := congrArg State.drain (t.placed_drain q inHand)
      have line := t.placed_drain_line q inHand
      rw [ht] at line drain ⊢
      exact ⟨drain, line⟩
  · rw [exec_transmitStart_ready s p idle up, s.startSending_bridge p f rest hp hb]
  · rw [exec_transmitEnd_sending s p f hf, s.finishSending_plain p f hr]
  · obtain ⟨t, erasing, store, ends⟩ := s.finishSending_reset p f hr
    refine ⟨_, exec_transmitEnd_sending s p f hf, ?_⟩
    rw [ends]
    refine ⟨rfl, rfl, rfl, rfl, rfl, rfl, fun he => ?_⟩
    rw [t.sec1_beginReset _ (erasing.trans he), store]

/-! ### Frames discarded (R20) -/

theorem State.discardFrame_frame (s : State) (f : TxFrame) :
    s.discardFrame f = { s with events := (s.discardFrame f).events, mgmt := (s.discardFrame f).mgmt } := by
  unfold State.discardFrame
  dsimp only
  split <;> rfl

theorem State.count_discardFrame (s : State) (f : TxFrame) (e : EventCode) : (s.discardFrame f).count e = (s.raise .linkDiscard).count e := by
  unfold State.discardFrame
  dsimp only
  split <;> rfl

/-- Every frame of a list is discarded. -/
def State.discardAll (s : State) (l : List TxFrame) : State := l.foldl State.discardFrame s

theorem State.discardAll_frame (s : State) (l : List TxFrame) :
    s.discardAll l = { s with events := (s.discardAll l).events, mgmt := (s.discardAll l).mgmt } := by
  obtain ⟨events, mgmt, h⟩ : ∃ events mgmt, s.discardAll l = { s with events := events, mgmt := mgmt } := by
    induction l generalizing s with
    | nil => exact ⟨_, _, rfl⟩
    | cons f l ih =>
      obtain ⟨events, mgmt, h⟩ := ih (s.discardFrame f)
      exact ⟨events, mgmt, h.trans (by rw [s.discardFrame_frame f])⟩
  rw [h]

/-- Each discarded frame is counted once, up to the counter's maximum. -/
theorem State.count_discardAll (s : State) (l : List TxFrame) (h : s.count .linkDiscard ≤ 65535) :
    (s.discardAll l).count .linkDiscard = min (s.count .linkDiscard + l.length) 65535 := by
  induction l generalizing s with
  | nil => exact (min_eq_left h).symm
  | cons f l ih =>
    have one : (s.discardFrame f).count .linkDiscard = min (s.count .linkDiscard + 1) 65535 :=
      (s.count_discardFrame f _).trans (s.count_raise_self ..)
    change ((s.discardFrame f).discardAll l).count .linkDiscard = _
    rw [ih _ (by omega), one, List.length_cons]
    omega

theorem State.count_discardAll_ne (s : State) (l : List TxFrame) {e : EventCode} (h : e ≠ .linkDiscard) :
    (s.discardAll l).count e = s.count e := by
  induction l generalizing s with
  | nil => rfl
  | cons f l ih => exact (ih _).trans ((s.count_discardFrame f e).trans (s.count_raise_ne _ _ _ h))

/-! ### The loss of the Uplink link, reported (R142) -/

theorem State.link_leaveUp (s : State) : s.leaveUp.link = { s.link with settleTimer := none, settled := false } := by
  unfold State.leaveUp State.leaveRunning
  split <;> rfl

theorem State.events_leaveUp (s : State) : s.leaveUp.events = s.events := by
  unfold State.leaveUp State.leaveRunning
  split <;> rfl

/-- A block other than the Drain Controller goes on waiting when the line leaves UP. -/
theorem State.waits_leaveUp (s : State) (x : Waiter × TxFrame) (hx : x ∈ s.waitOrder) (h : x.1 ≠ .drain) : x ∈ s.leaveUp.waitOrder := by
  unfold State.leaveUp State.leaveRunning
  split
  · exact List.mem_filter.2 ⟨hx, bne_iff_ne.2 h⟩
  · exact hx

/-- The Link Monitor knows that the physical link is down. -/
def State.unplugged (s : State) : State := { s with link := { s.link with physicalUp := false } }

theorem State.physicalLoss_eq (s : State) : s.physicalLoss = match s.link.state with
    | .up => ((s.unplugged.leaveUp).raise .linkDown).setLink .down 0
    | .suspect => (s.unplugged.raise .linkDown).setLink .down 0
    | .down => s.unplugged
    | .recovering => s.unplugged.setLink .down 0 := rfl

theorem State.physicalLoss_up (s : State) (h : s.link.state = .up) :
    s.physicalLoss = ((s.unplugged.leaveUp).raise .linkDown).setLink .down 0 := by rw [s.physicalLoss_eq, h]

theorem State.physicalLoss_suspect (s : State) (h : s.link.state = .suspect) :
    s.physicalLoss = (s.unplugged.raise .linkDown).setLink .down 0 := by rw [s.physicalLoss_eq, h]

theorem State.physicalLoss_down (s : State) (h : s.link.state = .down) : s.physicalLoss = s.unplugged := by rw [s.physicalLoss_eq, h]

theorem State.physicalLoss_recovering (s : State) (h : s.link.state = .recovering) : s.physicalLoss = s.unplugged.setLink .down 0 := by
  rw [s.physicalLoss_eq, h]

theorem State.physicalLoss_linkOnly (s : State) : LinkOnly s s.physicalLoss := by
  have unplugged : LinkOnly s s.unplugged := ⟨_, _, _, _, _, rfl⟩
  cases h : s.link.state
  · rw [s.physicalLoss_up h]
    exact (unplugged.trans (State.leaveUp_linkOnly _)).trans ⟨_, _, _, _, _, rfl⟩
  · rw [s.physicalLoss_suspect h]
    exact ⟨_, _, _, _, _, rfl⟩
  · rw [s.physicalLoss_down h]
    exact unplugged
  · rw [s.physicalLoss_recovering h]
    exact ⟨_, _, _, _, _, rfl⟩

/-- The line is DOWN, and a line that was not has its run at 0 (R142). -/
theorem State.link_physicalLoss (s : State) : s.physicalLoss.link.state = .down ∧ s.physicalLoss.link.physicalUp = false
    ∧ (s.link.state ≠ .down → s.physicalLoss.link.run = 0) := by
  cases h : s.link.state
  · rw [s.physicalLoss_up h]
    refine ⟨rfl, ?_, fun _ => rfl⟩
    change s.unplugged.leaveUp.link.physicalUp = false
    rw [State.link_leaveUp]
    rfl
  · rw [s.physicalLoss_suspect h]
    exact ⟨rfl, rfl, fun _ => rfl⟩
  · rw [s.physicalLoss_down h]
    exact ⟨h, rfl, fun hn => absurd rfl hn⟩
  · rw [s.physicalLoss_recovering h]
    exact ⟨rfl, rfl, fun _ => rfl⟩

/-- The events of a loss: LINK-DOWN where the line was UP or SUSPECT, and none otherwise. -/
theorem State.events_physicalLoss (s : State) : s.physicalLoss.events =
    if s.link.state = .up ∨ s.link.state = .suspect then (s.raise .linkDown).events else s.events := by
  cases h : s.link.state
  · rw [s.physicalLoss_up h, if_pos (.inl rfl)]
    simp only [State.setLink_events, State.raise, State.events_leaveUp]
    rfl
  · rw [s.physicalLoss_suspect h, if_pos (.inr rfl)]
    rfl
  · rw [s.physicalLoss_down h, if_neg (by decide)]
    rfl
  · rw [s.physicalLoss_recovering h, if_neg (by decide)]
    rfl

theorem State.count_congr {s t : State} (h : t.events = s.events) (e : EventCode) : t.count e = s.count e := by rw [State.count, h]; rfl

theorem State.count_physicalLoss_linkDown (s : State) : s.physicalLoss.count .linkDown =
    if s.link.state = .up ∨ s.link.state = .suspect then min (s.count .linkDown + 1) 65535 else s.count .linkDown := by
  have events := s.events_physicalLoss
  split
  · rename_i h
    rw [if_pos h] at events
    exact (State.count_congr (s := s.raise .linkDown) events _).trans (s.count_raise_self ..)
  · rename_i h
    rw [if_neg h] at events
    exact State.count_congr events _

theorem State.count_physicalLoss_ne (s : State) {e : EventCode} (he : e ≠ .linkDown) : s.physicalLoss.count e = s.count e := by
  have events := s.events_physicalLoss
  split at events
  · exact (State.count_congr (s := s.raise .linkDown) events _).trans (s.count_raise_ne _ _ _ he)
  · exact State.count_congr events _

theorem State.waits_physicalLoss (s : State) (x : Waiter × TxFrame) (hx : x ∈ s.waitOrder) (hd : x.1 ≠ .drain) :
    x ∈ s.physicalLoss.waitOrder := by
  cases h : s.link.state
  · rw [s.physicalLoss_up h, State.setLink_waitOrder, State.raise_waitOrder]
    exact s.unplugged.waits_leaveUp x hx hd
  · rw [s.physicalLoss_suspect h]
    exact hx
  · rw [s.physicalLoss_down h]
    exact hx
  · rw [s.physicalLoss_recovering h]
    exact hx

/-- With nothing waiting, a loss leaves nothing waiting. -/
theorem State.waitOrder_physicalLoss_nil (s : State) (h : s.waitOrder = []) : s.physicalLoss.waitOrder = [] := by
  cases hs : s.link.state
  · rw [s.physicalLoss_up hs, State.setLink_waitOrder, State.raise_waitOrder]
    unfold State.leaveUp State.leaveRunning
    split
    · change s.waitOrder.filter _ = []
      rw [h, List.filter_nil]
    · exact h
  · rw [s.physicalLoss_suspect hs]
    exact h
  · rw [s.physicalLoss_down hs]
    exact h
  · rw [s.physicalLoss_recovering hs]
    exact h

/-- A RUNNING drain is ARMED when the line leaves UP, and its pass has ended (R168). -/
theorem State.drain_physicalLoss (s : State) (up : s.link.state = .up) (running : s.drain.state = .running) :
    s.physicalLoss.drain = { s.drain with state := .armed, cursor := 0, inHand := none }
      ∧ s.physicalLoss.holding.lines = s.holding.lines.map (fun l => { l with draining := false, deadline := none }) := by
  rw [s.physicalLoss_up up, s.unplugged.leaveUp_eq running]
  exact ⟨rfl, rfl⟩

/-! ### The waiting order served with the link down (R20, log 8) -/

/-- With the link down a frame taken from the waiting order is discarded, and its block goes on. -/
theorem State.serveNext_down (s : State) (x : Waiter × TxFrame) (down : s.uplink.linkUp = false) :
    s.serveNext x = (State.discardFrame { s with waitOrder := s.waitOrder.drop 1 } x.2).placed x.1 := by
  have placed : State.placePriority { s with waitOrder := s.waitOrder.drop 1 } .uplink x.2 =
      State.discardFrame { s with waitOrder := s.waitOrder.drop 1 } x.2 := if_neg (Bool.eq_false_iff.1 down)
  rw [State.serveNext, placed]

theorem State.uplink_serveNext_down (s : State) (x : Waiter × TxFrame) (down : s.uplink.linkUp = false) : (s.serveNext x).uplink = s.uplink := by
  rw [s.serveNext_down x down, State.uplink_placed, State.discardFrame_frame]

/-- What every turn of serving keeps while the Uplink stays as it is, serving keeps. -/
theorem foldl_serveNext_down (P : State → Prop) (turn : ∀ t x, t.uplink.linkUp = false → P t → P (t.serveNext x)) :
    ∀ (l : List (Waiter × TxFrame)) (s : State), s.uplink.linkUp = false → P s →
      P (l.foldl State.serveNext s) ∧ (l.foldl State.serveNext s).uplink = s.uplink
  | [], _, _, h => ⟨h, rfl⟩
  | x :: l, s, down, h => by
    have same := s.uplink_serveNext_down x down
    obtain ⟨hp, hu⟩ := foldl_serveNext_down P turn l (s.serveNext x) (by rw [same]; exact down) (turn s x down h)
    exact ⟨hp, hu.trans same⟩

/-- With the link down every waiting frame finds room. -/
theorem State.serveUplink_down (s : State) (down : s.uplink.linkUp = false) (room : s.uplink.priority.length < Config.priorityDepth) :
    s.serveUplink = s.waitOrder.foldl State.serveNext s := by
  have all : ∀ (l : List (Waiter × TxFrame)) (t : State), t.uplink = s.uplink →
      l.foldl (fun t x => if t.uplink.priority.length < Config.priorityDepth then t.serveNext x else t) t = l.foldl State.serveNext t := by
    intro l
    induction l with
    | nil => exact fun _ _ => rfl
    | cons x l ih =>
      intro t ht
      rw [List.foldl_cons, List.foldl_cons, if_pos (by rw [ht]; exact room)]
      exact ih _ ((t.uplink_serveNext_down x (by rw [ht]; exact down)).trans ht)
  exact all s.waitOrder s rfl

theorem waitOrder_foldl_serveNext (l : List (Waiter × TxFrame)) (s : State) :
    (l.foldl State.serveNext s).waitOrder = s.waitOrder.drop l.length := by
  induction l generalizing s with
  | nil => rfl
  | cons x l ih => rw [List.foldl_cons, ih, State.waitOrder_serveNext, List.drop_drop, List.length_cons, Nat.add_comm]

/-- While the Drain Controller has nothing in hand, placing frames leaves it and the Holding Store alone. -/
theorem State.drain_placed (s : State) (w : Waiter) (h : s.drain.inHand = none) :
    (s.placed w).drain = s.drain ∧ (s.placed w).holding = s.holding := by
  cases w with
  | ctx i =>
    unfold State.placed
    dsimp only
    split
    · exact ⟨rfl, rfl⟩
    · split
      · exact ⟨rfl, rfl⟩
      · rw [State.ctxToIdle_frame]
        exact ⟨rfl, rfl⟩
  | drain => simp only [State.placed, h, and_self]
  | monitor => unfold State.placed; dsimp only; split <;> exact ⟨rfl, rfl⟩
  | mgmt => exact ⟨rfl, rfl⟩
  | responder => exact ⟨rfl, rfl⟩

theorem State.drain_serveNext_down (s : State) (x : Waiter × TxFrame) (down : s.uplink.linkUp = false) (h : s.drain.inHand = none) :
    (s.serveNext x).drain = s.drain ∧ (s.serveNext x).holding = s.holding := by
  obtain ⟨t, ht⟩ : ∃ t : State, t = State.discardFrame { s with waitOrder := s.waitOrder.drop 1 } x.2 := ⟨_, rfl⟩
  have drain : t.drain = s.drain := by rw [ht, State.discardFrame_frame]
  have holding : t.holding = s.holding := by rw [ht, State.discardFrame_frame]
  obtain ⟨sameDrain, sameHolding⟩ := t.drain_placed x.1 (by rw [drain]; exact h)
  rw [s.serveNext_down x down, ← ht]
  exact ⟨sameDrain.trans drain, sameHolding.trans holding⟩

/-- An Outstanding entry stands for a wrap's message (R102). -/
def OutEntry.isOf (e : OutEntry) (w : Wrap) (m : TillMsg) : Prop :=
  e.till = w.till ∧ e.reference = m.reference ∧ e.slot = w.slot ∧ e.counter = w.counter

/-- The context's wrap has gone on: it is IDLE, and an entry stands for its message (R102). -/
def State.sentOn (s : State) (i : CtxIx) (w : Wrap) (m : TillMsg) : Prop := s.ctx i = idleCtx ∧ ∃ e ∈ s.outstanding, e.isOf w m

/-- What placing a block's frame does to a context: its own is sent on, if it has a message. -/
theorem State.placed_sendsOn (s : State) (i : CtxIx) (w : Wrap) (m : TillMsg) (hw : (s.ctx i).wrap = some w) (hm : w.msg = some m) :
    (s.placed (.ctx i)).sentOn i w m := by
  rw [s.placed_ctx i w m hw hm]
  refine ⟨by rw [State.ctx_ctxToIdle, if_pos rfl], s.newEntry w m, ?_, ⟨rfl, rfl, rfl, rfl⟩⟩
  rw [State.ctxToIdle_frame]
  exact List.mem_append_right _ (List.mem_singleton.2 rfl)

/-- Placing a frame changes no other context, and takes no entry off the list. -/
theorem State.placed_others (s : State) (y : Waiter) (i : CtxIx) (h : y ≠ .ctx i ∨ (s.ctx i).wrap = none) :
    (s.placed y).ctx i = s.ctx i ∧ s.outstanding ⊆ (s.placed y).outstanding := by
  cases y with
  | ctx j =>
    unfold State.placed
    dsimp only
    split
    · exact ⟨rfl, List.Subset.refl _⟩
    · rename_i w hw
      split
      · exact ⟨rfl, List.Subset.refl _⟩
      · have hij : i ≠ j := by
          rintro rfl
          rcases h with h | h
          · exact h rfl
          · rw [h] at hw; cases hw
        rw [State.ctx_ctxToIdle, if_neg hij, State.ctxToIdle_frame]
        exact ⟨rfl, List.subset_append_left _ _⟩
  | drain => unfold State.placed; dsimp only; split <;> exact ⟨rfl, List.Subset.refl _⟩
  | monitor => unfold State.placed; dsimp only; split <;> exact ⟨rfl, List.Subset.refl _⟩
  | mgmt => exact ⟨rfl, List.Subset.refl _⟩
  | responder => exact ⟨rfl, List.Subset.refl _⟩

/-- The contexts and the list, a frame discarded. -/
theorem State.ctx_discardNext (s : State) (x : Waiter × TxFrame) (i : CtxIx) :
    (State.discardFrame { s with waitOrder := s.waitOrder.drop 1 } x.2).ctx i = s.ctx i
      ∧ (State.discardFrame { s with waitOrder := s.waitOrder.drop 1 } x.2).outstanding = s.outstanding := by
  rw [State.discardFrame_frame]
  exact ⟨rfl, rfl⟩

theorem State.sentOn_serveNext (s : State) (x : Waiter × TxFrame) (i : CtxIx) (w : Wrap) (m : TillMsg) (down : s.uplink.linkUp = false)
    (h : s.sentOn i w m) : (s.serveNext x).sentOn i w m := by
  obtain ⟨idle, e, he, hof⟩ := h
  obtain ⟨ctx, out⟩ := s.ctx_discardNext x i
  obtain ⟨same, grown⟩ := State.placed_others _ x.1 i (.inr (by rw [ctx, idle]; rfl))
  rw [s.serveNext_down x down]
  exact ⟨same.trans (ctx.trans idle), e, grown (by rw [out]; exact he), hof⟩

/-- A context whose frame waits at a lost link is sent on, its frame discarded (R20, log 8). -/
theorem sentOn_foldl_serveNext (i : CtxIx) (f : TxFrame) (w : Wrap) (m : TillMsg) (hm : w.msg = some m) (l : List (Waiter × TxFrame))
    (s : State) (hx : (.ctx i, f) ∈ l) (down : s.uplink.linkUp = false) (hw : (s.ctx i).wrap = some w) :
    (l.foldl State.serveNext s).sentOn i w m := by
  induction l generalizing s with
  | nil => cases hx
  | cons x l ih =>
    have ctx := (s.ctx_discardNext x i).1
    have still : (s.serveNext x).uplink.linkUp = false := by rw [s.uplink_serveNext_down x down]; exact down
    rw [List.foldl_cons]
    by_cases hi : x.1 = .ctx i
    · have sent : (s.serveNext x).sentOn i w m := by
        rw [s.serveNext_down x down, hi]
        exact State.placed_sendsOn _ i w m (by rw [ctx]; exact hw) hm
      exact (foldl_serveNext_down (fun t => t.sentOn i w m) (fun t y hd => t.sentOn_serveNext y i w m hd) l _ still sent).1
    · have other : (.ctx i, f) ∈ l := (List.mem_cons.1 hx).resolve_left fun e => hi (congrArg Prod.fst e.symm)
      have same : ((s.serveNext x).ctx i).wrap = some w := by
        rw [s.serveNext_down x down, (State.placed_others _ x.1 i (.inl hi)).1, ctx]
        exact hw
      exact ih _ other still same

/-! ### A link lost and restored (R20, R142) -/

/-- A port's link is down, and the frames of both its queues are discarded (R20). -/
def State.emptied (s : State) (p : Port) : State :=
  State.discardAll (s.setPort p { s.port p with priority := [], bridge := [], linkUp := false }) ((s.port p).priority ++ (s.port p).bridge)

theorem State.emptied_frame (s : State) (p : Port) : s.emptied p =
    { s.setPort p { s.port p with priority := [], bridge := [], linkUp := false } with
      events := (s.emptied p).events, mgmt := (s.emptied p).mgmt } := State.discardAll_frame _ _

theorem State.count_setPort (s : State) (p : Port) (x : PortState) (e : EventCode) : (s.setPort p x).count e = s.count e := by cases p <;> rfl

theorem State.count_emptied (s : State) (p : Port) (h : s.count .linkDiscard ≤ 65535) :
    (s.emptied p).count .linkDiscard =
      min (s.count .linkDiscard + ((s.port p).priority.length + (s.port p).bridge.length)) 65535 := by
  rw [State.emptied, State.count_discardAll _ _ (by rw [State.count_setPort]; exact h), State.count_setPort, List.length_append]

theorem State.count_emptied_ne (s : State) (p : Port) {e : EventCode} (h : e ≠ .linkDiscard) : (s.emptied p).count e = s.count e := by
  rw [State.emptied, State.count_discardAll_ne _ _ h, State.count_setPort]

/-- The Uplink's loss as the Link Monitor has taken it. -/
def State.reportedLoss (s : State) : State := if (s.emptied .uplink).monitoring then (s.emptied .uplink).physicalLoss else s.emptied .uplink

theorem State.loseLink_uplink (s : State) : s.loseLink .uplink = s.reportedLoss.serveUplink := rfl

theorem State.monitoring_iff (s : State) : s.monitoring = true ↔ s.opState = .serving ∨ s.opState = .lockdown := by
  simp only [State.monitoring, Bool.or_eq_true, beq_iff_eq]

theorem State.monitoring_emptied (s : State) : (s.emptied .uplink).monitoring = s.monitoring := by
  rw [State.monitoring, State.emptied_frame]
  rfl

theorem State.reportedLoss_monitoring (s : State) (h : s.opState = .serving ∨ s.opState = .lockdown) :
    s.reportedLoss = (s.emptied .uplink).physicalLoss := if_pos (by rw [s.monitoring_emptied]; exact s.monitoring_iff.2 h)

theorem State.reportedLoss_quiet (s : State) (h : s.opState = .starting ∨ s.opState = .factory) : s.reportedLoss = s.emptied .uplink := by
  refine if_neg ?_
  rw [s.monitoring_emptied, s.monitoring_iff]
  rcases h with h | h <;> rw [h] <;> decide

/-- What the report of a loss does not touch. -/
theorem State.reportedLoss_linkOnly (s : State) : LinkOnly (s.emptied .uplink) s.reportedLoss := by
  unfold State.reportedLoss
  split
  · exact State.physicalLoss_linkOnly _
  · exact LinkOnly.refl _

theorem State.uplink_reportedLoss (s : State) :
    s.reportedLoss.uplink = { priority := [], bridge := [], sending := s.uplink.sending, linkUp := false } := by
  obtain ⟨_, _, _, _, _, h⟩ := s.reportedLoss_linkOnly
  rw [h, State.emptied_frame]
  rfl

theorem State.ctx_reportedLoss (s : State) (i : CtxIx) : s.reportedLoss.ctx i = s.ctx i := by
  obtain ⟨_, _, _, _, _, h⟩ := s.reportedLoss_linkOnly
  rw [h, State.emptied_frame]
  rfl

theorem State.waitOrder_emptied (s : State) (p : Port) : (s.emptied p).waitOrder = s.waitOrder := by
  rw [State.emptied_frame]
  cases p <;> rfl

theorem State.waits_reportedLoss (s : State) (x : Waiter × TxFrame) (hx : x ∈ s.waitOrder) (hd : x.1 ≠ .drain) :
    x ∈ s.reportedLoss.waitOrder := by
  rw [← s.waitOrder_emptied .uplink] at hx
  unfold State.reportedLoss
  split
  · exact State.waits_physicalLoss _ x hx hd
  · exact hx

theorem State.waitOrder_reportedLoss_nil (s : State) (h : s.waitOrder = []) : s.reportedLoss.waitOrder = [] := by
  rw [← s.waitOrder_emptied .uplink] at h
  unfold State.reportedLoss
  split
  · exact State.waitOrder_physicalLoss_nil _ h
  · exact h

theorem State.count_reportedLoss_ne (s : State) {e : EventCode} (h : e ≠ .linkDown) : s.reportedLoss.count e = (s.emptied .uplink).count e := by
  unfold State.reportedLoss
  split
  · exact State.count_physicalLoss_ne _ h
  · rfl

/-- The waiting order served at the lost link. -/
theorem State.loseLink_serves (s : State) : s.loseLink .uplink = s.reportedLoss.waitOrder.foldl State.serveNext s.reportedLoss := by
  have uplink := s.uplink_reportedLoss
  rw [s.loseLink_uplink]
  exact State.serveUplink_down _ (by rw [uplink]) (by rw [uplink]; exact (by decide : 0 < Config.priorityDepth))

theorem exec_physicalLinkLost_up (s : State) (p : Port) (h : (s.port p).linkUp = true) :
    exec (.physicalLinkLost p) s = .next (s.loseLink p).settle := congrArg Host.Outcome.next (if_pos h)

theorem exec_physicalLinkLost_down (s : State) (p : Port) (h : (s.port p).linkUp = false) : exec (.physicalLinkLost p) s = .next s :=
  congrArg Host.Outcome.next (if_neg (Bool.eq_false_iff.1 h))

theorem exec_physicalLinkRestored_up (s : State) (p : Port) (h : (s.port p).linkUp = true) : exec (.physicalLinkRestored p) s = .next s :=
  congrArg Host.Outcome.next (if_pos h)

theorem exec_physicalLinkRestored_lane (s : State) (h : s.lane.linkUp = false) :
    exec (.physicalLinkRestored .lane) s = .next { s with lane := { s.lane with linkUp := true } } :=
  congrArg Host.Outcome.next (if_neg (Bool.eq_false_iff.1 h))

theorem exec_physicalLinkRestored_uplink (s : State) (h : s.uplink.linkUp = false) :
    exec (.physicalLinkRestored .uplink) s = .next
      (if s.monitoring then State.physicalReturn { s with uplink := { s.uplink with linkUp := true } }
       else { s with uplink := { s.uplink with linkUp := true } }) :=
  congrArg Host.Outcome.next (if_neg (Bool.eq_false_iff.1 h))

/-- The Uplink's loss with nothing waiting: what is discarded, and what the Link Monitor takes (R20, R142). -/
theorem State.loseLink_uplink_unwaited (s : State) (hw : s.waitOrder = []) (hc : s.count .linkDiscard ≤ 65535) :
    let u := s.loseLink .uplink
    u.uplink = { priority := [], bridge := [], sending := s.uplink.sending, linkUp := false }
      ∧ u.count .linkDiscard = min (s.count .linkDiscard + (s.uplink.priority.length + s.uplink.bridge.length)) 65535
      ∧ ((s.opState = .serving ∨ s.opState = .lockdown) →
          u.link.state = .down ∧ u.link.physicalUp = false
            ∧ (s.link.state ≠ .down → u.link.run = 0)
            ∧ u.count .linkDown =
                (if s.link.state = .up ∨ s.link.state = .suspect then min (s.count .linkDown + 1) 65535 else s.count .linkDown))
      ∧ ((s.opState = .starting ∨ s.opState = .factory) → u.link = s.link ∧ u.count .linkDown = s.count .linkDown) := by
  have lost : s.loseLink .uplink = s.reportedLoss := (s.loseLink_uplink).trans (State.serveUplink_none _ (s.waitOrder_reportedLoss_nil hw))
  have link : (s.emptied .uplink).link = s.link := by rw [State.emptied_frame]; rfl
  have linkDown : (s.emptied .uplink).count .linkDown = s.count .linkDown := s.count_emptied_ne .uplink (by decide)
  rw [lost]
  refine ⟨s.uplink_reportedLoss, (s.count_reportedLoss_ne (by decide)).trans (s.count_emptied .uplink hc), fun h => ?_, fun h => ?_⟩
  · rw [s.reportedLoss_monitoring h]
    obtain ⟨state, physical, run⟩ := (s.emptied .uplink).link_physicalLoss
    have count := (s.emptied .uplink).count_physicalLoss_linkDown
    rw [link] at run count
    rw [linkDown] at count
    exact ⟨state, physical, run, count⟩
  · rw [s.reportedLoss_quiet h]
    exact ⟨link, linkDown⟩

/-- What becomes of the frames that wait at a lost link, the drain's given up before (logs 8 and 73). -/
theorem State.loseLink_uplink_waiting (s : State) :
    let u := s.loseLink .uplink
    u.waitOrder = [] ∧ u.uplink = { priority := [], bridge := [], sending := s.uplink.sending, linkUp := false }
      ∧ ((s.opState = .serving ∨ s.opState = .lockdown) → s.link.state = .up → s.drain.state = .running →
          u.drain = { s.drain with state := .armed, cursor := 0, inHand := none }
            ∧ u.holding.lines = s.holding.lines.map (fun l => { l with draining := false, deadline := none }))
      ∧ ∀ (i : CtxIx) (f : TxFrame) (w : Wrap) (m : TillMsg), (.ctx i, f) ∈ s.waitOrder → (s.ctx i).wrap = some w → w.msg = some m →
          u.sentOn i w m := by
  have uplink := s.uplink_reportedLoss
  have down : s.reportedLoss.uplink.linkUp = false := by rw [uplink]
  rw [s.loseLink_serves]
  refine ⟨?_, ?_, fun h up running => ?_, fun i f w m hx hw hm => ?_⟩
  · rw [waitOrder_foldl_serveNext, List.drop_length]
  · exact (foldl_serveNext_down (fun _ => True) (fun _ _ _ _ => trivial) _ _ down trivial).2.trans uplink
  · have fields : (s.emptied .uplink).link = s.link ∧ (s.emptied .uplink).drain = s.drain ∧ (s.emptied .uplink).holding = s.holding := by
      rw [State.emptied_frame]
      exact ⟨rfl, rfl, rfl⟩
    obtain ⟨link, drain, holding⟩ := fields
    have ended := (s.emptied .uplink).drain_physicalLoss (by rw [link]; exact up) (by rw [drain]; exact running)
    rw [← s.reportedLoss_monitoring h, drain, holding] at ended
    refine (foldl_serveNext_down (fun t => t.drain = { s.drain with state := .armed, cursor := 0, inHand := none }
      ∧ t.holding.lines = s.holding.lines.map (fun l => { l with draining := false, deadline := none })) ?_ _ _ down ended).1
    rintro t x hd ⟨hdrain, hlines⟩
    obtain ⟨sameDrain, sameHolding⟩ := t.drain_serveNext_down x hd (by rw [hdrain])
    exact ⟨sameDrain.trans hdrain, by rw [sameHolding]; exact hlines⟩
  · exact sentOn_foldl_serveNext i f w m hm _ _ (s.waits_reportedLoss _ hx nofun) down (by rw [s.ctx_reportedLoss]; exact hw)

/-- Settles O34, by the port and by what waits at it. -/
theorem linkLossDiscardsAndRestorationRecovers : Obligations.LinkLossDiscardsAndRestorationRecovers := by
  refine ⟨fun s up hc => ⟨s.emptied .lane, exec_physicalLinkLost_up s .lane up, ?_, s.count_emptied .lane hc, ?_⟩,
    fun s up hw hc => ⟨_, exec_physicalLinkLost_up s .uplink up, s.loseLink_uplink_unwaited hw hc⟩,
    fun s up => ⟨_, exec_physicalLinkLost_up s .uplink up, s.loseLink_uplink_waiting⟩, fun s down h hl => ?_, fun s down h => ?_,
    exec_physicalLinkRestored_lane, fun s p q f hpq room down => s.bridge_down f hpq room down,
    fun s p => ⟨exec_physicalLinkRestored_up s p, exec_physicalLinkLost_down s p⟩⟩
  · rw [State.emptied_frame]
    rfl
  · rw [State.emptied_frame]
    exact ⟨rfl, rfl⟩
  · rw [exec_physicalLinkRestored_uplink s down, if_pos (s.monitoring_iff.2 h)]
    exact congrArg Host.Outcome.next (if_pos hl)
  · rw [exec_physicalLinkRestored_uplink s down, if_neg]
    rw [s.monitoring_iff]
    rcases h with h | h <;> rw [h] <;> decide

end Sys2Proof.Machine
end

section
/-! PROOFS. The Counter Table and the Till Table as every step keeps them (R38, R40, R48, R50), first part: what it takes to keep both, and what the
shared operations keep. -/

namespace Sys2Proof.Machine

/-! ### What keeps both tables -/

/-- From one state to the other the Counter Table stays within its bounds (R48, R50) and the Till Entries stay sound (R38, R40). -/
structure KeepsTables (s t : State) : Prop where
  counters : s.countersBounded → t.countersBounded
  tills : s.tillsSound → t.tillsSound

/-- What the bounds of the Counter Table are about. -/
def State.counterPart (s : State) : Vector (Vector CounterEntry 128) 16 × Option Write3 × Sector Sector3 :=
  (s.counters.entries, s.counters.inFlight, s.store.sec3)

/-- What the soundness of the Till Entries is about, beside the bindings. -/
def State.sector1Part (s : State) : Sector Sector1 × Option (Option Sector1) := (s.store.sec1, s.writer1.inFlight)

theorem countersBounded_congr {s t : State} (same : t.counterPart = s.counterPart) (h : s.countersBounded) : t.countersBounded := by
  simp only [State.counterPart, Prod.mk.injEq] at same
  obtain ⟨entries, inFlight, sec3⟩ := same
  simpa only [State.countersBounded, State.ctr, entries, inFlight, sec3] using h

/-- Bindings that all stood before with their address and number are sound where those were. -/
theorem bindingsSound_of_kept {b c : TillIx → Option Binding} (h : bindingsSound b)
    (kept : ∀ i x, c i = some x → ∃ y, b i = some y ∧ x.mac = y.mac ∧ x.number = y.number) : bindingsSound c := by
  obtain ⟨formed, distinct⟩ := h
  refine ⟨fun i x hx => ?_, fun i j x y hx hy hij => ?_⟩
  · obtain ⟨x', hx', mac, number⟩ := kept i x hx
    rw [mac, number]
    exact formed i x' hx'
  · obtain ⟨x', hx', xmac, xnumber⟩ := kept i x hx
    obtain ⟨y', hy', ymac, ynumber⟩ := kept j y hy
    rw [xmac, xnumber, ymac, ynumber]
    exact distinct i j x' y' hx' hy' hij

/-- A binding of its own address and number takes its place among sound ones. -/
theorem bindingsSound_of_bound {b c : TillIx → Option Binding} (h : bindingsSound b) (i : TillIx) (x : Binding) (here : c i = some x)
    (others : ∀ j, j ≠ i → c j = b j) (mac : x.mac ≠ 0) (single : isGroup x.mac = false) (low : 1 ≤ x.number) (high : x.number ≤ 9999)
    (own : ∀ j y, j ≠ i → b j = some y → y.mac ≠ x.mac ∧ y.number ≠ x.number) : bindingsSound c := by
  obtain ⟨formed, distinct⟩ := h
  refine ⟨fun j y hy => ?_, fun j k y z hy hz hjk => ?_⟩
  · by_cases e : j = i
    · rw [e, here] at hy
      cases hy
      exact ⟨mac, single, low, high⟩
    · exact formed j y (others j e ▸ hy)
  · by_cases ej : j = i
    · have ek : k ≠ i := fun e => hjk (ej.trans e.symm)
      rw [ej, here] at hy
      cases hy
      obtain ⟨m, n⟩ := own k z ek (others k ek ▸ hz)
      exact ⟨m.symm, n.symm⟩
    · by_cases ek : k = i
      · rw [ek, here] at hz
        cases hz
        exact own j y ej (others j ej ▸ hy)
      · exact distinct j k y z (others j ej ▸ hy) (others k ek ▸ hz) hjk

namespace KeepsTables

variable {s t u : State}

theorem refl (s : State) : KeepsTables s s := ⟨id, id⟩

theorem trans (h : KeepsTables s t) (h' : KeepsTables t u) : KeepsTables s u := ⟨h'.counters ∘ h.counters, h'.tills ∘ h.tills⟩

theorem ite {c : Prop} [Decidable c] (h : c → KeepsTables s t) (h' : ¬ c → KeepsTables s u) : KeepsTables s (if c then t else u) := by
  split <;> [exact h ‹_›; exact h' ‹_›]

theorem foldl {β : Type} (f : State → β → State) (hf : ∀ a b, KeepsTables a (f a b)) (l : List β) (s : State) :
    KeepsTables s (l.foldl f s) :=
  foldl_rel KeepsTables refl (fun _ _ _ => trans) f hf l s

/-- Neither the counters nor sectors 1 and 3 with their writes have changed, and no binding but in its `enabled` setting or by leaving. -/
theorem of_kept (same : (t.counterPart, t.sector1Part) = (s.counterPart, s.sector1Part))
    (kept : ∀ i x, (t.till i).binding = some x → ∃ y, (s.till i).binding = some y ∧ x.mac = y.mac ∧ x.number = y.number) :
    KeepsTables s t := by
  simp only [Prod.mk.injEq, State.sector1Part] at same
  obtain ⟨counters, sec1, inFlight⟩ := same
  refine ⟨countersBounded_congr counters, fun ⟨table, sector, write⟩ => ⟨bindingsSound_of_kept table kept, ?_, ?_⟩⟩
  · rwa [sec1]
  · rwa [inFlight]

/-- Nothing has changed but what the two invariants do not speak of: of the Till Entries, all but the bindings. -/
theorem of_same (same : (t.counterPart, t.sector1Part) = (s.counterPart, s.sector1Part))
    (bindings : ∀ i, (t.till i).binding = (s.till i).binding) : KeepsTables s t :=
  of_kept same fun i x hx => ⟨x, bindings i ▸ hx, rfl, rfl⟩

/-- Neither table, nor sector 1 or 3 or a write of them, has changed. -/
theorem of_rest (same : (t.counterPart, t.sector1Part, t.tills) = (s.counterPart, s.sector1Part, s.tills)) : KeepsTables s t := by
  simp only [Prod.mk.injEq] at same
  obtain ⟨counters, sector1, tills⟩ := same
  exact of_same (Prod.ext counters sector1) fun i => by rw [State.till, tills]; rfl

/-- Of what the invariants speak of, only the counters have changed. -/
theorem of_counters (same : (t.sector1Part, t.tills) = (s.sector1Part, s.tills)) (h : s.countersBounded → t.countersBounded) :
    KeepsTables s t := by
  simp only [Prod.mk.injEq, State.sector1Part] at same
  obtain ⟨⟨sec1, inFlight⟩, tills⟩ := same
  refine ⟨h, fun hs => ?_⟩
  simpa only [State.tillsSound, State.till, sec1, inFlight, tills] using hs

theorem of_replies (h : RepliesOnly s t) (bindings : ∀ i, (t.till i).binding = (s.till i).binding) : KeepsTables s t := by
  refine of_same ?_ bindings
  rw [h.eq]
  rfl

theorem of_linkOnly (h : LinkOnly s t) : KeepsTables s t := by
  obtain ⟨_, _, _, _, _, rfl⟩ := h
  exact of_rest rfl

end KeepsTables

theorem SameTill.binding {x y : Till} (h : SameTill x y) : y.binding = x.binding := by
  obtain ⟨_, rfl⟩ := h
  rfl

/-! ### Tills, events and replies -/

theorem State.setTill_keepsTables (s : State) (i : TillIx) (x : Till)
    (h : ∀ y, x.binding = some y → ∃ z, (s.till i).binding = some z ∧ y.mac = z.mac ∧ y.number = z.number) :
    KeepsTables s (s.setTill i x) := by
  refine .of_kept rfl fun j y hy => ?_
  rw [State.till_setTill] at hy
  by_cases e : j = i
  · rw [if_pos e] at hy
    exact e ▸ h y hy
  · rw [if_neg e] at hy
    exact ⟨y, hy, rfl, rfl⟩

/-- A Till Entry changes in what is not its binding. -/
theorem State.setTill_bound_keepsTables (s : State) (i : TillIx) (x : Till) (h : x.binding = (s.till i).binding) :
    KeepsTables s (s.setTill i x) :=
  s.setTill_keepsTables i x fun y hy => ⟨y, h ▸ hy, rfl, rfl⟩

theorem State.raise_keepsTables (s : State) (e : EventCode) (a : Option TillIx) (b : Option SlotIx) (c : Option Location) :
    KeepsTables s (s.raise e a b c) := .of_rest rfl

theorem State.sendReply_keepsTables (s : State) (p : ReturnPath) (b : Bytes) : KeepsTables s (s.sendReply p b) :=
  .of_replies (s.sendReply_repliesOnly p b) fun i => by rw [State.till_sendReply]

theorem State.localReply_keepsTables (s : State) (i : TillIx) (n r : Nat) (p : ReturnPath) (x : LocalReply) :
    KeepsTables s (s.localReply i n r p x) :=
  .of_replies (s.localReply_repliesOnly i n r p x) fun j => (s.localReply_sameTill i j n r p x).binding

theorem State.replyTo_keepsTables (s : State) (i : TillIx) (m : TillMsg) (x : LocalReply) : KeepsTables s (s.replyTo i m x) :=
  s.localReply_keepsTables ..

theorem State.refuseQueue_keepsTables (s : State) (i : TillIx) (x : LocalReply) : KeepsTables s (s.refuseQueue i x) :=
  (s.setTill_bound_keepsTables i { s.till i with queue := [] } rfl).trans (.foldl _ (fun t m => t.replyTo_keepsTables i m x) _ _)

theorem refuseQueues_keepsTables (l : List TillIx) (x : LocalReply) (s : State) :
    KeepsTables s (l.foldl (fun s i => s.refuseQueue i x) s) :=
  .foldl _ (fun t i => t.refuseQueue_keepsTables i x) l s

theorem State.refuseIfBarred_keepsTables (s : State) (i : TillIx) : KeepsTables s (s.refuseIfBarred i) := by
  unfold State.refuseIfBarred
  split
  · exact .refl s
  · exact s.refuseQueue_keepsTables i _

/-! ### Counter entries and sector writes (R48 to R51, R68) -/

theorem State.setCtr_keepsTables (s : State) (k : SlotIx) (i : TillIx) (e : CounterEntry) (h : (s.ctr k i).ok → e.ok) :
    KeepsTables s (s.setCtr k i e) := by
  refine .of_counters rfl fun ⟨entries, sector, write⟩ => ⟨fun l j => ?_, sector, write⟩
  rw [State.ctr_setCtr]
  split
  · exact h (entries k i)
  · exact entries l j

theorem State.mapJobs_keepsTables (s : State) (f : Job → Job) : KeepsTables s (s.mapJobs f) := .of_rest rfl

/-- The write of sector 1 that begins holds the bindings as they stand (R67, R68). -/
theorem State.kick1_keepsTables (s : State) : KeepsTables s s.kick1 := by
  refine .ite (fun _ => .refl s) fun _ => .ite (fun _ => ?_) fun _ => .ite (fun _ => ?_) fun _ => .refl s
  · exact ⟨countersBounded_congr rfl, fun ⟨table, sector, _⟩ => ⟨table, sector, nofun⟩⟩
  · refine ⟨countersBounded_congr rfl, fun ⟨table, sector, _⟩ => ⟨table, sector, fun c hc => ?_⟩⟩
    have held : c = s.sector1 := by cases hc; rfl
    subst held
    refine bindingsSound_of_kept table fun i x hx => ⟨x, ?_, rfl, rfl⟩
    simpa [State.sector1, State.till] using hx

theorem State.kick2_keepsTables (s : State) : KeepsTables s s.kick2 := by rw [s.kick2_frame]; exact .of_rest rfl

/-- What a sector 3 write records of a pair (R51, R60). -/
theorem State.sector3_read (s : State) (acts : List SlotIx) (k : SlotIx) (i : TillIx) :
    ((s.sector3 acts)[k])[i] = if acts.contains k then Config.raiseStep else (s.ctr k i).raise.getD (s.ctr k i).k := by
  simp only [State.sector3, State.ctr, Fin.getElem_fin, Vector.getElem_ofFn]
  split <;> simp

/-- What a sector 3 write records is within the bounds that the entries are in (R48, R51). -/
theorem State.sector3_bounded (s : State) (acts : List SlotIx) (h : ∀ k i, (s.ctr k i).ok) : sectorBounded (s.sector3 acts) := by
  intro k i
  obtain ⟨-, bound, target⟩ := h k i
  rw [s.sector3_read]
  split
  · decide
  · cases hr : (s.ctr k i).raise with
    | none => exact bound
    | some t => exact (target t hr).2

theorem State.kick3_keepsTables (s : State) : KeepsTables s s.kick3 := by
  refine .ite (fun _ => .refl s) fun _ => .ite (fun _ => s.mapJobs_keepsTables _) fun _ => ?_
  refine .of_counters rfl fun ⟨entries, sector, _⟩ => ⟨entries, sector, fun w hw => ?_⟩
  have held : w.contents = s.sector3 s.counters.activations := by cases hw; rfl
  rw [held]
  exact s.sector3_bounded _ entries

theorem State.request2_keepsTables (s : State) (adds : List KeyAddition) : KeepsTables s (s.request2 adds) := by
  rw [s.request2_frame]; exact .of_rest rfl

theorem State.request1_keepsTables (s : State) : KeepsTables s s.request1 := by
  have wanted : KeepsTables s { s with writer1 := { s.writer1 with wanted := true } } := .of_rest rfl
  exact wanted.trans (State.kick1_keepsTables _)

theorem CounterEntry.ok.raised {e : CounterEntry} (h : e.ok) : { e with raise := some (min (e.k + Config.raiseStep) Config.spent) }.ok := by
  obtain ⟨next, bound, -⟩ := h
  refine ⟨next, bound, fun t ht => ?_⟩
  cases ht
  exact ⟨le_min (Nat.le_add_right _ _) bound, min_le_right _ _⟩

theorem CounterEntry.ok.unraised {e : CounterEntry} (h : e.ok) (b : Bool) : { e with raise := none, failed := b }.ok := ⟨h.1, h.2.1, nofun⟩

theorem CounterEntry.ok.advanced {e : CounterEntry} (h : e.ok) (room : e.c < e.k) : { e with c := e.c + 1 }.ok := ⟨room, h.2⟩

theorem State.requestRaise_keepsTables (s : State) (k : SlotIx) (i : TillIx) : KeepsTables s (s.requestRaise k i) := by
  have requested : ∀ (t : State) (p : List (SlotIx × TillIx)), KeepsTables t { t with counters := { t.counters with pending := p } } :=
    fun _ _ => .of_rest rfl
  exact (s.setCtr_keepsTables k i _ CounterEntry.ok.raised).trans (requested _ _)

/-! ### Contexts, the Uplink Priority Queue and Outstanding places -/

theorem State.ctxToIdle_keepsTables (s : State) (i : CtxIx) : KeepsTables s (s.ctxToIdle i) := by
  have idle : ∀ t : State, KeepsTables t (t.setCtx i idleCtx) := fun _ => .of_rest rfl
  unfold State.ctxToIdle
  split
  · exact idle s
  · rename_i w _
    have cleared : KeepsTables s (if w.formerTill then s else s.setTill w.till { s.till w.till with wrapInFlight := false }) :=
      .ite (fun _ => .refl s) fun _ => s.setTill_bound_keepsTables _ _ rfl
    exact cleared.trans (idle _)

theorem State.discardFrame_keepsTables (s : State) (f : TxFrame) : KeepsTables s (s.discardFrame f) := by
  rw [s.discardFrame_frame f]; exact .of_rest rfl

theorem State.setPort_keepsTables (s : State) (p : Port) (x : PortState) : KeepsTables s (s.setPort p x) := by cases p <;> exact .of_rest rfl

theorem State.placePriority_keepsTables (s : State) (p : Port) (f : TxFrame) : KeepsTables s (s.placePriority p f) :=
  .ite (fun _ => s.setPort_keepsTables p _) fun _ => s.discardFrame_keepsTables f

theorem State.bridge_keepsTables (s : State) (p : Port) (b : Bytes) : KeepsTables s (s.bridge p b) :=
  .ite (fun _ => .ite (fun _ => s.setPort_keepsTables _ _) fun _ => s.raise_keepsTables ..) fun _ => s.raise_keepsTables ..

theorem State.placed_keepsTables (s : State) (w : Waiter) : KeepsTables s (s.placed w) := by
  have entered : ∀ l : List OutEntry, KeepsTables s { s with outstanding := l } := fun _ => .of_rest rfl
  unfold State.placed
  split
  · split
    · exact .refl s
    · split
      · exact .refl s
      · exact (entered _).trans (State.ctxToIdle_keepsTables _ _)
  · split <;> [exact .refl s; exact .of_rest rfl]
  · split <;> [exact .refl s; exact .of_rest rfl]
  · exact .of_rest rfl
  · exact .refl s

theorem State.offerUplink_keepsTables (s : State) (w : Waiter) (f : TxFrame) : KeepsTables s (s.offerUplink w f) :=
  .ite (fun _ => (s.placePriority_keepsTables .uplink f).trans (State.placed_keepsTables _ w)) fun _ => .of_rest rfl

theorem State.serveUplink_keepsTables (s : State) : KeepsTables s s.serveUplink := by
  have served : ∀ t : State, KeepsTables t { t with waitOrder := t.waitOrder.drop 1 } := fun _ => .of_rest rfl
  exact .foldl _ (fun t x => .ite (fun _ => ((served t).trans (State.placePriority_keepsTables _ .uplink x.2)).trans
    (State.placed_keepsTables _ x.1)) fun _ => .refl t) _ _

theorem State.offerWrap_keepsTables (s : State) (i : CtxIx) : KeepsTables s (s.offerWrap i) := by
  cases hw : (s.ctx i).wrap with
  | none => simp only [State.offerWrap, hw]; exact .refl s
  | some w =>
    cases hm : w.msg with
    | none => simp only [State.offerWrap, hw, hm]; exact .refl s
    | some m =>
      rw [s.offerWrap_eq i w m hw hm]
      exact KeepsTables.trans (t := s.placing i w) (.of_rest rfl) (State.offerUplink_keepsTables _ _ _)

theorem State.enterEmitting_keepsTables (s : State) (i : CtxIx) : KeepsTables s (s.enterEmitting i) :=
  KeepsTables.trans (t := s.setCtx i { s.ctx i with phase := .emitting }) (.of_rest rfl)
    (.ite (fun _ => State.offerWrap_keepsTables _ i) fun _ => .of_rest rfl)

theorem State.servePlaces_keepsTables (s : State) : KeepsTables s s.servePlaces := by
  have served : ∀ t : State, KeepsTables t { t with placeWait := t.placeWait.drop 1 } := fun _ => .of_rest rfl
  exact .foldl _ (fun t i => .ite (fun _ => (served t).trans (State.offerWrap_keepsTables _ i)) fun _ => .refl t) _ _

theorem State.removeEntry_keepsTables (s : State) (e : OutEntry) : KeepsTables s (s.removeEntry e) := by
  have dropped : ∀ t : State, KeepsTables t (t.dropPrevious e.slot e.gen) := fun t => by rw [t.dropPrevious_frame]; exact .of_rest rfl
  have removed : ∀ l : List OutEntry, KeepsTables s { s with outstanding := l } := fun _ => .of_rest rfl
  exact ((removed _).trans (dropped _)).trans (State.servePlaces_keepsTables _)

theorem State.leaveQueue_keepsTables (s : State) (w : Waiter) : KeepsTables s (s.leaveQueue w) := .of_rest rfl

theorem State.abandon_keepsTables (s : State) (i : CtxIx) : KeepsTables s (s.abandon i) := by
  have left : ∀ (q : List (Waiter × TxFrame)) (p : List CtxIx) (h : HoldingStore),
      KeepsTables s { s with waitOrder := q, placeWait := p, holding := h } := fun _ _ _ => .of_rest rfl
  exact (left _ _ _).trans (State.ctxToIdle_keepsTables _ i)

theorem State.loseReservation_keepsTables (s : State) (i : TillIx) : KeepsTables s (s.loseReservation i).1 := by
  unfold State.loseReservation
  split
  · exact .refl s
  · exact ((s.abandon_keepsTables _).trans (State.raise_keepsTables ..)).trans (State.servePlaces_keepsTables _)

/-! ### Grants (R49, R50, R94, R113, R117) -/

theorem searchFrom_some {p i : TillIx} {ok : TillIx → Bool} (h : searchFrom p ok = some i) : ok i = true := List.find?_some h

/-- The till the arbiter chooses is eligible, and of the class it is chosen for (R117). -/
theorem State.chooseTill_eligible (s : State) (i : TillIx) (x : TillClass) (h : s.chooseTill = some (i, x)) :
    s.isClass i x = true ∧ s.eligible i = true := by
  unfold State.chooseTill at h
  dsimp only at h
  split at h
  · rename_i k a hk ha
    split at h <;> cases h
    · exact Bool.and_eq_true_iff.1 (searchFrom_some hk)
    · exact Bool.and_eq_true_iff.1 (searchFrom_some ha)
  · rename_i k hk _
    cases h
    exact Bool.and_eq_true_iff.1 (searchFrom_some hk)
  · rename_i a _ ha
    cases h
    exact Bool.and_eq_true_iff.1 (searchFrom_some ha)
  · cases h

/-- A till that is eligible has a reservation to take (R113). -/
theorem State.eligible_room (s : State) (i : TillIx) (b : Binding) (hb : (s.till i).binding = some b) (h : s.eligible i = true) :
    (s.ctr b.slot i).c < (s.ctr b.slot i).k := by
  unfold State.eligible at h
  rw [hb] at h
  simp only [Bool.and_eq_true, decide_eq_true_eq] at h
  exact h.1.1.2

theorem State.reserve_keepsTables (s : State) (k : SlotIx) (i : TillIx) (room : (s.ctr k i).c < (s.ctr k i).k) :
    KeepsTables s (s.reserve k i) := by
  have raises : ∀ t : State, KeepsTables t (if (t.ctr k i).wantsRaise then (t.requestRaise k i).kick3 else t) := fun t =>
    .ite (fun _ => (t.requestRaise_keepsTables k i).trans (State.kick3_keepsTables _)) fun _ => .refl t
  have events : ∀ (t : State) (c : Nat), KeepsTables t (t.counterEvents k i c) := fun t c =>
    .ite (fun _ => t.raise_keepsTables ..) fun _ => .ite (fun _ => t.raise_keepsTables ..) fun _ => .refl t
  have refuses : ∀ (t : State) (c : Nat), KeepsTables t (if c = Config.spent then t.refuseIfBarred i else t) := fun t c =>
    .ite (fun _ => t.refuseIfBarred_keepsTables i) fun _ => .refl t
  unfold State.reserve
  exact (((s.setCtr_keepsTables k i _ fun h => h.advanced room).trans (raises _)).trans (events _ _)).trans (refuses _ _)

theorem State.grantTo_keepsTables (s : State) (c : CtxIx) (i : TillIx) (x : TillClass) (h : s.eligible i = true) :
    KeepsTables s (s.grantTo c i x) := by
  unfold State.grantTo
  split
  · rename_i b m rest hb _
    have taken : ∀ y : Ctx, KeepsTables s (s.setCtx c y) := fun _ => .of_rest rfl
    have arbiter : ∀ (t : State) (y : Arbiter), KeepsTables t { t with arbiter := y } := fun _ _ => .of_rest rfl
    have popped : ∀ t : State, KeepsTables t (t.setTill i { t.till i with queue := rest, wrapInFlight := true }) := fun t =>
      t.setTill_bound_keepsTables i _ rfl
    exact (((taken _).trans (popped _)).trans (arbiter _ _)).trans (State.reserve_keepsTables _ _ _ (s.eligible_room i b hb h))
  · exact .refl s

theorem State.grantOnce_keepsTables (s : State) : KeepsTables s s.grantOnce := by
  unfold State.grantOnce
  split
  · rename_i c i x _ hx
    exact s.grantTo_keepsTables c i x (s.chooseTill_eligible i x hx).2
  · exact .refl s

theorem State.grants_keepsTables (s : State) : KeepsTables s s.grants :=
  ((s.grantOnce_keepsTables.trans (State.grantOnce_keepsTables _)).trans (State.grantOnce_keepsTables _)).trans
    (State.grantOnce_keepsTables _)

end Sys2Proof.Machine
end

section
/-! PROOFS. The Counter Table and the Till Entries as every step keeps them, second part: the link, the drain and the Holding Store, LOCKDOWN and
resets, and what follows at the end of a step. -/

namespace Sys2Proof.Machine

/-! ### The drain and the Holding Store -/

theorem State.drainToIdle_keepsTables (s : State) : KeepsTables s s.drainToIdle := by rw [s.drainToIdle_frame]; exact .of_rest rfl

theorem State.leaveRunning_keepsTables (s : State) : KeepsTables s s.leaveRunning := .of_linkOnly s.leaveRunning_linkOnly

theorem State.probeTick_keepsTables (s : State) : KeepsTables s s.probeTick := by
  by_cases h : s.link.inHand.isSome = true ∨ s.settings.store.probeGw.ip = 0
  · rw [s.probeTick_idle h]; exact .of_rest rfl
  · rw [not_or, Option.not_isSome_iff_eq_none] at h
    rw [s.probeTick_offers h.1 h.2]
    exact KeepsTables.trans (t := s.probing) (.of_rest rfl) (State.offerUplink_keepsTables _ _ _)

theorem State.checkDrain_keepsTables (s : State) : KeepsTables s s.checkDrain := .ite (fun _ => .of_rest rfl) fun _ => .refl s

theorem State.takeRecord_keepsTables (s : State) (l : IndexLine) : KeepsTables s (s.takeRecord l) := by
  have taking : KeepsTables s (s.taking l) := .of_rest (by unfold State.taking; dsimp only; split <;> rfl)
  rw [s.takeRecord_eq l]
  exact taking.trans (State.offerUplink_keepsTables _ _ _)

theorem State.drainTurn_keepsTables (s : State) : KeepsTables s s.drainTurn := by
  unfold State.drainTurn
  split
  · split
    · exact s.takeRecord_keepsTables _
    · exact .ite (fun _ => .refl s) fun _ => .ite (fun _ => .of_rest rfl) fun _ => .of_rest rfl
  · exact .refl s

theorem State.drainTurns_keepsTables (n : Nat) (s : State) : KeepsTables s (State.drainTurns n s) := by
  induction n generalizing s with
  | zero => exact .refl s
  | succ n ih => exact s.drainTurn_keepsTables.trans (ih _)

theorem State.pumpDrain_keepsTables (s : State) : KeepsTables s s.pumpDrain := by
  have armed : KeepsTables s { s with drain := { s.drain with state := .armed } } := .of_rest rfl
  have arms : KeepsTables s s.autoArm := .ite (fun _ => armed.trans (.of_linkOnly (State.tryRun_linkOnly _))) fun _ => .refl s
  exact arms.trans (State.drainTurns_keepsTables 12 _)

theorem State.answerNote_keepsTables (s : State) (q : Nat) (r : LocalReply) : KeepsTables s (s.answerNote q r) := by
  have discarded : ∀ l : List HoldNote, KeepsTables s { s with holdNotes := l } := fun _ => .of_rest rfl
  unfold State.answerNote
  split
  · exact .refl s
  · exact (discarded _).trans (State.localReply_keepsTables _ _ _ _ _ _)

theorem State.endHolding_keepsTables (s : State) (i : CtxIx) (r : LocalReply) : KeepsTables s (s.endHolding i r) := by
  unfold State.endHolding
  split
  · exact .refl s
  · split
    · exact .refl s
    · exact (s.localReply_keepsTables _ _ _ _ _).trans (State.ctxToIdle_keepsTables _ i)

theorem State.release_keepsTables (s : State) (h : RecordHead) : KeepsTables s (s.release h) := .of_rest rfl

theorem State.withHolding_keepsTables (s : State) (h : HoldingStore) : KeepsTables s { s with holding := h } := .of_rest rfl

theorem State.withDrain_keepsTables (s : State) (d : Drain) : KeepsTables s { s with drain := d } := .of_rest rfl

theorem State.endQueued_keepsTables (s : State) (o : StoreOp) : KeepsTables s (s.endQueued o) := by
  have dropped : ∀ (n : Nat) (h : RecordHead), KeepsTables s (State.release { s with holding := s.holding.dropLine n } h) :=
    fun _ _ => .of_rest rfl
  cases o with
  | write n by_ r =>
    unfold State.endQueued
    refine (dropped n r.head).trans ?_
    cases by_ with
    | ctx i => exact State.endHolding_keepsTables _ _ _
    | matcher => exact State.answerNote_keepsTables _ _ _
    | drain => exact .refl _
    | nobody => exact .refl _
  | free n by_ =>
    unfold State.endQueued
    dsimp only
    split
    · exact .refl s
    · rename_i l _
      refine (dropped n l.head).trans (KeepsTables.trans ?_ (State.checkDrain_keepsTables _))
      cases by_ with
      | ctx i => exact State.endHolding_keepsTables _ _ _
      | matcher => exact .refl _
      | drain => exact State.withDrain_keepsTables _ _
      | nobody => exact .refl _

theorem State.runFormat_keepsTables (s : State) : KeepsTables s s.runFormat :=
  (s.withHolding_keepsTables _).trans (.foldl _ State.endQueued_keepsTables _ _)

theorem State.beginFormat_keepsTables (s : State) : KeepsTables s s.beginFormat :=
  .ite (fun _ => s.runFormat_keepsTables) fun _ => .of_rest rfl

theorem State.afterOp_keepsTables (s : State) : KeepsTables s s.afterOp := .ite (fun _ => s.runFormat_keepsTables) fun _ => .refl s

/-! ### LOCKDOWN, containment and tamper (R84, R85, R191 to R193) -/

theorem State.enterLockdown_keepsTables (s : State) : KeepsTables s s.enterLockdown := by
  have locked : KeepsTables s { s with opState := .lockdown } := .of_rest rfl
  exact ((locked.trans (.foldl _ State.abandon_keepsTables allCtxs _)).trans
    (refuseQueues_keepsTables allTills (.unavailable .lockdown) _)).trans (State.drainToIdle_keepsTables _)

theorem State.contain_keepsTables (s : State) : KeepsTables s s.contain := by
  unfold State.contain
  split
  · exact .refl s
  · split
    · exact s.enterLockdown_keepsTables
    · exact .of_rest rfl
    · exact .refl s
    · exact .refl s

theorem State.faultSlot_keepsTables (s : State) (k : SlotIx) (gen : Nat) (till : TillIx) : KeepsTables s (s.faultSlot k gen till) := by
  have faulted : KeepsTables s (s.faulting k gen till) := .of_rest rfl
  rw [s.faultSlot_eq]
  exact (faulted.trans (refuseQueues_keepsTables _ _ _)).trans (State.request2_keepsTables _ _)

theorem State.faultFp_keepsTables (s : State) (till : TillIx) : KeepsTables s (s.faultFp till) := by
  have marked : ∀ k : KeyTable, KeepsTables s { s with keys := k } := fun _ => .of_rest rfl
  exact ((marked _).trans (State.raise_keepsTables _ .keyCheckFail (some till) none none)).trans (State.request2_keepsTables _ _)

theorem State.tamper_keepsTables (s : State) : KeepsTables s s.tamper := by
  have zeroised : ∀ (k : KeyTable) (x : Vector Ctx 4) (w : Writer2),
      KeepsTables s { s.raise .tamper with keys := k, ctxs := x, writer2 := w } := fun _ _ _ => .of_rest rfl
  have emptied : ∀ t : State, KeepsTables t { t with outstanding := [] } := fun _ => .of_rest rfl
  have lost : ∀ (l : List OutEntry) (t : State), KeepsTables t (l.foldl (fun s e => s.raise .lostToTamper (till := some e.till)) t) :=
    .foldl _ fun t e => t.raise_keepsTables ..
  have ends : ∀ t : State, KeepsTables t (match t.opState with
      | .serving => t.enterLockdown
      | .starting => { t with cause := true }
      | .factory => t
      | .lockdown => t) := by
    intro t
    split
    · exact t.enterLockdown_keepsTables
    · exact .of_rest rfl
    · exact .refl t
    · exact .refl t
  unfold State.tamper
  exact ((((zeroised _ _ _).trans (State.mapJobs_keepsTables _ _)).trans (emptied _)).trans (lost _ _)).trans (ends _)

/-! ### A reset (R68, R188, R190) -/

/-- A sector is as it was, or blank. -/
def Sector.Kept {α : Type} (x y : Sector α) : Prop := y = x ∨ y = .blank

theorem Sector.Kept.good {α : Type} {x y : Sector α} (h : x.Kept y) {c : α} (hc : y = .good c) : x = .good c := by
  rcases h with h | h
  · rw [← h, hc]
  · rw [h] at hc; cases hc

theorem Sector.Kept.ite {α : Type} (x : Sector α) (c : Prop) [Decidable c] : x.Kept (if c then x else .blank) := by
  split <;> [exact .inl rfl; exact .inr rfl]

theorem Sector.Kept.erased {α : Type} (x : Sector α) (ok : Bool) : x.Kept (erasedIf ok x) := by
  cases ok <;> [exact .inl rfl; exact .inr rfl]

theorem Sector.Kept.damaged {α : Type} (x : Sector α) (bad : Bool) {c : α} (h : x.damage bad = .good c) : x = .good c := by
  cases x with
  | blank => cases h
  | good d => cases bad <;> cases h; rfl
  | failing => cases h

/-- What a reset cuts short leaves sectors 1 and 3 as they were or blank (R68, R190). -/
theorem State.cut_sectors (s : State) : s.store.sec1.Kept s.cutHolding.cutErase.finishZeroise.store.sec1
    ∧ s.store.sec3.Kept s.cutHolding.cutErase.finishZeroise.store.sec3 := by
  have holding : s.cutHolding.store = s.store := by
    unfold State.cutHolding
    split
    · rfl
    · split
      · rfl
      · split <;> rfl
  have erase : ∀ t : State, t.store.sec1.Kept t.cutErase.store.sec1 ∧ t.store.sec3.Kept t.cutErase.store.sec3 := by
    intro t
    unfold State.cutErase
    split
    · exact ⟨.ite _ _, .ite _ _⟩
    · exact ⟨.inl rfl, .inl rfl⟩
  have zeroise : ∀ t : State, t.finishZeroise.store.sec1 = t.store.sec1 ∧ t.finishZeroise.store.sec3 = t.store.sec3 := by
    intro t
    unfold State.finishZeroise
    split
    · exact ⟨rfl, rfl⟩
    · split <;> exact ⟨rfl, rfl⟩
  obtain ⟨one, three⟩ := erase s.cutHolding
  rw [(zeroise _).1, (zeroise _).2]
  rw [holding] at one three
  exact ⟨one, three⟩

theorem restoredEntry_ok {k : Nat} (h : k ≤ Config.spent) : (restoredEntry k).ok := ⟨le_rfl, h, nofun⟩

/-- Every entry of the Counter Table of a reset stands at 0 (log 71). -/
theorem ctr_of_blank {s : State} (h : s.counters = blankCounters) (k : SlotIx) (i : TillIx) : s.ctr k i = restoredEntry 0 := by
  simp [State.ctr, h, blankCounters]

/-- With every till VACANT, no write of sector 1 and none of sector 3, the tables are as sound as the sectors. -/
theorem KeepsTables.of_blank {s t : State} (counters : t.counters = blankCounters) (tills : ∀ i, (t.till i).binding = none)
    (write : t.writer1.inFlight = none) (one : s.store.sec1.Kept t.store.sec1) (three : s.store.sec3.Kept t.store.sec3) : KeepsTables s t := by
  refine ⟨fun ⟨_, sector, _⟩ => ⟨fun k i => ?_, fun x hx => sector x (three.good hx), ?_⟩,
    fun ⟨_, sector, _⟩ => ⟨⟨fun i x hx => ?_, fun i j x y hx => ?_⟩, fun c hc => sector c (one.good hc), ?_⟩⟩
  · rw [ctr_of_blank counters]
    exact restoredEntry_ok (Nat.zero_le _)
  · rw [counters]; exact nofun
  · exact absurd ((tills i).symm.trans hx) nofun
  · exact absurd ((tills i).symm.trans hx) nofun
  · rw [write]; exact nofun

theorem State.till_beginReset (s : State) (st : Startup) (i : TillIx) : (s.beginReset st).till i = vacantTill := by
  simp [State.beginReset, State.reset, State.till]

theorem State.beginReset_keepsTables (s : State) (st : Startup) : KeepsTables s (s.beginReset st) := by
  obtain ⟨one, three⟩ := s.cut_sectors
  exact .of_blank rfl (fun i => by rw [State.till_beginReset]; rfl) rfl one three

theorem State.resetIfGone_keepsTables (s : State) : KeepsTables s s.resetIfGone :=
  .ite (fun _ => s.beginReset_keepsTables _) fun _ => .refl s

/-! ### Answers and responses (R15, R174, R175) -/

theorem State.withMgmt_keepsTables (s : State) (m : MgmtUnit) : KeepsTables s { s with mgmt := m } := .of_rest rfl

theorem State.answerJobs_keepsTables (s : State) : KeepsTables s s.answerJobs :=
  (s.withMgmt_keepsTables _).trans (.foldl State.answerJob (fun _ _ => .of_rest rfl) _ _)

theorem State.offerResponses_keepsTables (s : State) : KeepsTables s s.offerResponses := by
  refine .foldl _ (fun t _ => ?_) _ _
  unfold State.offerResponse
  split
  · exact .refl t
  · split
    · exact .refl t
    · exact t.offerUplink_keepsTables _ _

theorem State.addJob_keepsTables (s : State) (j : Job) : KeepsTables s (s.addJob j) := .of_rest rfl

theorem State.answer_keepsTables (s : State) (t : Taken) (x : Status) (r : Results) : KeepsTables s (s.answer t x r) :=
  (s.addJob_keepsTables _).trans (State.request1_keepsTables _)

theorem State.refuse_keepsTables (s : State) (t : Taken) (x : Status) : KeepsTables s (s.refuse t x) := s.answer_keepsTables ..

theorem State.settleWaiting_keepsTables (s : State) (x : Status) (r : Results) (f : Job → Job) :
    KeepsTables s (s.settleWaiting x r f) := s.mapJobs_keepsTables _

theorem State.beginWait_keepsTables (s : State) (t : Taken) (h : Hold) : KeepsTables s (s.beginWait t h) :=
  .ite (fun _ => s.refuse_keepsTables ..) fun _ => (s.addJob_keepsTables _).trans (State.request1_keepsTables _)

/-! ### The waiting command (R74, R78, R79, R178, R184) -/

theorem State.setSlot_keepsTables (s : State) (k : SlotIx) (x : KeySlot) : KeepsTables s (s.setSlot k x) := .of_rest rfl

theorem State.carryActivate_keepsTables (s : State) (k : SlotIx) : KeepsTables s (s.carryActivate k) :=
  .ite (fun _ => s.settleWaiting_keepsTables ..) fun _ => .ite (fun _ => s.settleWaiting_keepsTables ..) fun _ =>
    .ite (fun _ => s.settleWaiting_keepsTables ..) fun _ => .ite (fun _ => s.settleWaiting_keepsTables ..) fun _ =>
      ((s.settleWaiting_keepsTables ..).trans (State.setSlot_keepsTables _ k _)).trans (State.request2_keepsTables _ _)

theorem eraseEntries_keepsTables (l : List OutEntry) (s : State) : KeepsTables s (l.foldl State.eraseEntry s) :=
  .foldl _ (fun t e => ((t.removeEntry_keepsTables e).trans (State.localReply_keepsTables _ _ _ _ _ _)).trans
    (State.raise_keepsTables ..)) l s

theorem State.carryErase_keepsTables (s : State) (k : SlotIx) : KeepsTables s (s.carryErase k) :=
  .ite (fun _ => s.settleWaiting_keepsTables ..) fun _ => .ite (fun _ => s.settleWaiting_keepsTables ..) fun _ =>
    (((((s.settleWaiting_keepsTables ..).trans (State.setSlot_keepsTables _ k _)).trans
      (State.raise_keepsTables _ .keyErased none (some k) none)).trans (eraseEntries_keepsTables _ _)).trans
      (refuseQueues_keepsTables _ (.refused .noKey) _)).trans (State.request2_keepsTables _ _)

/-- The message of a wrap that has lost its reservation is refused, if there is one (R43, R45). -/
theorem State.refuseLost_keepsTables (s : State) (i : TillIx) (x : LocalReply) (m : Option TillMsg) :
    KeepsTables s (match m with | none => s | some m => s.replyTo i m x) := by
  cases m with
  | none => exact .refl s
  | some m => exact s.replyTo_keepsTables ..

theorem State.emptyTill_keepsTables (s : State) (i : TillIx) : KeepsTables s (s.emptyTill i) := by
  have emptied : KeepsTables s (s.setTill i { s.till i with binding := none, record := none }) := s.setTill_keepsTables i _ nofun
  exact ((emptied.trans (State.loseReservation_keepsTables _ i)).trans (State.refuseLost_keepsTables _ i (.refused .tillDisabled) _)).trans
    (State.refuseQueue_keepsTables _ i _)

/-- DECOMMISSION's effect on the Counter Table: every entry at 0, and the write in flight passed by (R184, R185). -/
def State.countersPassed (s : State) : State :=
  { s with counters :=
    { entries := blankCounters.entries, pending := [], activations := [], eraseWanted := false,
      inFlight := s.counters.inFlight.map (fun w : Write3 => { w with void := true }) } }

/-- DECOMMISSION's requests for the erases of sectors 1 and 2, the write of sector 2 in flight passed by (R185). -/
def State.erasesAsked (s : State) : State :=
  { s with
    writer1 := { s.writer1 with eraseWanted := true }
    writer2 := { s.writer2 with eraseWanted := true, inFlight := s.writer2.inFlight.map (fun w : Write2 => { w with void := true }) } }

/-- Every till that is not VACANT emptied (R184). -/
def State.tillsEmptied (s : State) : State := allTills.foldl (fun s i => if (s.till i).binding.isSome then s.emptyTill i else s) s

/-- The write in flight holds what it held. -/
theorem State.countersPassed_keepsTables (s : State) : KeepsTables s s.countersPassed := by
  refine .of_counters rfl fun ⟨_, sector, write⟩ => ⟨fun k i => ?_, sector, fun w hw => ?_⟩
  · simpa [State.countersPassed, State.ctr, blankCounters] using restoredEntry_ok (Nat.zero_le _)
  · obtain ⟨v, hv, rfl⟩ := Option.map_eq_some_iff.1 hw
    exact write v hv

theorem State.tillsEmptied_keepsTables (s : State) : KeepsTables s s.tillsEmptied :=
  .foldl _ (fun t i => .ite (fun _ => t.emptyTill_keepsTables i) fun _ => .refl t) _ _

theorem State.decommission_keepsTables (s : State) : KeepsTables s s.decommission := by
  have settings : ∀ t : State, KeepsTables t { t with settings := blankSettings } := fun _ => .of_rest rfl
  have erases : ∀ t : State, KeepsTables t t.erasesAsked := fun _ => .of_rest rfl
  unfold State.decommission
  extract_lets keys entries tills passed counters left format event _ _ asked
  have toTills : KeepsTables s tills :=
    ((KeepsTables.of_rest rfl : KeepsTables s keys).trans (eraseEntries_keepsTables _ _)).trans (State.tillsEmptied_keepsTables _)
  have toCounters : KeepsTables tills counters := tills.countersPassed_keepsTables.trans (State.kick3_keepsTables _)
  have toEvent : KeepsTables counters event :=
    (((settings counters).trans (State.leaveRunning_keepsTables _)).trans (State.beginFormat_keepsTables _)).trans
      (State.raise_keepsTables _ .decommissioned none none none)
  exact (((toTills.trans toCounters).trans toEvent).trans (erases event)).trans
    ((State.kick1_keepsTables _).trans (State.kick2_keepsTables _))

theorem State.carryDecommission_keepsTables (s : State) (force : Nat) : KeepsTables s (s.carryDecommission force) :=
  .ite (fun _ => s.settleWaiting_keepsTables ..) fun _ => (s.settleWaiting_keepsTables ..).trans (State.decommission_keepsTables _)

theorem State.quietCheck_keepsTables (s : State) : KeepsTables s s.quietCheck := by
  unfold State.quietCheck
  split
  · exact .refl s
  · split
    · exact .refl s
    · split
      · split
        · exact s.carryActivate_keepsTables _
        · exact s.carryErase_keepsTables _
        · exact s.carryDecommission_keepsTables _
        · exact .refl s
      · exact .refl s

/-! ### The end of a step -/

theorem State.finish_keepsTables (s : State) : KeepsTables s s.finish :=
  (((s.pumpDrain_keepsTables.trans (State.answerJobs_keepsTables _)).trans (State.offerResponses_keepsTables _)).trans
    (State.grants_keepsTables _)).trans (State.resetIfGone_keepsTables _)

theorem State.settle_keepsTables (s : State) : KeepsTables s s.settle := s.quietCheck_keepsTables.trans (State.finish_keepsTables _)

end Sys2Proof.Machine
end

section
/-! PROOFS. The Counter Table and the Till Entries as every step keeps them, third part: the rows of the factory port, of start-up, of the receive path,
of the Wrap Contexts and of the expiries. -/

namespace Sys2Proof.Machine

/-- Whatever state a row leads to, both tables are kept. -/
def NextKeepsTables (s : State) (o : Host.Outcome State Fault Refusal) : Prop := ∀ t, o = .next t → KeepsTables s t

theorem NextKeepsTables.next {s t : State} (h : KeepsTables s t) : NextKeepsTables s (.next t) := by
  intro u hu
  cases hu
  exact h

/-- With the entries and the bindings as they were, sectors that hold nothing new and no new write keep both tables. -/
theorem KeepsTables.of_sectors {s t : State} (entries : t.counters.entries = s.counters.entries) (tills : t.tills = s.tills)
    (one : ∀ c, t.store.sec1 = .good c → s.store.sec1 = .good c) (three : ∀ c, t.store.sec3 = .good c → s.store.sec3 = .good c)
    (write1 : ∀ c, t.writer1.inFlight = some c → s.writer1.inFlight = some c)
    (write3 : ∀ w, t.counters.inFlight = some w → s.counters.inFlight = some w) : KeepsTables s t := by
  refine ⟨fun ⟨table, sector, write⟩ => ⟨fun k i => ?_, fun x hx => sector x (three x hx), fun w hw => write w (write3 w hw)⟩,
    fun ⟨table, sector, write⟩ => ⟨?_, fun c hc => sector c (one c hc), fun c hc => write c (write1 _ hc)⟩⟩
  · simpa only [State.ctr, entries] using table k i
  · simpa only [State.till, tills] using table

/-! ### The factory port (R190) -/

theorem State.factoryAnswer_keepsTables (s : State) (a : FactoryAnswer) : KeepsTables s (s.factoryAnswer a) := .of_rest rfl

theorem State.clearFactory_keepsTables (s : State) : KeepsTables s s.clearFactory := .of_rest rfl

theorem State.cutHolding_keepsTables (s : State) : KeepsTables s s.cutHolding := by
  unfold State.cutHolding
  split
  · exact .refl s
  · split
    · exact .of_rest rfl
    · split <;> [exact .refl s; exact .of_rest rfl; exact .of_rest rfl]

theorem State.takeIdentity_keepsTables (s : State) (serial : BitVec 64) (mac : Mac) (etype : Nat) (mgmtKey transportKey : Key) :
    KeepsTables s (s.takeIdentity serial mac etype mgmtKey transportKey) :=
  .ite (fun _ => .of_rest rfl) fun _ => s.factoryAnswer_keepsTables _

theorem State.takeClose_keepsTables (s : State) : KeepsTables s s.takeClose := by
  unfold State.takeClose
  split
  · exact s.factoryAnswer_keepsTables _
  · exact .ite (fun _ => .of_rest rfl) fun _ => s.factoryAnswer_keepsTables _

theorem State.takeErase_keepsTables (s : State) : KeepsTables s s.takeErase := by
  have erasing : ∀ t : State, KeepsTables t { t with
      rxOpen := false
      writer1 := { inFlight := none, wanted := false, eraseWanted := false }
      writer2 := { inFlight := t.writer2.inFlight.filter (·.zeroise), waiting := [], wanted := false, eraseWanted := false }
      counters := { t.counters with pending := [], activations := [], eraseWanted := false, inFlight := none }
      holding := { t.holding with ops := [], format := .running }
      mgmt := { t.mgmt with jobs := t.mgmt.jobs.filter Job.free }
      factory := { t.factory with op := some .erase } } := fun _ =>
    .of_sectors rfl rfl (fun _ => id) (fun _ => id) nofun nofun
  exact s.cutHolding_keepsTables.trans (erasing _)

theorem State.takeFactory_keepsTables (s : State) (c : Instr) : KeepsTables s (s.takeFactory c) := by
  unfold State.takeFactory
  split
  · exact s.takeIdentity_keepsTables ..
  · exact s.takeClose_keepsTables
  · exact s.takeErase_keepsTables
  · exact .refl s

theorem State.offerFactory_keepsTables (s : State) (c : Instr) : KeepsTables s (s.offerFactory c) :=
  .ite (fun _ => s.takeFactory_keepsTables c) fun _ => .of_rest rfl

theorem State.serveFactory_keepsTables (s : State) : KeepsTables s s.serveFactory := by
  have waited : ∀ t : State, KeepsTables t { t with factory := { t.factory with waiting := t.factory.waiting.drop 1 } } := fun _ => .of_rest rfl
  exact .foldl _ (fun t c => .ite (fun _ => (waited t).trans (State.takeFactory_keepsTables _ c)) fun _ => .refl t) _ _

theorem erasedIf_good {α : Type} {ok : Bool} {x : Sector α} {c : α} (h : erasedIf ok x = .good c) : x = .good c :=
  (Sector.Kept.erased x ok).good h

theorem State.endFactory_keepsTables (s : State) (ok0 ok1 ok2 ok3 : Bool) : KeepsTables s (s.endFactory ok0 ok1 ok2 ok3) := by
  have failed : KeepsTables s (s.clearFactory.factoryAnswer (.failed 0)).serveFactory :=
    (s.clearFactory_keepsTables.trans (State.factoryAnswer_keepsTables _ _)).trans (State.serveFactory_keepsTables _)
  have named : ∀ (t : State) (x : Sector Identity) (c : Option Identity), KeepsTables t { t with store := { t.store with sec0 := x }, identity := c } :=
    fun _ _ _ => .of_rest rfl
  have erased : ∀ t : State, KeepsTables t
      { t with store := { sec0 := erasedIf ok0 t.store.sec0, sec1 := erasedIf ok1 t.store.sec1, sec2 := erasedIf ok2 t.store.sec2,
                          sec3 := erasedIf ok3 t.store.sec3 }, holding := formattedStore } := fun _ =>
    .of_sectors rfl rfl (fun _ => erasedIf_good) (fun _ => erasedIf_good) (fun _ => id) fun _ => id
  have answered : ∀ (t : State) (a : FactoryAnswer), KeepsTables t ((t.factoryAnswer a).beginReset .reading) := fun t a =>
    (t.factoryAnswer_keepsTables a).trans (State.beginReset_keepsTables _ _)
  unfold State.endFactory
  split
  · exact .refl s
  · exact .ite (fun _ => ((s.clearFactory_keepsTables.trans (named _ _ _)).trans (State.factoryAnswer_keepsTables _ _)).trans
      (State.serveFactory_keepsTables _)) fun _ => failed
  · exact .ite (fun _ => (s.clearFactory_keepsTables.trans (named _ _ _)).trans (answered _ _)) fun _ => failed
  · exact (s.clearFactory_keepsTables.trans (erased _)).trans (answered _ _)

/-! ### Start-up (R47, R58, R59, R70, R161, R189) -/

theorem Sector.contents?_eq_some {α : Type} {x : Sector α} {c : α} (h : x.contents? = some c) : x = .good c := by
  cases x <;> cases h
  rfl

/-- The Counter Table as sector 3 restores it is within its bounds where the sector is (R58). -/
theorem restoredCounters_ok (x : Sector Sector3) (h : ∀ c, x = .good c → sectorBounded c) (k : SlotIx) (i : TillIx) :
    (((restoredCounters x).entries[k])[i]).ok := by
  cases x with
  | blank => simpa [restoredCounters, blankCounters] using restoredEntry_ok (Nat.zero_le _)
  | good c => simpa [restoredCounters] using restoredEntry_ok (h c rfl k i)
  | failing => simpa [restoredCounters] using restoredEntry_ok le_rfl

theorem restoredCounters_inFlight (x : Sector Sector3) : (restoredCounters x).inFlight = none := by cases x <;> rfl

/-- A Till Entry as sector 1 restores it (R47). -/
theorem State.till_restore (s : State) (i : TillIx) :
    s.restore.till i = { vacantTill with binding := s.store.sec1.contents?.bind (fun c => c.bindings[i]) } := by
  unfold State.till State.restore
  dsimp only
  cases s.store.sec1.contents? with
  | none => simp [vacantTill]
  | some c => simp

theorem State.restore_keepsTables (s : State) : KeepsTables s s.restore := by
  refine ⟨fun ⟨_, sector, _⟩ => ⟨restoredCounters_ok _ sector, sector, ?_⟩, fun ⟨_, sector, write⟩ => ⟨?_, sector, write⟩⟩
  · rw [show s.restore.counters = restoredCounters s.store.sec3 from rfl, restoredCounters_inFlight]
    exact nofun
  · simp only [s.till_restore]
    cases hc : s.store.sec1.contents? with
    | none => exact ⟨nofun, nofun⟩
    | some c => exact sector c (Sector.contents?_eq_some hc)

theorem State.sectorFail_keepsTables (s : State) (n : Nat) (failing : Bool) : KeepsTables s (s.sectorFail n failing) :=
  .ite (fun _ => .ite (fun _ => s.raise_keepsTables ..) fun _ => (s.raise_keepsTables ..).trans (State.contain_keepsTables _))
    fun _ => .refl s

/-- What the start-up raise makes of a counter entry (R59). -/
def CounterEntry.startupRaised (e : CounterEntry) : CounterEntry :=
  { e with raise := if e.k < Config.spent then some (min (e.k + Config.raiseStep) Config.spent) else none }

theorem CounterEntry.ok.startupRaised {e : CounterEntry} (h : e.ok) : e.startupRaised.ok := by
  unfold CounterEntry.startupRaised
  split
  · exact h.raised
  · exact ⟨h.1, h.2.1, nofun⟩

theorem State.startupRaise_keepsTables (s : State) : KeepsTables s s.startupRaise := by
  have raised : ∀ p : List (SlotIx × TillIx), KeepsTables s { s with counters := { s.counters with
      entries := s.counters.entries.map (fun column => column.map CounterEntry.startupRaised), pending := p } } := fun p =>
    .of_counters rfl fun ⟨table, sector, write⟩ =>
      ⟨fun k i => by simpa [State.ctr] using (table k i).startupRaised, sector, write⟩
  exact (raised _).trans (State.kick3_keepsTables _)

theorem State.endReads_keepsTables (s : State) (bad0 bad1 bad2 bad3 : Bool) : KeepsTables s (s.endReads bad0 bad1 bad2 bad3) := by
  have started : ∀ (t : State) (x : OpState) (y : Startup), KeepsTables t { t with opState := x, startup := y } := fun _ _ _ => .of_rest rfl
  have checked : ∀ (t : State) (a b c d : Bool),
      KeepsTables t ((((t.sectorFail 0 a).sectorFail 1 b).sectorFail 2 c).sectorFail 3 d) := fun t a b c d =>
    (((t.sectorFail_keepsTables 0 a).trans (State.sectorFail_keepsTables _ 1 b)).trans (State.sectorFail_keepsTables _ 2 c)).trans
      (State.sectorFail_keepsTables _ 3 d)
  unfold State.endReads
  extract_lets k damaged restored _ _ _ _ raised
  have read : KeepsTables s damaged := .of_sectors rfl rfl (fun _ => Sector.Kept.damaged _ _) (fun _ => Sector.Kept.damaged _ _)
    (fun _ => id) fun _ => id
  exact ((read.trans (State.restore_keepsTables _)).trans (checked _ _ _ _ _)).trans
    (.ite (fun _ => ((State.startupRaise_keepsTables _).trans (started _ _ _)).trans (State.serveFactory_keepsTables _))
      fun _ => (started _ _ _).trans (State.serveFactory_keepsTables _))

theorem State.scanSlot_keepsTables (last : Option Nat) (s : State) (x : NvSlot) : KeepsTables s (State.scanSlot last s x) := by
  unfold State.scanSlot
  split
  · exact .refl s
  · split
    · exact s.withHolding_keepsTables _
    · exact (s.withHolding_keepsTables _).trans (State.raise_keepsTables _ .tornRecord none none _)
    · exact ((s.withHolding_keepsTables _).trans (State.raise_keepsTables _ .recordLost none none _)).trans (State.contain_keepsTables _)
    · exact s.withHolding_keepsTables _

theorem State.endScan_keepsTables (s : State) (headerBad : Bool) (badHeads badMessages : List Nat) :
    KeepsTables s (s.endScan headerBad badHeads badMessages) := by
  have header : ∀ (t : State) (good : Bool), KeepsTables t (if good then t else (t.raise .storeHeaderFail).contain) := fun t good =>
    .ite (fun _ => .refl t) fun _ => (t.raise_keepsTables ..).trans (State.contain_keepsTables _)
  have scanned : ∀ (l : List NvSlot) (last : Option Nat) (t : State), KeepsTables t (l.foldl (State.scanSlot last) t) := fun l last =>
    .foldl _ (State.scanSlot_keepsTables last) l
  have rebuilt : ∀ (t : State) (h : HoldingStore) (x : StandIn), KeepsTables t { t with holding := h, standIn := x } := fun _ _ _ => .of_rest rfl
  exact (((s.withHolding_keepsTables _).trans (header _ _)).trans (scanned _ _ _)).trans (rebuilt _ _ _)

theorem State.repeatCounterLow_keepsTables (s : State) : KeepsTables s s.repeatCounterLow := by
  refine .foldl _ (fun t i => ?_) _ _
  split
  · exact .refl t
  · exact .ite (fun _ => t.raise_keepsTables ..) fun _ => .refl t

theorem State.endStartup_keepsTables (s : State) : KeepsTables s s.endStartup := by
  have tampers : ∀ t : State, KeepsTables t (if t.tamperIn then t.tamper else t) := fun t =>
    .ite (fun _ => t.tamper_keepsTables) fun _ => .refl t
  have ended : ∀ t : State, KeepsTables t { t with startup := .over } := fun _ => .of_rest rfl
  have serving : ∀ t : State, KeepsTables t (if t.cause then t.enterLockdown else { t with opState := .serving }) := fun t =>
    .ite (fun _ => t.enterLockdown_keepsTables) fun _ => .of_rest rfl
  have linked : ∀ (t : State) (x : LinkMonitor), KeepsTables t { t with link := x } := fun _ _ => .of_rest rfl
  unfold State.endStartup
  exact ((((s.repeatCounterLow_keepsTables.trans (linked _ _)).trans (State.probeTick_keepsTables _)).trans (tampers _)).trans
    (ended _)).trans (serving _)

/-! ### Assembly and admission (R28 to R34, R110, R111) -/

theorem State.admission_keepsTables (s : State) (i : TillIx) (m : TillMsg) : KeepsTables s (s.admission i m) :=
  .ite (fun _ => s.raise_keepsTables ..) fun _ =>
    .ite (fun _ => (s.raise_keepsTables ..).trans (State.replyTo_keepsTables _ _ _ _)) fun _ =>
      .ite (fun _ => s.replyTo_keepsTables ..) fun _ => s.setTill_bound_keepsTables i _ rfl

theorem State.completeMessage_keepsTables (s : State) (i : TillIx) (r : AssemblyRecord) : KeepsTables s (s.completeMessage i r) := by
  unfold State.completeMessage
  refine (s.setTill_bound_keepsTables i { s.till i with record := none } rfl).trans (.ite (fun _ => State.localReply_keepsTables ..) fun _ => ?_)
  split
  · exact State.localReply_keepsTables ..
  · refine .ite (fun _ => State.replyTo_keepsTables ..) fun _ => ?_
    split
    · exact State.replyTo_keepsTables ..
    · exact State.admission_keepsTables ..

theorem State.standRecord_keepsTables (s : State) (i : TillIx) (r : AssemblyRecord) : KeepsTables s (s.standRecord i r) :=
  .ite (fun _ => s.completeMessage_keepsTables i r) fun _ => s.setTill_bound_keepsTables i _ rfl

theorem State.takeSegment_keepsTables (s : State) (i : TillIx) (path : ReturnPath) (p : Bytes) : KeepsTables s (s.takeSegment i path p) := by
  have breaks : ∀ c : Bool, KeepsTables s (if c then s.raise .segmentOrder (till := some i) else s) := fun c =>
    .ite (fun _ => s.raise_keepsTables ..) fun _ => .refl s
  unfold State.takeSegment
  refine .ite (fun _ => (breaks _).trans (State.standRecord_keepsTables _ i _)) fun _ => ?_
  split
  · exact s.raise_keepsTables ..
  · exact .ite (fun _ => s.standRecord_keepsTables i _) fun _ =>
      (s.setTill_bound_keepsTables i { s.till i with record := none } rfl).trans (State.raise_keepsTables ..)

/-! ### The receive path (R16, R21 to R25) -/

theorem State.replyFails_keepsTables (s : State) (e : OutEntry) : KeepsTables s (s.replyFails e) := s.raise_keepsTables ..

theorem State.forwardReply_keepsTables (s : State) (e : OutEntry) (p : Bytes) : KeepsTables s (s.forwardReply e p) :=
  (((s.removeEntry_keepsTables e).trans (State.sendReply_keepsTables _ _ _)).trans (.of_linkOnly (State.linkSuccess_linkOnly _))).trans
    (State.raise_keepsTables ..)

theorem State.takeReply_keepsTables (s : State) (p : Bytes) : KeepsTables s (s.takeReply p) := by
  unfold State.takeReply
  refine .ite (fun _ => s.raise_keepsTables ..) fun _ => ?_
  split
  · exact s.raise_keepsTables ..
  · split
    · exact s.replyFails_keepsTables _
    · split
      · exact s.replyFails_keepsTables _
      · exact ((s.faultSlot_keepsTables _ _ _).trans (State.replyFails_keepsTables _ _)).trans (State.contain_keepsTables _)
      · exact .ite (fun _ => s.forwardReply_keepsTables _ _) fun _ => s.replyFails_keepsTables _

theorem State.requestFree_keepsTables (s : State) (slot : Nat) (by_ : Requester) : KeepsTables s (s.requestFree slot by_) := .of_rest rfl

theorem State.requestWrite_keepsTables (s : State) (slot : Nat) (by_ : Requester) (r : HeldRecord) :
    KeepsTables s (s.requestWrite slot by_ r) := .of_rest rfl

theorem State.acceptStandIn_keepsTables (s : State) (r : StandInRequest) (w slot : Nat) : KeepsTables s (s.acceptStandIn r w slot) :=
  .of_rest rfl

theorem State.acknowledge_keepsTables (s : State) (q : Nat) : KeepsTables s (s.acknowledge q) := by
  unfold State.acknowledge
  split
  · exact s.raise_keepsTables ..
  · exact .ite (fun _ => s.raise_keepsTables ..) fun _ =>
      .ite (fun _ => ((s.leaveQueue_keepsTables .drain).trans (State.withDrain_keepsTables _ _)).trans (State.requestFree_keepsTables _ _ _))
        fun _ => s.requestFree_keepsTables _ _

theorem State.takeAck_keepsTables (s : State) (p : Bytes) : KeepsTables s (s.takeAck p) :=
  .ite (fun _ => s.raise_keepsTables ..) fun _ => .ite (fun _ => s.acknowledge_keepsTables _) fun _ => s.raise_keepsTables ..

theorem State.unawait_keepsTables (s : State) (n : Nat) : KeepsTables s (s.unawait n) := .of_rest rfl

theorem State.takeProbeAnswer_keepsTables (s : State) (p : Bytes) : KeepsTables s (s.takeProbeAnswer p) :=
  .ite (fun _ => (s.unawait_keepsTables _).trans (.of_linkOnly (State.linkSuccess_linkOnly _))) fun _ => s.raise_keepsTables ..

theorem State.answerAddress_keepsTables (s : State) (e : EthFrame) : KeepsTables s (s.answerAddress e) :=
  .ite (fun _ => s.raise_keepsTables ..) fun _ => s.offerUplink_keepsTables _ _

theorem State.arrive_keepsTables (s : State) (f : Bytes) : KeepsTables s (s.arrive f) :=
  .ite (fun _ => s.withMgmt_keepsTables _) fun _ => s.raise_keepsTables ..

theorem State.takePayment_keepsTables (s : State) (e : EthFrame) (v : IpView) : KeepsTables s (s.takePayment e v) := by
  unfold State.takePayment
  split
  · exact s.raise_keepsTables ..
  · exact .ite (fun _ => s.raise_keepsTables ..) fun _ => s.takeSegment_keepsTables _ _ _

theorem State.classifyLane_keepsTables (s : State) (f : Bytes) : KeepsTables s (s.classifyLane f) :=
  .ite (fun _ => s.raise_keepsTables ..) fun _ => .ite (fun _ => s.raise_keepsTables ..) fun _ =>
    .ite (fun _ => s.raise_keepsTables ..) fun _ => .ite (fun _ => s.bridge_keepsTables _ _) fun _ =>
      .ite (fun _ => s.raise_keepsTables ..) fun _ =>
        .ite (fun _ => .ite (fun _ => s.takePayment_keepsTables _ _) fun _ => s.raise_keepsTables ..) fun _ => s.bridge_keepsTables _ _

theorem State.classifyUplink_keepsTables (s : State) (f : Bytes) : KeepsTables s (s.classifyUplink f) := by
  unfold State.classifyUplink
  refine .ite (fun _ => s.raise_keepsTables ..) fun _ =>
    .ite (fun _ => .ite (fun _ => s.arrive_keepsTables f) fun _ => s.raise_keepsTables ..) fun _ =>
    .ite (fun _ => s.answerAddress_keepsTables _) fun _ => .ite (fun _ => s.raise_keepsTables ..) fun _ => ?_
  split
  · exact s.takeReply_keepsTables _
  · exact s.takeAck_keepsTables _
  · exact s.takeProbeAnswer_keepsTables _
  · exact .ite (fun _ => s.raise_keepsTables ..) fun _ => s.bridge_keepsTables _ _

theorem State.receive_keepsTables (s : State) (p : Port) (f : Bytes) : KeepsTables s (s.receive p f) := by
  refine .ite (fun _ => s.raise_keepsTables ..) fun _ => ?_
  cases p <;> [exact s.classifyLane_keepsTables f; exact s.classifyUplink_keepsTables f]

/-! ### The transmit side and the physical links (R17, R19, R20) -/

theorem State.startSending_keepsTables (s : State) (p : Port) : KeepsTables s (s.startSending p) := by
  unfold State.startSending
  split
  · cases p
    · exact s.setPort_keepsTables .lane _
    · exact (s.setPort_keepsTables .uplink _).trans (State.serveUplink_keepsTables _)
  · exact s.setPort_keepsTables p _
  · exact .refl s

theorem State.finishSending_keepsTables (s : State) (p : Port) (f : TxFrame) : KeepsTables s (s.finishSending p f) :=
  (s.setPort_keepsTables p _).trans
    (.ite (fun _ => (State.withMgmt_keepsTables _ _).trans (State.resetIfGone_keepsTables _)) fun _ => .refl _)

theorem State.loseLink_keepsTables (s : State) (p : Port) : KeepsTables s (s.loseLink p) := by
  have emptied : KeepsTables s (s.emptied p) := (s.setPort_keepsTables p _).trans (.foldl _ State.discardFrame_keepsTables _ _)
  cases p with
  | lane => exact emptied
  | uplink =>
    rw [s.loseLink_uplink]
    exact (emptied.trans (.of_linkOnly s.reportedLoss_linkOnly)).trans (State.serveUplink_keepsTables _)

theorem State.physicalReturn_keepsTables (s : State) : KeepsTables s s.physicalReturn := by
  have linked : ∀ (t : State) (x : LinkMonitor), KeepsTables t { t with link := x } := fun _ _ => .of_rest rfl
  exact (linked s _).trans (.ite (fun _ => linked _ _) fun _ => .refl _)

/-! ### The phases of a Wrap Context (R93, R95 to R104) -/

theorem State.setCtx_keepsTables (s : State) (i : CtxIx) (x : Ctx) : KeepsTables s (s.setCtx i x) := .of_rest rfl

theorem State.endWrap_keepsTables (s : State) (i : CtxIx) (w : Wrap) (m : TillMsg) (x : LocalReply) : KeepsTables s (s.endWrap i w m x) :=
  (s.replyTo_keepsTables w.till m x).trans (State.ctxToIdle_keepsTables _ i)

theorem State.takeFingerprint_keepsTables (s : State) (w : Wrap) (m : TillMsg) : KeepsTables s (s.takeFingerprint w m).1 := by
  unfold State.takeFingerprint
  split
  · split
    · exact .refl s
    · exact s.faultFp_keepsTables _
  · exact .refl s

theorem State.deriveKeys_keepsTables (s : State) (i : CtxIx) (w : Wrap) (m : TillMsg) (r : KeyRecord) :
    KeepsTables s (s.deriveKeys i w m r) := by
  unfold State.deriveKeys
  exact ((s.takeFingerprint_keepsTables w m).trans (State.setCtx_keepsTables _ i _)).trans
    (.ite (fun _ => State.contain_keepsTables _) fun _ => .refl _)

theorem State.deriveFails_keepsTables (s : State) (i : CtxIx) (w : Wrap) (m : TillMsg) (r : KeyRecord) :
    KeepsTables s (s.deriveFails i w m r) := by
  have faulted := s.faultSlot_keepsTables w.slot r.gen w.till
  unfold State.deriveFails
  dsimp only
  split
  · exact faulted.trans (State.endWrap_keepsTables _ i w m _)
  · exact faulted.trans (State.contain_keepsTables _)

theorem execDeriving_keepsTables (s : State) (i : CtxIx) : NextKeepsTables s (execDeriving i s) := by
  refine .next ?_
  split
  · exact .refl s
  · rename_i w m h
    split
    · exact .refl s
    · split
      · exact (s.deriveKeys_keepsTables i w m _).trans (State.settle_keepsTables _)
      · exact (s.endWrap_keepsTables i w m _).trans (State.settle_keepsTables _)
      · exact (s.deriveFails_keepsTables i w m _).trans (State.settle_keepsTables _)

theorem execWrapping_keepsTables (s : State) (i : CtxIx) : NextKeepsTables s (execWrapping i s) := by
  refine .next ?_
  split
  · exact .refl s
  · rename_i w m h
    split
    · exact .refl s
    · split
      · exact (s.endWrap_keepsTables i w m _).trans (State.settle_keepsTables _)
      · exact s.setCtx_keepsTables i _

theorem execAuthenticating_keepsTables (s : State) (i : CtxIx) : NextKeepsTables s (execAuthenticating i s) := by
  refine .next ?_
  split
  · exact .refl s
  · rename_i w m h
    split
    · exact .refl s
    · exact (s.setCtx_keepsTables i _).trans (State.setTill_bound_keepsTables _ _ _ (by rfl))

theorem State.beginVoid_keepsTables (s : State) (i : CtxIx) (w : Wrap) (m : TillMsg) (slot : Nat) : KeepsTables s (s.beginVoid i w m slot) :=
  (s.setCtx_keepsTables i _).trans (State.requestFree_keepsTables _ _ _)

theorem State.goOffline_keepsTables (s : State) (i : CtxIx) (w : Wrap) (m : TillMsg) : KeepsTables s (s.goOffline i w m) := by
  unfold State.goOffline
  refine .ite (fun _ => s.endWrap_keepsTables i w m _) fun _ => .ite (fun _ => s.endWrap_keepsTables i w m _) fun _ => ?_
  dsimp only
  split
  · exact s.endWrap_keepsTables i w m _
  · exact ((s.acceptStandIn_keepsTables _ _ _).trans (State.setCtx_keepsTables _ i _)).trans (State.requestWrite_keepsTables _ _ _ _)

theorem State.route_keepsTables (s : State) (i : CtxIx) (w : Wrap) (m : TillMsg) : KeepsTables s (s.route i w m) :=
  .ite (fun _ => s.goOffline_keepsTables i w m) fun _ =>
    .ite (fun _ => s.enterEmitting_keepsTables i) fun _ => s.goOffline_keepsTables i w m

theorem execDeciding_keepsTables (s : State) (i : CtxIx) : NextKeepsTables s (execDeciding i s) := by
  refine .next ?_
  split
  · exact .refl s
  · rename_i w m h
    refine ((s.setCtx_keepsTables i { s.ctx i with phase := .deciding }).trans ?_).trans (State.settle_keepsTables _)
    split
    · exact State.route_keepsTables _ i w m
    · exact State.endWrap_keepsTables _ i w m _
    · exact State.beginVoid_keepsTables _ i w m _

/-! ### Expiries (R127 to R130, R139, R140, R143, R167, R178) -/

theorem State.standInOnExpiry_keepsTables (s : State) (e : OutEntry) (copy : Bytes) : KeepsTables s (s.standInOnExpiry e copy) := by
  unfold State.standInOnExpiry
  refine .ite (fun _ => s.localReply_keepsTables ..) fun _ => ?_
  dsimp only
  split
  · exact s.localReply_keepsTables ..
  · have noted : ∀ (t : State) (n : List HoldNote), KeepsTables t { t with holdNotes := n } := fun _ _ => .of_rest rfl
    exact ((s.acceptStandIn_keepsTables _ _ _).trans (noted _ _)).trans (State.requestWrite_keepsTables _ _ _ _)

theorem State.answerExpiry_keepsTables (s : State) (e : OutEntry) : KeepsTables s (s.answerExpiry e) := by
  unfold State.answerExpiry
  split
  · exact s.localReply_keepsTables ..
  · exact .ite (fun _ => s.standInOnExpiry_keepsTables _ _) fun _ => s.localReply_keepsTables ..

theorem State.expireEntry_keepsTables (s : State) (e : OutEntry) : KeepsTables s (s.expireEntry e) :=
  (((s.removeEntry_keepsTables e).trans (.of_linkOnly (State.linkFailure_linkOnly _))).trans (State.raise_keepsTables ..)).trans
    (State.answerExpiry_keepsTables _ e)

theorem State.restartSettle_keepsTables (s : State) : KeepsTables s s.restartSettle :=
  .ite (fun _ => .of_linkOnly s.startSettle_linkOnly) fun _ => .refl s

theorem State.timeOutDrain_keepsTables (s : State) : KeepsTables s s.timeOutDrain :=
  (((s.raise_keepsTables ..).trans (.of_linkOnly (State.linkFailure_linkOnly _))).trans (State.restartSettle_keepsTables _)).trans
    (State.leaveRunning_keepsTables _)

theorem State.timeOutQuiet_keepsTables (s : State) : KeepsTables s s.timeOutQuiet :=
  (s.mapJobs_keepsTables _).trans (State.raise_keepsTables ..)

end Sys2Proof.Machine
end

section
/-! PROOFS. The Counter Table and the Till Entries as every step keeps them, fourth part: the ends of writes and store operations. -/

namespace Sys2Proof.Machine

/-! ### Sector 3 writes (R52, R53, R60) -/

theorem State.endRaise_keepsTables (s : State) : KeepsTables s s.endRaise := by
  unfold State.endRaise
  split <;> [exact .of_rest rfl; exact .refl s]

theorem State.end3_keepsTables (s : State) : KeepsTables s s.end3 := by
  have ended : KeepsTables s { s with counters := { s.counters with inFlight := none } } :=
    .of_counters rfl fun ⟨table, sector, _⟩ => ⟨table, sector, nofun⟩
  exact (ended.trans (State.mapJobs_keepsTables _ _)).trans (State.kick3_keepsTables _)

theorem CounterEntry.ok.done {e : CounterEntry} (h : e.ok) : { e with k := e.raise.getD e.k, raise := none, failed := false }.ok := by
  obtain ⟨next, bound, target⟩ := h
  cases hr : e.raise with
  | none => exact ⟨next, bound, nofun⟩
  | some t => exact ⟨next.trans (target t hr).1, (target t hr).2, nofun⟩

theorem State.raiseDone_keepsTables (s : State) (p : SlotIx × TillIx) : KeepsTables s (s.raiseDone p) :=
  s.setCtr_keepsTables p.1 p.2 _ CounterEntry.ok.done

/-- A column of sound entries put in place of a slot's. -/
theorem State.setColumn_keepsTables (s : State) (k : SlotIx) (column : Vector CounterEntry 128)
    (h : (∀ i, (s.ctr k i).ok) → ∀ i : TillIx, (column[i]).ok) :
    KeepsTables s { s with counters := { s.counters with entries := s.counters.entries.set k column } } := by
  refine .of_counters rfl fun ⟨table, sector, write⟩ => ⟨fun l i => ?_, sector, write⟩
  simp only [State.ctr, Fin.getElem_fin, Vector.getElem_set, Fin.val_inj]
  split
  · exact h (table k) i
  · exact table l i

theorem State.activationDone_keepsTables (s : State) (k : SlotIx) : KeepsTables s (s.activationDone k) := by
  have pending : KeepsTables s (s.endPending k) := .of_rest rfl
  have fresh : ∀ t : State, KeepsTables t { t with counters :=
      { t.counters with entries := t.counters.entries.set k (Vector.replicate 128 freshEntry) } } := fun t =>
    t.setColumn_keepsTables k _ fun _ i => by
      rw [Fin.getElem_fin, Vector.getElem_replicate]
      exact ⟨by decide, by decide, nofun⟩
  exact ((pending.trans (fresh _)).trans (State.setSlot_keepsTables _ k _)).trans (State.raise_keepsTables ..)

/-- A sector 3 write that completes puts what it held into the sector (R51, R52). -/
theorem State.completeWrite3_keepsTables (s : State) (w : Write3) (h : s.counters.inFlight = some w) : KeepsTables s (s.completeWrite3 w) := by
  have stored : ∀ x : Sector Sector3, (x = .blank ∨ x = .good w.contents) →
      KeepsTables s { s with store := { s.store with sec3 := x } } := fun x hx =>
    ⟨fun ⟨table, _, write⟩ => ⟨table, fun c hc => by
      rcases hx with rfl | rfl
      · cases hc
      · cases hc; exact write w h, write⟩, fun hs => hs⟩
  refine (stored _ ?_).trans (.ite (fun _ => .refl _) fun _ =>
    (KeepsTables.foldl _ State.raiseDone_keepsTables _ _).trans (.foldl _ State.activationDone_keepsTables _ _))
  split <;> [exact .inl rfl; exact .inr rfl]

theorem State.raiseFailed_keepsTables (s : State) (p : SlotIx × TillIx) : KeepsTables s (s.raiseFailed p) :=
  s.setCtr_keepsTables p.1 p.2 _ fun h => h.unraised true

theorem State.activationFailed_keepsTables (s : State) (k : SlotIx) : KeepsTables s (s.activationFailed k) := by
  refine (s.setColumn_keepsTables k _ fun h i => ?_).trans (State.setSlot_keepsTables _ k _)
  rw [Fin.getElem_fin, Vector.getElem_ofFn]
  dsimp only
  split
  · exact (h _).unraised true
  · exact h _

theorem State.refuseHalted_keepsTables (s : State) : KeepsTables s s.refuseHalted :=
  .foldl _ (fun t i => .ite (fun _ => t.refuseIfBarred_keepsTables i) fun _ => .refl t) _ _

theorem State.failWrite3_keepsTables (s : State) (w : Write3) : KeepsTables s (s.failWrite3 w) := by
  have marks : ∀ t : State, KeepsTables t
      (if w.void then t else (w.activations.foldl State.activationFailed (w.raises.foldl State.raiseFailed t)).refuseHalted) := fun t =>
    .ite (fun _ => .refl t) fun _ => ((KeepsTables.foldl _ State.raiseFailed_keepsTables _ _).trans
      (.foldl _ State.activationFailed_keepsTables _ _)).trans (State.refuseHalted_keepsTables _)
  exact .ite (fun _ => (s.raise_keepsTables ..).trans (State.contain_keepsTables _))
    fun _ => ((s.raise_keepsTables ..).trans (marks _)).trans (State.contain_keepsTables _)

theorem execCheckpointWriteComplete_keepsTables (s : State) : NextKeepsTables s (execCheckpointWriteComplete s) := by
  refine .next ?_
  split
  · exact .refl s
  · rename_i w h
    exact (((s.completeWrite3_keepsTables w h).trans (State.endRaise_keepsTables _)).trans (State.end3_keepsTables _)).trans
      (State.settle_keepsTables _)

theorem execCheckpointWriteFail_keepsTables (s : State) : NextKeepsTables s (execCheckpointWriteFail s) := by
  refine .next ?_
  split
  · exact .refl s
  · exact (((s.failWrite3_keepsTables _).trans (State.endRaise_keepsTables _)).trans (State.end3_keepsTables _)).trans
      (State.settle_keepsTables _)

/-! ### Sector 1 and sector 2 writes (R68, R69, R72, R73, R75, R185) -/

theorem State.end1_keepsTables (s : State) : KeepsTables s s.end1 := by
  have ended : KeepsTables s { s with writer1 := { s.writer1 with inFlight := none } } :=
    .of_sectors rfl rfl (fun _ => id) (fun _ => id) nofun fun _ => id
  exact (ended.trans (State.mapJobs_keepsTables _ _)).trans (State.kick1_keepsTables _)

/-- A sector 1 write that completes puts what it held into the sector (R68). -/
theorem State.stored1_keepsTables (s : State) (c : Option Sector1) (h : s.writer1.inFlight = some c) :
    KeepsTables s { s with store := { s.store with sec1 := writtenSector c } } := by
  refine ⟨fun hs => hs, fun ⟨table, _, write⟩ => ⟨table, fun x hx => ?_, write⟩⟩
  cases c with
  | none => cases hx
  | some y => cases hx; exact write _ h

theorem State.end2_keepsTables (s : State) : KeepsTables s s.end2 := by
  have ended : KeepsTables s { s with writer2 := { s.writer2 with inFlight := none } } := .of_rest rfl
  exact (ended.trans (State.mapJobs_keepsTables _ _)).trans (State.kick2_keepsTables _)

theorem State.requestColumn_keepsTables (s : State) (k : SlotIx) : KeepsTables s (s.requestColumn k) := by
  have wanted : ∀ t : State, KeepsTables t { t with counters :=
      { t.counters with pending := t.counters.pending.filter (fun p => p.1 != k), activations := t.counters.activations ++ [k] } } :=
    fun _ => .of_rest rfl
  exact ((s.mapJobs_keepsTables _).trans (wanted _)).trans (State.kick3_keepsTables _)

theorem State.addition_keepsTables (void : Bool) (s : State) (a : KeyAddition) : KeepsTables s (State.addition void s a) := by
  have keyed : ∀ k : KeyTable, KeepsTables s { s with keys := k } := fun _ => .of_rest rfl
  cases a with
  | load k r =>
    have set : KeepsTables s (if void then s else s.setSlot k { s.slot k with staged := some r, busy := false }) :=
      .ite (fun _ => .refl s) fun _ => s.setSlot_keepsTables ..
    exact set.trans (State.raise_keepsTables ..)
  | loadFp r =>
    have set : KeepsTables s (if void then s else { s with keys := { s.keys with fp := some r, fpFloor := r.gen } }) :=
      .ite (fun _ => .refl s) fun _ => keyed _
    exact set.trans (State.raise_keepsTables ..)
  | activate k => exact .ite (fun _ => .refl s) fun _ => (s.setSlot_keepsTables ..).trans (State.requestColumn_keepsTables _ _)

theorem State.requestErase3_keepsTables (s : State) : KeepsTables s s.requestErase3 := by
  have wanted : ∀ t : State, KeepsTables t { t with counters := { t.counters with eraseWanted := true } } := fun _ => .of_rest rfl
  exact ((s.mapJobs_keepsTables _).trans (wanted _)).trans (State.kick3_keepsTables _)

theorem State.additionFails_keepsTables (s : State) (a : KeyAddition) : KeepsTables s (s.additionFails a) := by
  cases a with
  | load k _ => exact s.setSlot_keepsTables ..
  | loadFp _ => exact .refl s
  | activate k => exact s.setSlot_keepsTables ..

theorem State.dropAdditions_keepsTables (s : State) (w : Write2) : KeepsTables s (s.dropAdditions w) :=
  .ite (fun _ => .refl s) fun _ => .foldl _ State.additionFails_keepsTables _ _

theorem State.completeWrite2_keepsTables (s : State) (w : Write2) : KeepsTables s (s.completeWrite2 w) := by
  have stored : KeepsTables s { s with store := { s.store with sec2 := writtenSector w.contents } } := .of_rest rfl
  have made : ∀ t : State, KeepsTables t (if w.contents.isNone then t.dropAdditions w else w.additions.foldl (State.addition w.void) t) :=
    fun t => .ite (fun _ => t.dropAdditions_keepsTables w) fun _ => .foldl _ (State.addition_keepsTables w.void) _ _
  exact (stored.trans (made _)).trans (.ite (fun _ => State.requestErase3_keepsTables _) fun _ => .refl _)

theorem State.failWrite2_keepsTables (s : State) (w : Write2) : KeepsTables s (s.failWrite2 w) :=
  ((s.dropAdditions_keepsTables w).trans (State.raise_keepsTables ..)).trans (State.contain_keepsTables _)

theorem execSectorWriteComplete_keepsTables (s : State) (x : WSector) : NextKeepsTables s (execSectorWriteComplete x s) := by
  refine .next ?_
  cases x with
  | settings =>
    dsimp only
    split
    · exact .refl s
    · rename_i c h
      exact ((s.stored1_keepsTables c h).trans (State.end1_keepsTables _)).trans (State.settle_keepsTables _)
  | keys =>
    dsimp only
    split
    · exact .refl s
    · exact ((s.completeWrite2_keepsTables _).trans (State.end2_keepsTables _)).trans (State.settle_keepsTables _)

theorem execSectorWriteFail_keepsTables (s : State) (x : WSector) : NextKeepsTables s (execSectorWriteFail x s) := by
  refine .next ?_
  cases x with
  | settings =>
    dsimp only
    split
    · exact .refl s
    · exact (((s.raise_keepsTables ..).trans (State.contain_keepsTables _)).trans (State.end1_keepsTables _)).trans
        (State.settle_keepsTables _)
  | keys =>
    dsimp only
    split
    · exact .refl s
    · exact .ite (fun _ => (s.failWrite2_keepsTables _).trans (State.settle_keepsTables _))
        fun _ => ((s.failWrite2_keepsTables _).trans (State.end2_keepsTables _)).trans (State.settle_keepsTables _)

/-! ### The ends of Holding Store operations (R100, R105, R130, R157 to R159, R162) -/

/-- What the requester of a store operation is told keeps both tables, whoever asked (R100, R105, R130). -/
theorem KeepsTables.told {s : State} (by_ : Requester) {ctx : CtxIx → State} {matcher drain : State}
    (hc : ∀ i, KeepsTables s (ctx i)) (hm : KeepsTables s matcher) (hd : KeepsTables s drain) :
    KeepsTables s (match by_ with | .ctx i => ctx i | .matcher => matcher | .drain => drain | .nobody => s) := by
  cases by_ with
  | ctx i => exact hc i
  | matcher => exact hm
  | drain => exact hd
  | nobody => exact .refl s

theorem State.writeDone_keepsTables (s : State) (slot : Nat) (by_ : Requester) (r : HeldRecord) :
    KeepsTables s (s.writeDone slot by_ r) :=
  ((s.withHolding_keepsTables _).trans (State.setTill_bound_keepsTables _ _ _ (by rfl))).trans
    (.told by_ (fun i => State.endHolding_keepsTables _ i _) (State.answerNote_keepsTables _ _ _) (.refl _))

theorem State.writeFailed_keepsTables (s : State) (slot : Nat) (by_ : Requester) (r : HeldRecord) :
    KeepsTables s (s.writeFailed slot by_ r) := by
  have bad : ∀ (n : Nat) (h : HoldingStore), KeepsTables s { s with free := n, holding := h } := fun _ _ => .of_rest rfl
  exact ((((bad _ _).trans (State.raise_keepsTables _ .nvWriteFail none none _)).trans (State.release_keepsTables _ r.head)).trans
    (.told by_ (fun i => .ite (fun _ => State.endHolding_keepsTables _ i _) fun _ => .refl _) (State.answerNote_keepsTables _ _ _) (.refl _))).trans
    (State.contain_keepsTables _)

theorem State.freeDone_keepsTables (s : State) (slot : Nat) (by_ : Requester) : KeepsTables s (s.freeDone slot by_) := by
  unfold State.freeDone
  split
  · exact .refl s
  · rename_i l _
    exact (((s.withHolding_keepsTables _).trans (State.release_keepsTables _ l.head)).trans
      (.told by_ (fun i => State.endHolding_keepsTables _ i _) (.refl _) (State.withDrain_keepsTables _ _))).trans
      (State.checkDrain_keepsTables _)

theorem State.freeFailed_keepsTables (s : State) (slot : Nat) (by_ : Requester) : KeepsTables s (s.freeFailed slot by_) :=
  ((((s.withHolding_keepsTables _).trans (State.raise_keepsTables _ .nvWriteFail none none _)).trans
    (.told by_ (fun i => State.endHolding_keepsTables _ i _) (.refl _) (.refl _))).trans (State.checkDrain_keepsTables _)).trans
    (State.contain_keepsTables _)

theorem State.formatDone_keepsTables (s : State) : KeepsTables s s.formatDone := by
  have formatted : ∀ t : State, KeepsTables t { t with holding := formattedStore, standIn := emptyStandIn, drain := resetDrain } :=
    fun _ => .of_rest rfl
  exact ((s.leaveQueue_keepsTables .drain).trans (formatted _)).trans (State.mapJobs_keepsTables _ _)

/-- The operation in flight has ended with its effect, and what followed it in the store. -/
theorem State.opEnds_keepsTables {s t : State} (h : KeepsTables s.endOp t) : KeepsTables s t.afterOp.settle := by
  have ended : KeepsTables s s.endOp := .of_rest rfl
  exact ((ended.trans h).trans (State.afterOp_keepsTables _)).trans (State.settle_keepsTables _)

theorem execRecordWriteComplete_keepsTables (s : State) : NextKeepsTables s (execRecordWriteComplete s) := by
  refine .next ?_
  split <;> [exact State.opEnds_keepsTables (State.writeDone_keepsTables _ _ _ _); exact .refl s; exact .refl s]

theorem execRecordWriteFail_keepsTables (s : State) : NextKeepsTables s (execRecordWriteFail s) := by
  refine .next ?_
  split <;> [exact State.opEnds_keepsTables (State.writeFailed_keepsTables _ _ _ _); exact .refl s; exact .refl s]

theorem execRecordFreeComplete_keepsTables (s : State) : NextKeepsTables s (execRecordFreeComplete s) := by
  refine .next ?_
  split <;> [exact State.opEnds_keepsTables (State.freeDone_keepsTables _ _ _); exact .refl s; exact .refl s]

theorem execRecordFreeFail_keepsTables (s : State) : NextKeepsTables s (execRecordFreeFail s) := by
  refine .next ?_
  split <;> [exact State.opEnds_keepsTables (State.freeFailed_keepsTables _ _ _); exact .refl s; exact .refl s]

end Sys2Proof.Machine
end

section
/-! PROOFS. The Counter Table and the Till Entries as every step keeps them, last part: the management commands, and every step: it settles O2 and O6. -/

namespace Sys2Proof.Machine

/-! ### The Management Unit (R172 to R175) -/

theorem State.respond_keepsTables (s : State) (r : Response) : KeepsTables s (s.respond r) := .of_rest rfl

theorem State.answerUncarried_keepsTables (s : State) (e : EthFrame) (number code : Nat) (status : Status) :
    KeepsTables s (s.answerUncarried e number code status) := (s.addJob_keepsTables _).trans (State.request1_keepsTables _)

theorem State.acceptCommand_keepsTables (s : State) (e : EthFrame) (number code : Nat) (operands : Bytes) :
    KeepsTables s (s.acceptCommand e number code operands) := by
  refine (s.withMgmt_keepsTables { s.mgmt with last := number }).trans ?_
  unfold State.acceptCommand
  split
  · exact (State.raise_keepsTables ..).trans (State.answerUncarried_keepsTables ..)
  · exact .ite (fun _ => State.answerUncarried_keepsTables ..) fun _ => .of_rest rfl

theorem State.takeFrame_keepsTables (s : State) (f : Bytes) : KeepsTables s (s.takeFrame f) := by
  unfold State.takeFrame
  refine .ite (fun _ => s.raise_keepsTables ..) fun _ => ?_
  split
  · exact s.raise_keepsTables ..
  · exact .ite (fun _ => (s.raise_keepsTables ..).trans (State.respond_keepsTables _ _)) fun _ => s.acceptCommand_keepsTables _ _ _ _

theorem execMgmtFrameTake_keepsTables (s : State) : NextKeepsTables s (execMgmtFrameTake s) := by
  refine .next ?_
  split
  · exact .refl s
  · rename_i f rest h
    have taken := s.withMgmt_keepsTables { s.mgmt with arrivals := rest }
    exact .ite (fun _ => .refl s) fun _ => (taken.trans (State.takeFrame_keepsTables _ f)).trans (State.settle_keepsTables _)

/-- A command's own row keeps what its effect keeps. -/
theorem State.carry_keepsTables (s : State) (c : Instr) (f : Taken → State → State) (h : ∀ t u, KeepsTables u (f t u)) :
    NextKeepsTables s (.next (s.carry c f)) := by
  refine .next ?_
  unfold State.carry
  split
  · exact .refl s
  · exact .ite (fun _ => (s.withMgmt_keepsTables { s.mgmt with taken := none }).trans (h _ _)) fun _ => .refl s

/-! ### Tills (R40 to R45, R56, R57, R112) -/

/-- Where check 3 of R40 finds no conflict, no other entry has the address or the number. -/
theorem State.conflict_none {s : State} {i : TillIx} {mac : Mac} {number : Nat} (h : s.conflict i mac number = none) (j : TillIx)
    (b : Binding) (hj : j ≠ i) (hb : (s.till j).binding = some b) : b.mac ≠ mac ∧ b.number ≠ number := by
  have := List.find?_eq_none.1 h j (mem_allTills j)
  simpa [hb, hj] using this

/-- What WRITE-TILL's checks 2 and 3 establish of a new binding (R40). -/
structure State.Fits (s : State) (i : TillIx) (b : Binding) : Prop where
  mac : s.macFits b.mac = true
  low : 1 ≤ b.number
  high : b.number ≤ 9999
  own : s.conflict i b.mac b.number = none

/-- A till takes a binding that passed the checks of WRITE-TILL (R40). -/
theorem State.bound_keepsTables {s t : State} {i : TillIx} {b : Binding} (h : s.Fits i b)
    (same : (t.counterPart, t.sector1Part) = (s.counterPart, s.sector1Part)) (here : (t.till i).binding = some b)
    (others : ∀ j, j ≠ i → (t.till j).binding = (s.till j).binding) : KeepsTables s t := by
  simp only [Prod.mk.injEq, State.sector1Part] at same
  obtain ⟨counters, sec1, inFlight⟩ := same
  obtain ⟨mac, low, high, own⟩ := h
  simp only [State.macFits, Bool.and_eq_true, bne_iff_ne, ne_eq, Bool.not_eq_true'] at mac
  obtain ⟨⟨zeros, single⟩, -⟩ := mac
  refine ⟨countersBounded_congr counters, fun ⟨table, sector, write⟩ => ⟨?_, sec1 ▸ sector, inFlight ▸ write⟩⟩
  exact bindingsSound_of_bound table i b here others zeros single low high fun j y hj hy => State.conflict_none own j y hj hy

theorem State.createTill_keepsTables (s : State) (i : TillIx) (b : Binding) (h : s.Fits i b) : KeepsTables s (s.createTill i b) :=
  State.bound_keepsTables h rfl (by simp [State.createTill]) fun j hj => by
    rw [State.createTill, State.till_setTill_ne _ _ hj]
    rfl

theorem State.displaceTail_keepsTables (s : State) (i : TillIx) : KeepsTables s (s.displaceTail i) := by
  unfold State.displaceTail
  split
  · exact (s.setTill_bound_keepsTables i _ (by rfl)).trans (State.replyTo_keepsTables _ i _ _)
  · exact .refl s

theorem State.returnMessage_keepsTables (s : State) (i : TillIx) (m : TillMsg) : KeepsTables s (s.returnMessage i m) :=
  (s.setTill_bound_keepsTables i { s.till i with queue := m :: (s.till i).queue } rfl).trans
    (.ite (fun _ => .refl _) fun _ => State.displaceTail_keepsTables _ i)

theorem State.rewriteTill_keepsTables (s : State) (i : TillIx) (old new : Binding) (h : s.Fits i new) :
    KeepsTables s (s.rewriteTill i old new) := by
  have bound : ∀ r : Option AssemblyRecord, KeepsTables s (s.setTill i { s.till i with binding := some new, record := r }) := fun r =>
    State.bound_keepsTables h rfl (by simp) fun j hj => by rw [State.till_setTill_ne _ _ hj]
  have loses : ∀ t : State, KeepsTables t (match (t.loseReservation i).2 with
      | none => (t.loseReservation i).1
      | some m => (t.loseReservation i).1.returnMessage i m) := by
    intro t
    split
    · exact t.loseReservation_keepsTables i
    · exact (t.loseReservation_keepsTables i).trans (State.returnMessage_keepsTables _ i _)
  exact ((bound _).trans (.ite (fun _ => loses _) fun _ => .refl _)).trans (State.refuseIfBarred_keepsTables _ i)

theorem State.writeEntry_keepsTables (s : State) (i : TillIx) (mac : Mac) (number : Nat) (p : ProfIx) (k : SlotIx)
    (h : number ≠ 0 → ∀ enabled, s.Fits i { enabled := enabled, mac := mac, number := number, profile := p, slot := k }) :
    KeepsTables s (s.writeEntry i mac number p k) := by
  unfold State.writeEntry
  split
  · exact .ite (fun _ => .refl s) fun hn => s.createTill_keepsTables i _ (h hn false)
  · rename_i old _
    exact .ite (fun _ => s.emptyTill_keepsTables i) fun hn => s.rewriteTill_keepsTables i _ _ (h hn old.enabled)

theorem State.retryRaise_keepsTables (s : State) (t : Taken) (k : SlotIx) (i : TillIx) : KeepsTables s (s.retryRaise t k i) := by
  have raises : KeepsTables s (if (s.ctr k i).raise.isNone then s.requestRaise k i else s) :=
    .ite (fun _ => s.requestRaise_keepsTables k i) fun _ => .refl s
  exact ((raises.trans (State.addJob_keepsTables _ _)).trans (State.request1_keepsTables _)).trans (State.kick3_keepsTables _)

/-- A till's `enabled` setting changes, its address and number stay. -/
theorem State.switch_keepsTables (s : State) (i : TillIx) (b : Binding) (h : (s.till i).binding = some b) (enabled : Bool) :
    KeepsTables s (s.setTill i { s.till i with binding := some { b with enabled := enabled } }) :=
  s.setTill_keepsTables i _ fun y hy => ⟨b, h, by cases hy; exact ⟨rfl, rfl⟩⟩

theorem State.disableEntry_keepsTables (s : State) (i : TillIx) (b : Binding) (h : (s.till i).binding = some b) :
    KeepsTables s (s.disableEntry i b) :=
  (((s.switch_keepsTables i b h false).trans (State.loseReservation_keepsTables _ i)).trans
    (State.refuseLost_keepsTables _ i (.refused .tillDisabled) _)).trans (State.refuseQueue_keepsTables _ i _)

theorem execWriteTill_keepsTables (s : State) (index : Nat) (mac : Mac) (number profile slot : Nat) :
    NextKeepsTables s (execWriteTill index mac number profile slot s) := by
  refine s.carry_keepsTables _ _ fun t u => ?_
  split
  · rename_i i p k _ _ _
    refine .ite (fun _ => u.refuse_keepsTables ..) fun high => .ite (fun _ => u.refuse_keepsTables ..) fun fits => ?_
    split
    · exact u.answer_keepsTables ..
    · rename_i own
      refine ((u.writeEntry_keepsTables i mac number p k fun hn enabled => ?_).trans (State.answer_keepsTables _ _ _ _)).trans
        (State.settle_keepsTables _)
      rw [if_neg hn] at own
      exact ⟨by simpa [hn] using fits, Nat.pos_of_ne_zero hn, Nat.not_lt.1 high, own⟩
  · exact u.refuse_keepsTables ..

theorem execEnableTill_keepsTables (s : State) (index : Nat) : NextKeepsTables s (execEnableTill index s) := by
  refine s.carry_keepsTables _ _ fun t u => ?_
  split
  · exact u.refuse_keepsTables ..
  · split
    · exact u.refuse_keepsTables ..
    · rename_i i _ _ b hb
      exact ((u.switch_keepsTables i b hb true).trans
        (.ite (fun _ => State.retryRaise_keepsTables ..) fun _ => State.answer_keepsTables ..)).trans (State.settle_keepsTables _)

theorem execDisableTill_keepsTables (s : State) (index : Nat) : NextKeepsTables s (execDisableTill index s) := by
  refine s.carry_keepsTables _ _ fun t u => ?_
  split
  · exact u.refuse_keepsTables ..
  · split
    · exact u.refuse_keepsTables ..
    · rename_i b hb
      exact ((u.disableEntry_keepsTables _ b hb).trans (State.answer_keepsTables _ _ _ _)).trans (State.settle_keepsTables _)

/-! ### Settings (R88, R91, R138, R151, R182) -/

theorem State.withSettings_keepsTables (s : State) (x : Settings) : KeepsTables s { s with settings := x } := .of_rest rfl

theorem State.noteStanding_keepsTables (s : State) (above : Bool) : KeepsTables s (s.noteStanding above) :=
  .ite (fun _ => s.raise_keepsTables ..) fun _ => .refl s

theorem State.setStore_keepsTables (s : State) (x : StoreSettings) : KeepsTables s (s.setStore x) :=
  (s.withSettings_keepsTables { s.settings with store := x }).trans
    (.ite (fun _ => .of_linkOnly (State.tryRun_linkOnly _)) fun _ => State.leaveRunning_keepsTables _)

/-- Settings change, and the command is answered. -/
theorem State.written_keepsTables (s : State) (t : Taken) (x : Settings) (a : Status) (r : Results) :
    KeepsTables s (State.answer { s with settings := x } t a r) :=
  (s.withSettings_keepsTables x).trans (State.answer_keepsTables _ t a r)

theorem execWriteProfile_keepsTables (s : State) (o : ProfileOperands) : NextKeepsTables s (execWriteProfile o s) := by
  refine s.carry_keepsTables _ _ fun t u => ?_
  split
  · exact u.refuse_keepsTables ..
  · split
    · exact u.refuse_keepsTables ..
    · exact .ite (fun _ => u.written_keepsTables ..) fun _ => u.refuse_keepsTables ..

theorem execWriteFieldMap_keepsTables (s : State) (index count : Nat) (rules : List (Nat × Nat)) :
    NextKeepsTables s (execWriteFieldMap index count rules s) := by
  refine s.carry_keepsTables _ _ fun t u => ?_
  split
  · exact .ite (fun _ => u.refuse_keepsTables ..) fun _ => .ite (fun _ => u.refuse_keepsTables ..) fun _ =>
      .ite (fun _ => u.written_keepsTables ..) fun _ => u.refuse_keepsTables ..
  · exact u.refuse_keepsTables ..

theorem execSetLimits_keepsTables (s : State) (target l1 lt nc lc : Nat) : NextKeepsTables s (execSetLimits target l1 lt nc lc s) := by
  have written : ∀ (u : State) (t : Taken) (x : Settings) (above : Bool) (r : Results),
      KeepsTables u ((State.noteStanding { u with settings := x } above).answer t .ok r) := fun u t x above r =>
    ((u.withSettings_keepsTables x).trans (State.noteStanding_keepsTables _ above)).trans (State.answer_keepsTables _ t .ok r)
  refine s.carry_keepsTables _ _ fun t u => .ite (fun _ => .ite (fun _ => u.refuse_keepsTables ..) fun _ => written ..) fun _ => ?_
  split
  · exact u.refuse_keepsTables ..
  · exact .ite (fun _ => u.refuse_keepsTables ..) fun _ => written ..

theorem execSetStore_keepsTables (s : State) (o : StoreOperands) : NextKeepsTables s (execSetStore o s) := by
  refine s.carry_keepsTables _ _ fun t u => ?_
  split
  · exact u.refuse_keepsTables ..
  · exact ((u.setStore_keepsTables _).trans (State.answer_keepsTables _ t _ _)).trans (State.settle_keepsTables _)

/-! ### Reading commands, keys, the drain, RESET and the quiet-class commands -/

theorem execReadTill_keepsTables (s : State) (index : Nat) : NextKeepsTables s (execReadTill index s) := by
  refine s.carry_keepsTables _ _ fun t u => ?_
  split <;> [exact u.refuse_keepsTables ..; exact u.answer_keepsTables ..]

theorem execReadEvents_keepsTables (s : State) (clear : BitVec 8) : NextKeepsTables s (execReadEvents clear s) := by
  have cleared : ∀ (u : State) (x : Events), KeepsTables u { u with events := x } := fun _ _ => .of_rest rfl
  exact s.carry_keepsTables _ _ fun t u => (cleared u _).trans (State.answer_keepsTables _ t _ _)

theorem State.loadRecord_keepsTables (s : State) (t : Taken) (x : Option SlotIx) (r : KeyRecord) : KeepsTables s (s.loadRecord t x r) := by
  have taken := fun j => (s.addJob_keepsTables j).trans (State.request1_keepsTables _)
  unfold State.loadRecord
  dsimp only
  split
  · exact ((taken _).trans (State.setSlot_keepsTables _ _ _)).trans (State.request2_keepsTables _ _)
  · exact (taken _).trans (State.request2_keepsTables _ _)

theorem execLoadKey_keepsTables (s : State) (target ksid gen : Nat) (enc : BitVec 384) :
    NextKeepsTables s (execLoadKey target ksid gen enc s) := by
  refine s.carry_keepsTables _ _ fun t u => ?_
  split
  · exact u.refuse_keepsTables ..
  · refine .ite (fun _ => u.refuse_keepsTables ..) fun _ => ?_
    split
    · exact u.refuse_keepsTables ..
    · exact .ite (fun _ => u.refuse_keepsTables ..) fun _ => .ite (fun _ => u.refuse_keepsTables ..) fun _ =>
        .ite (fun _ => u.refuse_keepsTables ..) fun _ => u.loadRecord_keepsTables ..

theorem State.startDrain_keepsTables (s : State) : KeepsTables s s.startDrain := by
  have arms : ∀ t : State, KeepsTables t t.armDrain := fun t =>
    (t.withDrain_keepsTables { t.drain with state := .armed }).trans (.of_linkOnly (State.tryRun_linkOnly _))
  exact (s.withSettings_keepsTables { s.settings with suspended := false }).trans (.ite (fun _ => arms _) fun _ => .refl _)

theorem execStopDrain_keepsTables (s : State) : NextKeepsTables s (execStopDrain s) :=
  s.carry_keepsTables _ _ fun t u =>
    ((u.withSettings_keepsTables { u.settings with suspended := true }).trans (State.drainToIdle_keepsTables _)).trans
      (State.answer_keepsTables _ t _ _)

theorem execReleaseLockdown_keepsTables (s : State) : NextKeepsTables s (execReleaseLockdown s) := by
  have serving : ∀ u : State, KeepsTables u { u with opState := .serving } := fun _ => .of_rest rfl
  exact s.carry_keepsTables _ _ fun t u => .ite (fun _ => u.answer_keepsTables ..) fun _ => .ite (fun _ => u.refuse_keepsTables ..) fun _ =>
    .ite (fun _ => u.refuse_keepsTables ..) fun _ =>
      (((serving u).trans (State.raise_keepsTables _ .lockdownReleased none none none)).trans (State.answer_keepsTables _ t _ _)).trans
        (State.settle_keepsTables _)

theorem State.quietTaken_keepsTables (s : State) (t : Taken) (h : Hold) : KeepsTables s (s.beginWait t h).settle :=
  (s.beginWait_keepsTables t h).trans (State.settle_keepsTables _)

theorem execActivateKey_keepsTables (s : State) (slot : Nat) : NextKeepsTables s (execActivateKey slot s) := by
  refine s.carry_keepsTables _ _ fun t u => ?_
  split <;> [exact u.refuse_keepsTables ..; exact u.quietTaken_keepsTables ..]

theorem execEraseKey_keepsTables (s : State) (slot : Nat) : NextKeepsTables s (execEraseKey slot s) := by
  refine s.carry_keepsTables _ _ fun t u => ?_
  split <;> [exact u.refuse_keepsTables ..; exact u.quietTaken_keepsTables ..]

/-! ### Every step -/

theorem execHoldingScanEnd_keepsTables (s : State) (headerBad : Bool) (badHeads badMessages : List Nat) :
    NextKeepsTables s (execHoldingScanEnd headerBad badHeads badMessages s) := by
  have ended : ∀ (t : State) (x : Startup), KeepsTables t { t with startup := x } := fun _ _ => .of_rest rfl
  refine .next ?_
  split
  · exact .ite (fun _ => .refl s) fun _ => (s.endScan_keepsTables ..).trans (ended _ _)
  · exact .refl s

theorem execTransmitEnd_keepsTables (s : State) (p : Port) : NextKeepsTables s (execTransmitEnd p s) := by
  refine .next ?_
  split <;> [exact .refl s; exact s.finishSending_keepsTables p _]

theorem execPhysicalLinkRestored_keepsTables (s : State) (p : Port) : NextKeepsTables s (execPhysicalLinkRestored p s) := by
  refine .next (.ite (fun _ => .refl s) fun _ => ?_)
  cases p
  · exact s.setPort_keepsTables .lane _
  · exact (s.setPort_keepsTables .uplink _).trans (.ite (fun _ => State.physicalReturn_keepsTables _) fun _ => .refl _)

theorem execReplyWindowExpiry_keepsTables (s : State) (till : TillIx) (reference : Nat) :
    NextKeepsTables s (execReplyWindowExpiry till reference s) := by
  refine .next ?_
  split <;> [exact .refl s; exact (s.expireEntry_keepsTables _).trans (State.settle_keepsTables _)]

theorem execTamperAssert_keepsTables (s : State) : NextKeepsTables s (execTamperAssert s) := by
  have asserted : KeepsTables s { s with tamperIn := true } := .of_rest rfl
  exact .next (asserted.trans (.ite (fun _ => .refl _) fun _ => (State.tamper_keepsTables _).trans (State.settle_keepsTables _)))

theorem exec_keepsTables (s : State) (c : Instr) : NextKeepsTables s (exec c s) := by
  have linked : ∀ (t : State) (x : LinkMonitor), KeepsTables t { t with link := x } := fun _ _ => .of_rest rfl
  have then_settle : ∀ {t u : State}, KeepsTables t u → KeepsTables t u.settle := fun h => h.trans (State.settle_keepsTables _)
  cases c with
  | powerOn => exact .next (s.beginReset_keepsTables _)
  | resetPinAssert => exact .next (s.beginReset_keepsTables _)
  | resetPinRelease => exact .next (.ite (fun _ => .of_rest rfl) fun _ => .refl s)
  | sectorReadsEnd bad0 bad1 bad2 bad3 => exact .next (.ite (fun _ => s.endReads_keepsTables ..) fun _ => .refl s)
  | holdingScanEnd bad heads messages => exact execHoldingScanEnd_keepsTables s bad heads messages
  | startupEnd => exact .next (.ite (fun _ => then_settle s.endStartup_keepsTables) fun _ => .refl s)
  | rxFrame port frame => exact .next (.ite (fun _ => then_settle (s.receive_keepsTables port frame)) fun _ => .refl s)
  | transmitStart port => exact .next (.ite (fun _ => then_settle (s.startSending_keepsTables port)) fun _ => .refl s)
  | transmitEnd port => exact execTransmitEnd_keepsTables s port
  | physicalLinkLost port => exact .next (.ite (fun _ => then_settle (s.loseLink_keepsTables port)) fun _ => .refl s)
  | physicalLinkRestored port => exact execPhysicalLinkRestored_keepsTables s port
  | assemblyTimeout till =>
    exact .next (.ite (fun _ => (s.setTill_bound_keepsTables till { s.till till with record := none } rfl).trans
      (State.raise_keepsTables ..)) fun _ => .refl s)
  | derivingKeys ctx => exact execDeriving_keepsTables s ctx
  | wrapping ctx => exact execWrapping_keepsTables s ctx
  | authenticating ctx => exact execAuthenticating_keepsTables s ctx
  | deciding ctx => exact execDeciding_keepsTables s ctx
  | replyWindowExpiry till reference => exact execReplyWindowExpiry_keepsTables s till reference
  | probeTimerExpiry => exact .next (.ite (fun _ => s.probeTick_keepsTables) fun _ => .refl s)
  | probeDeadlineExpiry number =>
    exact .next (.ite (fun _ => then_settle (((s.unawait_keepsTables number).trans (.of_linkOnly (State.linkFailure_linkOnly _))).trans
      (State.raise_keepsTables ..))) fun _ => .refl s)
  | settleTimerExpiry =>
    exact .next (.ite (fun _ => then_settle ((linked s _).trans (.of_linkOnly (State.tryRun_linkOnly _)))) fun _ => .refl s)
  | drainTimeout sequence => exact .next (.ite (fun _ => then_settle s.timeOutDrain_keepsTables) fun _ => .refl s)
  | quietWaitLimitExpiry => exact .next (.ite (fun _ => then_settle s.timeOutQuiet_keepsTables) fun _ => .refl s)
  | checkpointWriteComplete => exact execCheckpointWriteComplete_keepsTables s
  | checkpointWriteFail => exact execCheckpointWriteFail_keepsTables s
  | sectorWriteComplete sector => exact execSectorWriteComplete_keepsTables s sector
  | sectorWriteFail sector => exact execSectorWriteFail_keepsTables s sector
  | recordWriteComplete => exact execRecordWriteComplete_keepsTables s
  | recordWriteFail => exact execRecordWriteFail_keepsTables s
  | recordFreeComplete => exact execRecordFreeComplete_keepsTables s
  | recordFreeFail => exact execRecordFreeFail_keepsTables s
  | formatEnd => exact .next (.ite (fun _ => then_settle s.formatDone_keepsTables) fun _ => .refl s)
  | tamperAssert => exact execTamperAssert_keepsTables s
  | tamperDeassert => exact .next (.of_rest rfl)
  | mgmtFrameTake => exact execMgmtFrameTake_keepsTables s
  | readStatus => exact s.carry_keepsTables _ _ fun _ u => u.answer_keepsTables ..
  | readTill index => exact execReadTill_keepsTables s index
  | readCounters first count =>
    exact s.carry_keepsTables _ _ fun _ u => .ite (fun _ => u.answer_keepsTables ..) fun _ => u.refuse_keepsTables ..
  | readEvents clear => exact execReadEvents_keepsTables s clear
  | readDrainSummary => exact s.carry_keepsTables _ _ fun t u => (u.withDrain_keepsTables _).trans (State.answer_keepsTables _ t _ _)
  | writeTill index mac number profile slot => exact execWriteTill_keepsTables s index mac number profile slot
  | enableTill index => exact execEnableTill_keepsTables s index
  | disableTill index => exact execDisableTill_keepsTables s index
  | writeProfile ops => exact execWriteProfile_keepsTables s ops
  | writeFieldMap index count rules => exact execWriteFieldMap_keepsTables s index count rules
  | setLimits target l1 lt nc lc => exact execSetLimits_keepsTables s target l1 lt nc lc
  | setLink interval nDown nUp settle => exact s.carry_keepsTables _ _ fun _ u => u.written_keepsTables ..
  | setStore ops => exact execSetStore_keepsTables s ops
  | loadKey target ksid gen encrypted => exact execLoadKey_keepsTables s target ksid gen encrypted
  | startDrain =>
    exact s.carry_keepsTables _ _ fun _ u => then_settle (u.startDrain_keepsTables.trans (State.answer_keepsTables ..))
  | stopDrain => exact execStopDrain_keepsTables s
  | releaseLockdown => exact execReleaseLockdown_keepsTables s
  | reset =>
    exact s.carry_keepsTables _ _ fun t u => then_settle ((u.withMgmt_keepsTables _).trans (State.answer_keepsTables _ t _ _))
  | activateKey slot => exact execActivateKey_keepsTables s slot
  | eraseKey slot => exact execEraseKey_keepsTables s slot
  | decommission force =>
    exact s.carry_keepsTables _ _ fun _ u => .ite (fun _ => u.refuse_keepsTables ..) fun _ => u.quietTaken_keepsTables ..
  | writeIdentity serial mac etype mgmtKey transportKey => exact .next (s.offerFactory_keepsTables _)
  | closeFactory => exact .next (s.offerFactory_keepsTables _)
  | fullErase => exact .next (s.offerFactory_keepsTables _)
  | factoryWriteEnd ok0 ok1 ok2 ok3 => exact .next (s.endFactory_keepsTables ..)

theorem step_keepsTables (s t : State) (h : step s = .next t) : KeepsTables s t := by
  unfold step at h
  split at h
  · cases h
    exact .of_rest rfl
  · rename_i c rest _
    have popped : KeepsTables s { s with pending := rest } := .of_rest rfl
    exact popped.trans (exec_keepsTables _ c t h)

/-- Settles O2, from the tables that every step keeps. -/
theorem stepKeepsTillsSound : Obligations.StepKeepsTillsSound := fun s t hs h => (step_keepsTables s t h).tills hs

/-- Settles O6, from the tables that every step keeps. -/
theorem stepKeepsCountersBounded : Obligations.StepKeepsCountersBounded := fun s t hs h => (step_keepsTables s t h).counters hs

end Sys2Proof.Machine
end

section
/-! PROOFS. The state right after a reset meets every invariant (R188): it settles O11. -/

namespace Sys2Proof.Machine

theorem till_reset (i : TillIx) : State.reset.till i = vacantTill := by simp [State.till, State.reset]

theorem ctx_reset (i : CtxIx) : State.reset.ctx i = idleCtx := by simp [State.ctx, State.reset]

theorem slot_reset (k : SlotIx) : State.reset.slot k = emptySlot := by simp [State.slot, State.reset, blankKeys]

theorem ctr_reset (k : SlotIx) (i : TillIx) : State.reset.ctr k i = restoredEntry 0 := ctr_of_blank rfl k i

theorem reset_wrap (i : CtxIx) : (State.reset.ctx i).wrap = none := by rw [ctx_reset]; rfl

theorem reset_countersBounded : State.reset.countersBounded :=
  ⟨fun k i => by rw [ctr_reset]; exact restoredEntry_ok (Nat.zero_le _), nofun, nofun⟩

theorem blankSettings_mapsSafe : blankSettings.mapsSafe := by
  intro i
  simp only [blankSettings, Fin.getElem_fin, Vector.getElem_replicate]
  decide

theorem reset_mapsSafe : State.reset.mapsSafe :=
  ⟨blankSettings_mapsSafe, nofun, nofun, fun i _ h => absurd ((reset_wrap i).symm.trans h) nofun⟩

theorem reset_ctxsClean : State.reset.ctxsClean := by
  intro i
  rw [ctx_reset]
  exact ⟨⟨fun _ => rfl, fun _ => rfl⟩, fun w (h : none = some w) => nomatch h⟩

theorem reset_withinDepths : State.reset.withinDepths :=
  (State.withinDepths_iff _).2 ⟨fun i => by rw [till_reset]; exact ⟨Nat.zero_le _, nofun⟩, ⟨Nat.zero_le _, Nat.zero_le _⟩,
    ⟨Nat.zero_le _, Nat.zero_le _⟩, Nat.zero_le _⟩

theorem reset_moneySound : State.reset.moneySound := by
  refine ⟨⟨.nil, .nil, rfl, .nil, nofun, fun _ => ⟨rfl, reset_wrap, rfl⟩, fun _ => ⟨rfl, rfl⟩⟩, ⟨rfl, fun i => ?_⟩, .nil, nofun, nofun⟩
  simp [State.reset, emptyStandIn, formattedStore, weightSum]

theorem reset_usedPlaces : State.reset.usedPlaces = 0 := by
  have none_taken : State.reset.takenPlaces = 0 :=
    List.length_eq_zero_iff.2 (List.filter_eq_nil_iff.2 fun i _ => by simp [reset_wrap])
  rw [State.usedPlaces, none_taken]
  rfl

theorem reset_placesSound : State.reset.placesSound := by
  refine ⟨by rw [reset_usedPlaces]; exact Nat.zero_le _, fun i w h => ?_, .nil, nofun, fun i w h => ?_, nofun⟩
  · exact absurd ((reset_wrap i).symm.trans h) nofun
  · exact absurd ((reset_wrap i).symm.trans h) nofun

theorem reset_binding (i : TillIx) : (State.reset.till i).binding = none := by rw [till_reset]; rfl

theorem reset_tillsSound : State.reset.tillsSound :=
  ⟨⟨fun i _ h => absurd ((reset_binding i).symm.trans h) nofun, fun i _ _ _ h => absurd ((reset_binding i).symm.trans h) nofun⟩, nofun, nofun⟩

theorem reset_references (i : TillIx) : State.reset.references i = [] := by
  have none_open : allCtxs.filterMap (fun c => (State.reset.ctx c).openReference i) = [] :=
    List.filterMap_eq_nil_iff.2 fun c _ => by rw [ctx_reset]; rfl
  rw [State.references, none_open, till_reset]
  rfl

theorem reset_pairsSound : State.reset.pairsSound := by
  refine ⟨fun i => by rw [reset_references]; exact .nil, fun i w h => ?_, fun i j v w h => ?_, fun i w h => ?_⟩
  all_goals exact absurd ((reset_wrap i).symm.trans h) nofun

theorem reset_previousNeeded : State.reset.previousNeeded := by
  intro k r h
  rw [slot_reset] at h
  cases h

theorem reset_sequencesSound : State.reset.sequencesSound := by
  refine ⟨.nil, nofun, by decide, nofun, fun h => ?_, fun _ _ => .nil, nofun⟩
  exact absurd h.1 (by decide)

/-- Settles O11, invariant by invariant. -/
theorem resetMeetsEveryInvariant : Obligations.ResetMeetsEveryInvariant :=
  ⟨reset_countersBounded, reset_mapsSafe, reset_ctxsClean, reset_withinDepths, reset_moneySound, reset_placesSound, Nat.zero_le _,
    reset_tillsSound, reset_pairsSound, reset_previousNeeded, reset_sequencesSound⟩

end Sys2Proof.Machine
end

section
/-! PROOFS. When a Key Store write begins (R51, R68, R185): the cases of the three requests, and what each leaves. -/

namespace Sys2Proof.Machine

/-! ### Sector 1 -/

theorem State.kick1_busy (s : State) (h : s.writer1.inFlight.isSome = true ∨ s.erasing = true) : s.kick1 = s :=
  if_pos (Bool.or_eq_true_iff.2 h)

/-- The state once a sector 1 write of the given contents, or an erase, is in flight (R68, R185). -/
def State.writing1 (s : State) (c : Option Sector1) : State :=
  { s with writer1 := { inFlight := some c, wanted := false, eraseWanted := false }
           mgmt := { s.mgmt with jobs := s.mgmt.jobs.map Job.begun1 } }

theorem State.kick1_free (s : State) (hf : s.writer1.inFlight = none) (he : s.erasing = false) :
    s.kick1 = if s.writer1.eraseWanted then s.writing1 none else if s.writer1.wanted then s.writing1 (some s.sector1) else s :=
  if_neg (by simp [hf, he])

/-! ### Sector 2 -/

/-- What a job becomes when the sector 2 write that begins carries its request. -/
def Job.begun2 (j : Job) : Job := { j with s2 := j.s2.begun }

theorem State.kick2_busy (s : State) (h : s.writer2.inFlight.isSome = true ∨ s.erasing = true) : s.kick2 = s :=
  if_pos (Bool.or_eq_true_iff.2 h)

/-- The state once a sector 2 write, or DECOMMISSION's erase, carries what has waited (R68, R185). -/
def State.writing2 (s : State) (c : Option Sector2) : State :=
  { s with writer2 := { inFlight := some { contents := c, additions := s.writer2.waiting, zeroise := false, thenErase3 := c.isNone, void := false }
                        waiting := [], wanted := false, eraseWanted := false }
           mgmt := { s.mgmt with jobs := s.mgmt.jobs.map Job.begun2 } }

theorem State.kick2_free (s : State) (hf : s.writer2.inFlight = none) (he : s.erasing = false) :
    s.kick2 = if s.writer2.eraseWanted then s.writing2 none
      else if s.writer2.wanted then s.writing2 (some (s.sector2 s.writer2.waiting)) else s :=
  if_neg (by simp [hf, he])

/-! ### Sector 3 -/

/-- What a job becomes when the sector 3 write that begins carries its request. -/
def Job.begun3 (j : Job) : Job := { j with s3 := j.s3.begun }

/-- What a job becomes when nothing is left that a sector 3 write could carry (log 76). -/
def Job.unqueued3 (j : Job) : Job := if j.s3 = .queued then { j with s3 := .no } else j

/-- The sector 3 write that takes every request (R51, R60, R185). -/
def State.nextWrite3 (s : State) : Write3 :=
  { raises := if s.counters.eraseWanted then [] else s.counters.pending.filter (fun r => !s.counters.activations.contains r.1)
    activations := if s.counters.eraseWanted then [] else s.counters.activations
    erase := s.counters.eraseWanted
    void := false
    contents := s.sector3 s.counters.activations }

/-- The state once a sector 3 write has taken every request. -/
def State.writing3 (s : State) : State :=
  { s with counters := { s.counters with pending := [], activations := [], eraseWanted := false, inFlight := some s.nextWrite3 }
           mgmt := { s.mgmt with jobs := s.mgmt.jobs.map Job.begun3 } }

/-- Nothing is requested of sector 3. -/
def CounterTable.quiet (x : CounterTable) : Bool := x.pending.isEmpty && x.activations.isEmpty && !x.eraseWanted

theorem CounterTable.quiet_iff (x : CounterTable) : x.quiet = true ↔ x.pending = [] ∧ x.activations = [] ∧ x.eraseWanted = false := by
  simp [CounterTable.quiet, and_assoc]

theorem State.kick3_busy (s : State) (h : s.counters.inFlight.isSome = true ∨ s.erasing = true) : s.kick3 = s :=
  if_pos (Bool.or_eq_true_iff.2 h)

theorem State.kick3_free (s : State) (hf : s.counters.inFlight = none) (he : s.erasing = false) :
    s.kick3 = if s.counters.quiet then s.mapJobs Job.unqueued3 else s.writing3 :=
  if_neg (by simp [hf, he])

/-- A request of a sector 3 write changes nothing else than the Counter Table and the unanswered commands. -/
theorem State.kick3_jobs (s : State) : s.kick3 = { s with counters := s.kick3.counters, mgmt := { s.mgmt with jobs := s.kick3.mgmt.jobs } } := by
  by_cases busy : s.counters.inFlight.isSome = true ∨ s.erasing = true
  · rw [s.kick3_busy busy]
  · rw [not_or, Option.not_isSome_iff_eq_none, Bool.not_eq_true] at busy
    rw [s.kick3_free busy.1 busy.2]
    split <;> rfl

end Sys2Proof.Machine
end

section
/-! PROOFS. The end of the sector reads (R47, R58, R59, R70, R189, R191): what the sectors restore, what their failures leave, and the start-up raise; it
settles O15 and O16. -/

namespace Sys2Proof.Machine

/-! ### The start-up raise (R59) -/

theorem mem_allSlots (k : SlotIx) : k ∈ allSlots :=
  List.mem_map.2 ⟨k.val, List.mem_range.2 k.isLt, Fin.ext (Nat.mod_eq_of_lt k.isLt)⟩

/-- The pairs the start-up raise is of (R59). -/
def State.startupPairs (s : State) : List (SlotIx × TillIx) :=
  allSlots.flatMap (fun k => (allTills.filter (fun i => decide ((s.ctr k i).k < Config.spent))).map (fun i => (k, i)))

theorem State.mem_startupPairs (s : State) (k : SlotIx) (i : TillIx) : (k, i) ∈ s.startupPairs ↔ (s.ctr k i).k < Config.spent := by
  simp [State.startupPairs, mem_allSlots, mem_allTills]

/-- The state that asks for the start-up raise. -/
def State.raisesAsked (s : State) : State :=
  { s with counters := { s.counters with
    entries := s.counters.entries.map (fun column => column.map CounterEntry.startupRaised), pending := s.startupPairs } }

theorem State.startupRaise_eq (s : State) : s.startupRaise = s.raisesAsked.kick3 := rfl

@[simp] theorem State.ctr_raisesAsked (s : State) (k : SlotIx) (i : TillIx) : s.raisesAsked.ctr k i = (s.ctr k i).startupRaised := by
  simp [State.raisesAsked, State.ctr]

@[simp] theorem State.ctr_startupRaise (s : State) (k : SlotIx) (i : TillIx) : s.startupRaise.ctr k i = (s.ctr k i).startupRaised := by
  rw [s.startupRaise_eq, State.ctr_kick3, State.ctr_raisesAsked]

/-- The start-up raise changes nothing else than the Counter Table and the unanswered commands. -/
theorem State.startupRaise_frame (s : State) : s.startupRaise =
    { s with counters := s.startupRaise.counters, mgmt := { s.mgmt with jobs := s.startupRaise.mgmt.jobs } } := State.kick3_jobs _

section

variable (s : State) (hf : s.counters.inFlight = none) (he : s.erasing = false) (ha : s.counters.activations = [])
  (hw : s.counters.eraseWanted = false)
include hf he ha hw

/-- The start-up raise is a write only where some entry is below 1,048,576 (R59). -/
theorem State.startupRaise_inFlight : s.startupRaise.counters.inFlight = if s.startupPairs = [] then none else some s.raisesAsked.nextWrite3 := by
  have quiet : s.raisesAsked.counters.quiet = true ↔ s.startupPairs = [] :=
    (CounterTable.quiet_iff _).trans ⟨fun h => h.1, fun h => ⟨h, ha, hw⟩⟩
  rw [s.startupRaise_eq, s.raisesAsked.kick3_free hf he]
  by_cases hp : s.startupPairs = []
  · rw [if_pos (quiet.2 hp), if_pos hp]
    exact hf
  · rw [if_neg (mt quiet.1 hp), if_neg hp]
    rfl

theorem State.startupRaise_none : s.startupRaise.counters.inFlight = none ↔ ∀ k i, Config.spent ≤ (s.ctr k i).k := by
  have none_below : s.startupPairs = [] ↔ ∀ k i, Config.spent ≤ (s.ctr k i).k := by
    rw [List.eq_nil_iff_forall_not_mem]
    simp only [Prod.forall, s.mem_startupPairs, Nat.not_lt]
  rw [s.startupRaise_inFlight hf he ha hw, ← none_below]
  split <;> simp_all

/-- The start-up raise's write carries every entry below 1,048,576, with its target (R59). -/
theorem State.startupRaise_write (w : Write3) (h : s.startupRaise.counters.inFlight = some w) :
    w.erase = false ∧ w.void = false ∧ w.activations = [] ∧ ∀ k i, ((k, i) ∈ w.raises ↔ (s.ctr k i).k < Config.spent)
      ∧ (w.contents[k])[i] = (s.ctr k i).startupRaised.raise.getD (s.ctr k i).k := by
  have asked : s.raisesAsked.counters.activations = [] ∧ s.raisesAsked.counters.eraseWanted = false := ⟨ha, hw⟩
  have held : w = s.raisesAsked.nextWrite3 := by
    rw [s.startupRaise_inFlight hf he ha hw] at h
    split at h <;> cases h
    rfl
  have raises : w.raises = s.startupPairs := by
    rw [held, State.nextWrite3, asked.1, asked.2]
    simp [State.raisesAsked]
  refine ⟨by rw [held]; exact asked.2, by rw [held]; rfl, ?_, fun k i => ⟨by rw [raises, s.mem_startupPairs], ?_⟩⟩
  · rw [held, State.nextWrite3, asked.1, asked.2]
    rfl
  · rw [held, State.nextWrite3, asked.1, State.sector3_read, State.ctr_raisesAsked]
    rfl

end

/-! ### The sectors as they are read (R47, R58, R64, R70, R189) -/

/-- The state once the sectors have been read: what fails its check at rest is found, the tables are restored, the receive paths are open. -/
def State.readSectors (s : State) (bad0 bad1 bad2 bad3 : Bool) : State :=
  State.restore { s with
    store := { sec0 := s.store.sec0.damage bad0, sec1 := s.store.sec1.damage bad1, sec2 := s.store.sec2.damage bad2,
               sec3 := s.store.sec3.damage bad3 }
    rxOpen := true }

theorem State.serveFactory_none (s : State) (h : s.factory.waiting = []) : s.serveFactory = s := by
  rw [State.serveFactory, h]
  rfl

theorem State.sectorFail_lockdownOnly (s : State) (n : Nat) (failing : Bool) : LockdownOnly s (s.sectorFail n failing) := by
  have raised : LockdownOnly s (s.raise .sectorCheckFail (location := some (.sector n))) := ⟨_, _, _, _, _, _, _, _, _, _, _, rfl⟩
  unfold State.sectorFail
  split
  · dsimp only
    split
    · exact raised
    · exact raised.trans (State.contain_lockdownOnly _)
  · exact .refl s

theorem LockdownOnly.store {s t : State} (h : LockdownOnly s t) : t.store = s.store := by
  obtain ⟨_, _, _, _, _, _, _, _, _, _, _, rfl⟩ := h
  rfl

/-- The failures of the four sectors are raised, and those of sectors 1 to 3 contained, as the reads find them (R70, R191). -/
def State.checkSectors (s : State) : State :=
  let s := s.sectorFail 0 s.store.sec0.isFailing
  let s := s.sectorFail 1 s.store.sec1.isFailing
  let s := s.sectorFail 2 s.store.sec2.isFailing
  s.sectorFail 3 s.store.sec3.isFailing

/-- No failure changes what the later sectors are found to be. -/
theorem State.checkSectors_eq (s : State) : s.checkSectors = (((s.sectorFail 0 s.store.sec0.isFailing).sectorFail 1
    s.store.sec1.isFailing).sectorFail 2 s.store.sec2.isFailing).sectorFail 3 s.store.sec3.isFailing := by
  have store := fun (t : State) (n : Nat) (b : Bool) => (t.sectorFail_lockdownOnly n b).store
  simp only [State.checkSectors, store]

theorem State.checkSectors_lockdownOnly (s : State) : LockdownOnly s s.checkSectors := by
  rw [s.checkSectors_eq]
  exact (((s.sectorFail_lockdownOnly 0 _).trans (State.sectorFail_lockdownOnly _ 1 _)).trans (State.sectorFail_lockdownOnly _ 2 _)).trans
    (State.sectorFail_lockdownOnly _ 3 _)

/-- The end of the sector reads, by whether sector 0 is in service (R187, R189). -/
theorem State.endReads_eq (s : State) (bad0 bad1 bad2 bad3 : Bool) :
    let u := (s.readSectors bad0 bad1 bad2 bad3).checkSectors
    s.endReads bad0 bad1 bad2 bad3 =
      if u.isClosed then State.serveFactory { u.startupRaise with startup := .scanning u.startupRaise.counters.inFlight.isNone false }
      else State.serveFactory { u with opState := .factory, startup := .over } := rfl

theorem State.execSectorReadsEnd_reading (s : State) (bad0 bad1 bad2 bad3 : Bool) (h : s.startup = .reading) :
    exec (.sectorReadsEnd bad0 bad1 bad2 bad3) s = .next (s.endReads bad0 bad1 bad2 bad3) := by
  simp only [exec, execSectorReadsEnd, if_pos h]

/-- With sector 0 in service start-up goes on with the scan (R189). -/
theorem State.endReads_inService (s : State) (bad0 bad1 bad2 bad3 : Bool) (hw : s.factory.waiting = [])
    (hc : (s.readSectors bad0 bad1 bad2 bad3).checkSectors.isClosed = true) :
    let t := (s.readSectors bad0 bad1 bad2 bad3).checkSectors.startupRaise
    s.endReads bad0 bad1 bad2 bad3 = { t with startup := .scanning t.counters.inFlight.isNone false } := by
  intro t
  have waiting : t.factory.waiting = [] := by
    obtain ⟨_, _, _, _, _, _, _, _, _, _, _, h⟩ := (s.readSectors bad0 bad1 bad2 bad3).checkSectors_lockdownOnly
    rw [show t = _ from State.startupRaise_frame _, h]
    exact hw
  rw [s.endReads_eq, if_pos hc]
  exact State.serveFactory_none _ waiting

/-! ### Every sector good -/

/-- The Counter Table as sector 3 restores it asks for nothing (R58). -/
theorem restoredCounters_quiet (x : Sector Sector3) : (restoredCounters x).activations = [] ∧ (restoredCounters x).eraseWanted = false := by
  cases x <;> exact ⟨rfl, rfl⟩

theorem restoredEntry_startupRaised (k : Nat) : (restoredEntry k).startupRaised =
    { c := k, k := k, raise := if k < 1048576 then some (min (k + 256) 1048576) else none, failed := false } := rfl

/-- What the start-up raise's write records of an entry restored at a checkpoint (R51, R59). -/
theorem restoredEntry_target (k : Nat) : (restoredEntry k).startupRaised.raise.getD k =
    if k < Config.spent then min (k + Config.raiseStep) Config.spent else k := by
  unfold CounterEntry.startupRaised restoredEntry
  dsimp only
  split <;> rfl

/-- Settles O15: the sectors as restored, then the start-up raise. -/
theorem sectorReadsRestoreTheTables : Obligations.SectorReadsRestoreTheTables := by
  intro s c0 c1 c2 c3 hr ho he hw hs hc
  obtain ⟨v, hv⟩ : ∃ v : State, v = s.readSectors false false false false := ⟨_, rfl⟩
  have store : v.store = s.store := by rw [hv, hs]; simp [State.readSectors, State.restore, hs, Sector.damage]
  have checked : v.checkSectors = v := by
    rw [v.checkSectors_eq, store, hs]
    rfl
  have closed : v.isClosed = true := by simp [State.isClosed, store, hs, Sector.contents?, hc]
  have counters : v.counters = restoredCounters (.good c3) := by rw [hv]; simp [State.readSectors, State.restore, hs, Sector.damage]
  have ctr : ∀ k i, v.ctr k i = restoredEntry (c3[k])[i] := fun k i => by simp [State.ctr, counters, restoredCounters]
  have idle : v.counters.inFlight = none := by rw [counters]; rfl
  have erasing : v.erasing = false := by rw [hv]; exact he
  have quiet := restoredCounters_quiet (.good c3)
  rw [← counters] at quiet
  obtain ⟨activations, eraseWanted⟩ := quiet
  refine ⟨_, (s.execSectorReadsEnd_reading _ _ _ _ hr).trans (congrArg _ (s.endReads_inService _ _ _ _ hw ?_)), ?_⟩
  · rw [← hv, checked, closed]
  rw [← hv, checked]
  have frame := v.startupRaise_frame
  have whole : v = { s with rxOpen := true, identity := v.identity, settings := v.settings, tills := v.tills, mgmt := v.mgmt
                            keys := v.keys, counters := v.counters } :=
    calc v = { v with store := s.store } := by rw [← store]
      _ = _ := by rw [hv]; rfl
  have table : ∀ k i, v.startupRaise.ctr k i = (restoredEntry (c3[k])[i]).startupRaised := fun k i => by rw [State.ctr_startupRaise, ctr]
  have settings : v.settings = c1.settings := by rw [hv]; simp [State.readSectors, State.restore, hs, Sector.damage, Sector.contents?]
  have last : v.mgmt.last = c1.lastNumber := by rw [hv]; simp [State.readSectors, State.restore, hs, Sector.damage, Sector.contents?]
  have identity : v.identity = some c0 := by rw [hv]; simp [State.readSectors, State.restore, hs, Sector.damage, Sector.contents?]
  have till : ∀ i, v.till i = { vacantTill with binding := c1.bindings[i] } := fun i => by
    rw [hv, State.readSectors, State.till_restore]
    simp [hs, Sector.damage, Sector.contents?]
  have keys : v.keys = restoredKeys (if s.writer2.inFlight.isSome then .blank else .good c2) := by
    rw [hv]; simp [State.readSectors, State.restore, hs, Sector.damage]
  refine ⟨(congrArg State.opState frame).trans ?_, (congrArg State.rxOpen frame).trans ?_, rfl, (congrArg State.identity frame).trans identity,
    (congrArg State.settings frame).trans settings, (congrArg (·.mgmt.last) frame).trans last, (congrArg State.store frame).trans store,
    (congrArg State.events frame).trans ?_, fun i => ?_, fun hn => ?_, fun hn => ?_, table, ?_, fun w hw => ?_, ?_⟩
  · rw [whole]; exact ho
  · rw [whole]
  · rw [whole]
  · rw [← till i, State.till, congrArg State.tills frame]
    rfl
  · have fresh : v.startupRaise.keys = restoredKeys (.good c2) := (congrArg State.keys frame).trans (by rw [keys, hn]; rfl)
    refine ⟨fun k => (congrArg (fun x : KeyTable => x.slots[k]) fresh).trans ?_, by rw [fresh]; rfl, by rw [fresh]; rfl⟩
    simp [restoredKeys, StoredSlot.restored]
  · exact (congrArg State.keys frame).trans (by rw [keys, if_pos hn]; rfl)
  · refine (v.startupRaise_none idle erasing activations eraseWanted).trans ?_
    simp only [ctr]
    rfl
  · obtain ⟨erase, void, acts, entries⟩ := v.startupRaise_write idle erasing activations eraseWanted w hw
    refine ⟨erase, void, acts, fun k i => ?_⟩
    obtain ⟨raised, held⟩ := entries k i
    rw [ctr] at raised held
    exact ⟨raised, held.trans (restoredEntry_target _)⟩
  · obtain ⟨c, m, raised⟩ : ∃ c m, v.startupRaise = { v with counters := c, mgmt := m } := ⟨_, _, frame⟩
    obtain ⟨_, _, _, _, _, _, restored⟩ : ∃ a b c d e f,
        v = { s with rxOpen := true, identity := a, settings := b, tills := c, mgmt := d, keys := e, counters := f } := ⟨_, _, _, _, _, _, whole⟩
    rw [raised, restored]

/-! ### Sectors that fail (R70, R187, R191) -/

theorem State.contain_starting (s : State) (h : s.opState = .starting) :
    s.contain = { s with cause := s.cause || s.settings.store.policy == .strict } := by
  unfold State.contain
  cases hp : s.settings.store.policy with
  | lenient => rw [show (s.cause || Containment.lenient == Containment.strict) = s.cause from Bool.or_false _]
  | strict => rw [show (s.cause || Containment.strict == Containment.strict) = true from Bool.or_true _, h]

/-- SECTOR-CHECK-FAIL for a sector (R70). -/
def Events.sectorFails (v : Events) (n : Nat) : Events := v.after .sectorCheckFail none none (some (.sector n))

/-- A failing sector 1, 2 or 3 while the part is STARTING (R70, R191). -/
theorem State.sectorFail_starting (s : State) (n : Nat) (hn : n ≠ 0) (h : s.opState = .starting) : s.sectorFail n true =
    { s with events := s.events.sectorFails n, cause := s.cause || s.settings.store.policy == .strict } := by
  rw [State.sectorFail, if_pos rfl, if_neg hn]
  exact State.contain_starting (s.raise .sectorCheckFail (location := some (.sector n))) h

/-- The failing sectors of a STARTING part: each is raised, and under STRICT the lockdown cause is set by any (R70, R187, R191). -/
theorem State.sectorsFail_starting (s : State) (l : List Nat) (hl : 0 ∉ l) (h : s.opState = .starting) :
    l.foldl (fun s n => s.sectorFail n true) s = { s with
      events := l.foldl Events.sectorFails s.events
      cause := s.cause || (decide (l ≠ []) && s.settings.store.policy == .strict) } := by
  induction l generalizing s with
  | nil => simp
  | cons n l ih =>
    rw [List.mem_cons, not_or] at hl
    rw [List.foldl_cons, s.sectorFail_starting n (Ne.symm hl.1) h]
    refine Eq.trans (ih _ hl.2 ?_) ?_
    · exact h
    refine congrArg (fun c => { s with events := l.foldl Events.sectorFails (s.events.sectorFails n), cause := c }) ?_
    cases s.cause <;> cases s.settings.store.policy <;> simp

/-- The count of the failing sectors, from none (R70, R197). -/
theorem count_sectorFails (l : List Nat) (s : State) (h : s.count .sectorCheckFail + l.length ≤ 65535) :
    State.count { s with events := l.foldl Events.sectorFails s.events } .sectorCheckFail = s.count .sectorCheckFail + l.length := by
  induction l generalizing s with
  | nil => rfl
  | cons n l ih =>
    have raised : (s.raise .sectorCheckFail none none (some (.sector n))).count .sectorCheckFail = s.count .sectorCheckFail + 1 := by
      rw [State.count_raise_self, List.length_cons] at *
      exact min_eq_left (by omega : _ ≤ 65535)
    rw [List.length_cons] at h ⊢
    refine (ih (s.raise .sectorCheckFail none none (some (.sector n))) (by omega)).trans ?_
    rw [raised]
    omega

/-- The Fault Record keeps its first fault, and counts the further ones (R196). -/
theorem fault_sectorFails (l : List Nat) (v : Events) (r : FaultRecord) (h : v.fault = some r) (hl : r.further + l.length ≤ 255) :
    (l.foldl Events.sectorFails v).fault = some { r with further := r.further + l.length } := by
  induction l generalizing v r with
  | nil => exact h
  | cons n l ih =>
    rw [List.length_cons] at hl ⊢
    have raised : (v.sectorFails n).fault = some { r with further := r.further + 1 } := by
      simp [Events.sectorFails, Events.after, faultAfter, EventCode.eventClass, h]
      omega
    rw [List.foldl_cons, ih _ _ raised (by dsimp only; omega)]
    dsimp only
    congr 2
    omega

/-- The lowest failing sector is in an empty Fault Record (R70, R196). -/
theorem fault_sectorFails_first (l : List Nat) (v : Events) (h : v.fault = none) (hl : l.length ≤ 255) :
    (l.foldl Events.sectorFails v).fault = l.head?.map (fun n =>
      { code := .sectorCheckFail, till := none, slot := none, location := some (.sector n), further := l.length - 1 }) := by
  cases l with
  | nil => exact h
  | cons n l =>
    have raised : (v.sectorFails n).fault =
        some { code := .sectorCheckFail, till := none, slot := none, location := some (.sector n), further := 0 } := by
      simp [Events.sectorFails, Events.after, faultAfter, EventCode.eventClass, h]
    rw [List.length_cons] at hl
    rw [List.foldl_cons, fault_sectorFails l _ _ raised (by dsimp only; omega)]
    simp

/-- The failing ones of sectors 1 to 3, when sector 0 is good. -/
def KeyStore.failing (x : KeyStore) : List Nat :=
  [(1, x.sec1.isFailing), (2, x.sec2.isFailing), (3, x.sec3.isFailing)].filterMap (fun p => if p.2 then some p.1 else none)

theorem State.checkSectors_good0 (s : State) (h : s.store.sec0.isFailing = false) :
    s.checkSectors = s.store.failing.foldl (fun s n => s.sectorFail n true) s := by
  rw [s.checkSectors_eq, h, KeyStore.failing]
  cases s.store.sec1.isFailing <;> cases s.store.sec2.isFailing <;> cases s.store.sec3.isFailing <;> rfl

/-- The Fault Record holds a fault, whatever further ones it has counted (R196). -/
def State.HoldsFault (s : State) (x : FaultRecord) : Prop := ∃ further, s.events.fault = some { x with further := further }

theorem State.HoldsFault.sectorFail {s : State} {x : FaultRecord} (h : s.HoldsFault x) (n : Nat) (failing : Bool) :
    (s.sectorFail n failing).HoldsFault x := by
  have raised : (s.raise .sectorCheckFail (location := some (.sector n))).HoldsFault x := by
    obtain ⟨further, h⟩ := h
    exact ⟨min (further + 1) 255, by simp [State.raise, Events.after, faultAfter, EventCode.eventClass, h]⟩
  unfold State.sectorFail
  split
  · dsimp only
    split
    · exact raised
    · obtain ⟨further, held⟩ := raised
      exact ⟨further, (State.contain_sameFaults _).1.trans held⟩
  · exact h

/-- A failing sector 0 is the first fault (R70, R189). -/
theorem State.checkSectors_holds (s : State) (h : s.store.sec0.isFailing = true) (hf : s.events.fault = none) :
    s.checkSectors.HoldsFault { code := .sectorCheckFail, till := none, slot := none, location := some (.sector 0), further := 0 } := by
  have first : (s.sectorFail 0 true).HoldsFault
      { code := .sectorCheckFail, till := none, slot := none, location := some (.sector 0), further := 0 } :=
    ⟨0, by simp [State.sectorFail, State.raise, Events.after, faultAfter, EventCode.eventClass, hf]⟩
  rw [s.checkSectors_eq, h]
  exact ((first.sectorFail 1 _).sectorFail 2 _).sectorFail 3 _

theorem State.isClosed_iff (s : State) : s.isClosed = true ↔ s.store.sec0.contents?.map (·.closed) = some true := by
  unfold State.isClosed
  cases s.store.sec0.contents?.map (·.closed) <;> simp

/-- The sector reads with sector 0 not in service (R187, R189). -/
theorem State.endReads_factory (s : State) (bad0 bad1 bad2 bad3 : Bool) (hw : s.factory.waiting = [])
    (hc : ((s.store.sec0.damage bad0).contents?.map (·.closed)) ≠ some true) :
    let read := s.readSectors bad0 bad1 bad2 bad3
    read.checkSectors.rxOpen = true ∧ read.checkSectors.identity = (s.store.sec0.damage bad0).contents?
      ∧ s.endReads bad0 bad1 bad2 bad3 = { read.checkSectors with opState := .factory, startup := .over } := by
  intro read
  obtain ⟨_, _, _, _, _, _, _, _, _, _, _, h⟩ := read.checkSectors_lockdownOnly
  have open_ : ¬ read.checkSectors.isClosed = true := by
    rw [State.isClosed_iff, h]
    exact hc
  refine ⟨by rw [h]; rfl, by rw [h]; rfl, ?_⟩
  rw [s.endReads_eq, if_neg open_]
  refine State.serveFactory_none _ ?_
  rw [h]
  exact hw

/-- The failing sectors of a STARTING part with sector 0 good (R70, R191). -/
theorem State.checkSectors_starting (s : State) (h0 : s.store.sec0.isFailing = false) (ho : s.opState = .starting) :
    s.checkSectors = { s with
      events := s.store.failing.foldl Events.sectorFails s.events
      cause := s.cause || (decide (s.store.failing ≠ []) && s.settings.store.policy == .strict) } := by
  have sectors : 0 ∉ s.store.failing := by
    unfold KeyStore.failing
    cases s.store.sec1.isFailing <;> cases s.store.sec2.isFailing <;> cases s.store.sec3.isFailing <;> decide
  rw [s.checkSectors_good0 h0, s.sectorsFail_starting _ sectors ho]

theorem KeyStore.failing_length (x : KeyStore) : x.failing.length ≤ 3 :=
  List.length_filterMap_le _ _

theorem restoredKeys_blank {x : Sector Sector2} (h : x.contents? = none) : restoredKeys x = blankKeys := by
  cases x with
  | blank => rfl
  | good c => cases h
  | failing => rfl

/-- Settles O16: sector 0 not in service, then each of sectors 1 to 3 as it is found. -/
theorem badSectorsAtStartup : Obligations.BadSectorsAtStartup := by
  refine ⟨fun s bad0 bad1 bad2 bad3 hr hw hc => ?_, fun s c0 x1 x2 x3 bad1 bad2 bad3 hr ho he hcause hw hev hs hc => ?_⟩
  · obtain ⟨rx, identity, ends⟩ := s.endReads_factory bad0 bad1 bad2 bad3 hw hc
    refine ⟨_, (s.execSectorReadsEnd_reading _ _ _ _ hr).trans (congrArg _ ends), rfl, rfl, rx, identity, fun hf hn => ?_⟩
    exact State.checkSectors_holds _ hf hn
  intro y1 y2 y3 failing
  obtain ⟨v, hv⟩ : ∃ v : State, v = s.readSectors false bad1 bad2 bad3 := ⟨_, rfl⟩
  have store : v.store = { sec0 := .good c0, sec1 := y1, sec2 := y2, sec3 := y3 } := by
    rw [hv]; simp only [State.readSectors, State.restore, hs]; rfl
  have checked := v.checkSectors_starting (by rw [store]; rfl) (by rw [hv]; exact ho)
  have fails : v.store.failing = failing := by rw [store]; rfl
  obtain ⟨u, hu⟩ : ∃ u : State, u = v.checkSectors := ⟨_, rfl⟩
  rw [← hu, fails] at checked
  have closed : u.isClosed = true := by rw [State.isClosed_iff, checked]; simp [store, Sector.contents?, hc]
  have counters : u.counters = restoredCounters y3 := by rw [checked, hv]; simp only [State.readSectors, State.restore, hs]; rfl
  have frame := u.startupRaise_frame
  have read1 : (v.settings = (y1.contents?.map (·.settings)).getD blankSettings)
      ∧ (∀ i, v.till i = { vacantTill with binding := y1.contents?.bind (fun c => c.bindings[i]) })
      ∧ v.mgmt.last = (y1.contents?.map (·.lastNumber)).getD 0 := by
    refine ⟨?_, fun i => ?_, ?_⟩
    · rw [hv]; simp only [State.readSectors, State.restore, hs]; rfl
    · rw [hv, State.readSectors, State.till_restore]; simp only [hs]; rfl
    · rw [hv]; simp only [State.readSectors, State.restore, hs]; rfl
  have read2 : v.keys = restoredKeys (if s.writer2.inFlight.isSome then .blank else y2) := by
    rw [hv]; simp only [State.readSectors, State.restore, hs]; rfl
  have blank2 : y2.contents? = none → u.startupRaise.keys = blankKeys := fun h2 => by
    rw [congrArg State.keys frame, checked]
    dsimp only
    rw [read2]
    split
    · rfl
    · exact restoredKeys_blank h2
  have quietEvents : v.events = noEvents := by rw [hv]; exact hev
  have count0 : v.count .sectorCheckFail = 0 := by rw [State.count, quietEvents]; decide
  have length : failing.length ≤ 3 := fails ▸ v.store.failing_length
  refine ⟨_, (s.execSectorReadsEnd_reading _ _ _ _ hr).trans (congrArg _ (s.endReads_inService _ _ _ _ hw ?_)), ?_⟩
  · rw [← hv, ← hu, closed]
  rw [← hv, ← hu]
  refine ⟨(congrArg State.opState frame).trans ?_, (congrArg State.rxOpen frame).trans ?_, (congrArg State.store frame).trans ?_,
    fun h1 => ⟨(congrArg State.settings frame).trans ?_, fun i => ?_, (congrArg (·.mgmt.last) frame).trans ?_⟩,
    fun h2 k => ?_, fun h2 => ?_, fun h3 k i => ?_, fun h3 k i => ?_, ?_, (congrArg (·.events.fault) frame).trans ?_, ?_⟩
  · rw [checked, hv]; exact ho
  · rw [checked, hv]; rfl
  · rw [checked]; exact store
  · rw [checked]; exact read1.1.trans (by rw [h1]; rfl)
  · refine ((congrArg (fun x : Vector Till 128 => x[i]) (congrArg State.tills frame)).trans ?_)
    rw [checked]
    exact (read1.2.1 i).trans (by rw [h1]; rfl)
  · rw [checked]; exact read1.2.2.trans (by rw [h1]; rfl)
  · exact (congrArg (fun x : KeyTable => x.slots[k]) (blank2 h2)).trans (by simp [blankKeys])
  · exact ⟨congrArg KeyTable.fp (blank2 h2), congrArg KeyTable.fpFloor (blank2 h2)⟩
  · refine (u.ctr_startupRaise k i).trans ?_
    rw [State.ctr, counters, h3]
    simp [restoredCounters, blankCounters, restoredEntry_startupRaised]
  · refine (u.ctr_startupRaise k i).trans ?_
    rw [State.ctr, counters, h3]
    simp [restoredCounters, restoredEntry_startupRaised, Config.spent]
  · have events : u.startupRaise.events = failing.foldl Events.sectorFails v.events := (congrArg State.events frame).trans (by rw [checked])
    refine (State.count_congr (s := { v with events := failing.foldl Events.sectorFails v.events }) events _).trans ?_
    rw [count_sectorFails failing v (by omega), count0, Nat.zero_add]
  · rw [checked]
    exact fault_sectorFails_first failing v.events (by rw [quietEvents]; rfl) (by omega)
  · have settings : u.startupRaise.settings = v.settings := (congrArg State.settings frame).trans (by rw [checked])
    refine (congrArg State.cause frame).trans ?_
    rw [settings, checked]
    dsimp only
    rw [show v.cause = false by rw [hv]; exact hcause, Bool.false_or]

end Sys2Proof.Machine
end

section
/-! PROOFS. The end of start-up (R59, R139, R187, R189, R193): what tamper and the entry into LOCKDOWN leave of it; it settles O18. -/

namespace Sys2Proof.Machine

/-! ### Events of class COUNTER, which no refusal raises (R195) -/

/-- The event counter of a code, of the Fault Monitor alone (R197). -/
def Events.count (v : Events) (e : EventCode) : Nat := v.counters[e.number]?.getD 0

/-- The counts of the events of class COUNTER are the same. -/
def SameCounterEvents (s t : State) : Prop := ∀ e : EventCode, e.eventClass = some .counter → t.count e = s.count e

namespace SameCounterEvents

variable {s t u : State}

theorem refl (s : State) : SameCounterEvents s s := fun _ _ => rfl

theorem trans (h : SameCounterEvents s t) (h' : SameCounterEvents t u) : SameCounterEvents s u := fun e he => (h' e he).trans (h e he)

theorem of_events (h : t.events = s.events) : SameCounterEvents s t := fun e _ => State.count_congr h e

theorem foldl {β : Type} (f : State → β → State) (hf : ∀ a b, SameCounterEvents a (f a b)) (l : List β) (s : State) :
    SameCounterEvents s (l.foldl f s) :=
  foldl_rel SameCounterEvents refl (fun _ _ _ => trans) f hf l s

end SameCounterEvents

theorem State.localReply_sameCounterEvents (s : State) (i : TillIx) (n ref : Nat) (p : ReturnPath) (r : LocalReply) :
    SameCounterEvents s (s.localReply i n ref p r) := fun e he => by
  refine s.count_localReply i n ref p r ?_ ?_ ?_
  · rintro rfl; cases r <;> cases he
  · rintro rfl; cases he
  · rintro rfl; cases he

theorem State.replyTo_sameCounterEvents (s : State) (i : TillIx) (m : TillMsg) (x : LocalReply) : SameCounterEvents s (s.replyTo i m x) :=
  s.localReply_sameCounterEvents i m.number m.reference m.path x

theorem State.refuseQueue_sameCounterEvents (s : State) (i : TillIx) (x : LocalReply) : SameCounterEvents s (s.refuseQueue i x) :=
  have emptied : SameCounterEvents s (s.setTill i { s.till i with queue := [] }) := .of_events rfl
  emptied.trans (.foldl _ (fun t m => t.replyTo_sameCounterEvents i m x) _ _)

theorem State.refuseIfBarred_sameCounterEvents (s : State) (i : TillIx) : SameCounterEvents s (s.refuseIfBarred i) := by
  unfold State.refuseIfBarred
  split
  · exact .refl s
  · exact s.refuseQueue_sameCounterEvents i _

theorem State.drainToIdle_sameCounterEvents (s : State) : SameCounterEvents s s.drainToIdle :=
  .of_events (congrArg State.events s.drainToIdle_frame :)

theorem State.enterLockdown_sameCounterEvents (s : State) : SameCounterEvents s s.enterLockdown := by
  have locked : SameCounterEvents s { s with opState := .lockdown } := .of_events rfl
  exact ((locked.trans (.foldl _ (fun t i => .of_events (t.events_abandon i)) allCtxs _)).trans
    (.foldl _ (fun t i => t.refuseQueue_sameCounterEvents i (.unavailable .lockdown)) allTills _)).trans
    (State.drainToIdle_sameCounterEvents _)

/-! ### Who waits for the Uplink Priority Queue across an entry into LOCKDOWN (R19, R169, R192) -/

/-- The frames of the blocks that LOCKDOWN leaves alone still wait. -/
def KeepsWaiting (s t : State) : Prop := ∀ x ∈ s.waitOrder, x.1 = .monitor → x ∈ t.waitOrder

theorem State.leaveQueue_keepsWaiting (s : State) (w : Waiter) (h : w ≠ .monitor) : KeepsWaiting s (s.leaveQueue w) := fun _ hx hm =>
  List.mem_filter.2 ⟨hx, bne_iff_ne.2 (hm ▸ Ne.symm h)⟩

theorem State.abandon_keepsWaiting (s : State) (i : CtxIx) : KeepsWaiting s (s.abandon i) := by
  intro x hx hm
  rw [s.abandon_frame i]
  exact s.leaveQueue_keepsWaiting (.ctx i) nofun x hx hm

theorem State.drainToIdle_keepsWaiting (s : State) : KeepsWaiting s s.drainToIdle := by
  unfold State.drainToIdle
  split
  · exact fun _ hx _ => hx
  · exact fun _ hx _ => hx
  · exact s.leaveQueue_keepsWaiting .drain nofun

theorem State.enterLockdown_keepsWaiting (s : State) : KeepsWaiting s s.enterLockdown := by
  have through : ∀ {a b c : State}, KeepsWaiting a b → KeepsWaiting b c → KeepsWaiting a c := fun h h' x hx hm => h' x (h x hx hm) hm
  have same : ∀ {a b : State}, b.waitOrder = a.waitOrder → KeepsWaiting a b := fun h x hx _ => h ▸ hx
  have abandons : ∀ t : State, KeepsWaiting t (allCtxs.foldl State.abandon t) :=
    foldl_rel KeepsWaiting (fun _ => same rfl) (fun _ _ _ => through) _ State.abandon_keepsWaiting allCtxs
  have refuses : ∀ t : State, KeepsWaiting t (allTills.foldl (fun s i => s.refuseQueue i (.unavailable .lockdown)) t) := fun t =>
    same (congrArg State.waitOrder (refuseQueues_repliesOnly allTills (.unavailable .lockdown) t).eq :)
  have locked : KeepsWaiting s { s with opState := .lockdown } := same rfl
  exact through (through (through locked (abandons _)) (refuses _)) (State.drainToIdle_keepsWaiting _)

/-! ### COUNTER-LOW repeated (R59) -/

/-- A till whose current counter entry is past the line of COUNTER-LOW and not spent (R59). -/
def State.pastLow (s : State) (i : TillIx) : Bool :=
  (s.till i).binding.any (fun b => decide (1044480 ≤ (s.ctr b.slot i).c ∧ (s.ctr b.slot i).c < 1048576))

/-- COUNTER-LOW for one till. -/
def State.repeatLow (s : State) (i : TillIx) : State :=
  match (s.till i).binding with
  | none => s
  | some b =>
    if Config.counterLowMark ≤ (s.ctr b.slot i).c ∧ (s.ctr b.slot i).c < Config.spent then
      s.raise .counterLow (till := some i) (slot := some b.slot)
    else s

theorem State.repeatCounterLow_eq (s : State) : s.repeatCounterLow = allTills.foldl State.repeatLow s := rfl

theorem State.repeatLow_raises (s : State) (i : TillIx) (h : s.pastLow i = true) : ∃ k, s.repeatLow i = s.raise .counterLow (some i) k := by
  unfold State.pastLow at h
  unfold State.repeatLow
  split
  · rename_i hb
    rw [hb] at h
    cases h
  · rename_i b hb
    rw [hb, Option.any_some, decide_eq_true_eq] at h
    exact ⟨some b.slot, if_pos h⟩

theorem State.repeatLow_rests (s : State) (i : TillIx) (h : s.pastLow i = false) : s.repeatLow i = s := by
  unfold State.pastLow at h
  unfold State.repeatLow
  split
  · rfl
  · rename_i b hb
    rw [hb, Option.any_some, decide_eq_false_iff_not] at h
    exact if_neg h

/-- The repeat changes events alone, and no other count than that of COUNTER-LOW. -/
theorem repeatLows_frame (l : List TillIx) (s : State) :
    ∃ v, l.foldl State.repeatLow s = { s with events := v } ∧ ∀ e, e ≠ .counterLow → v.count e = s.count e := by
  induction l generalizing s with
  | nil => exact ⟨_, rfl, fun _ _ => rfl⟩
  | cons i l ih =>
    rw [List.foldl_cons]
    by_cases hi : s.pastLow i = true
    · obtain ⟨k, raised⟩ := s.repeatLow_raises i hi
      obtain ⟨v, frame, others⟩ := ih (s.raise .counterLow (some i) k)
      rw [raised]
      exact ⟨v, frame, fun e he => (others e he).trans (s.count_raise_ne _ _ _ he)⟩
    · rw [s.repeatLow_rests i (by simpa using hi)]
      exact ih s

/-- The repeat counts each till past the line once. -/
theorem count_repeatLows (l : List TillIx) (s : State) (h : s.count .counterLow ≤ 65535) :
    (l.foldl State.repeatLow s).count .counterLow = min (s.count .counterLow + (l.filter s.pastLow).length) 65535 := by
  induction l generalizing s with
  | nil => simpa using h
  | cons i l ih =>
    rw [List.foldl_cons, List.filter_cons]
    by_cases hi : s.pastLow i = true
    · obtain ⟨k, raised⟩ := s.repeatLow_raises i hi
      have count : (s.raise .counterLow (some i) k).count .counterLow = min (s.count .counterLow + 1) 65535 := s.count_raise_self ..
      have past : (s.raise .counterLow (some i) k).pastLow = s.pastLow := rfl
      rw [raised, if_pos hi, List.length_cons, ih _ (by rw [count]; exact Nat.min_le_right _ _), count, past]
      omega
    · rw [s.repeatLow_rests i (by simpa using hi), if_neg hi]
      exact ih s h

/-! ### Tamper before the part serves (R189, R193) -/

theorem foldl_lostToTamper (l : List OutEntry) (s : State) :
    ∃ v, l.foldl (fun s e => s.raise .lostToTamper (till := some e.till)) s = { s with events := v }
      ∧ ∀ e, e ≠ .lostToTamper → v.count e = s.count e := by
  induction l generalizing s with
  | nil => exact ⟨_, rfl, fun _ _ => rfl⟩
  | cons x l ih =>
    obtain ⟨v, frame, counts⟩ := ih (s.raise .lostToTamper (till := some x.till))
    exact ⟨v, frame, fun e he => (counts e he).trans (s.count_raise_ne _ _ _ he)⟩

/-- The state once the keys are zeroised and the erase of sector 2 has begun, before the Outstanding List is reported lost (R193). -/
def State.zeroised (s : State) : State :=
  { s.raise .tamper with
    keys := { slots := Vector.ofFn (fun k : SlotIx => s.zeroisedSlot k), fp := none, fpFloor := 0 }
    ctxs := s.ctxs.map Ctx.withoutKeys
    writer2 :=
      { inFlight := some { contents := none, additions := [], zeroise := true, thenErase3 := false, void := false }, waiting := []
        wanted := false, eraseWanted := false }
    mgmt := { s.mgmt with jobs := s.mgmt.jobs.map (fun j => { j with s2 := .no }) }
    outstanding := [] }

/-- What the operating state does about tamper (R187, R193). -/
def State.afterTamper (s : State) : State :=
  match s.opState with
  | .serving => s.enterLockdown
  | .starting => { s with cause := true }
  | .factory => s
  | .lockdown => s

theorem State.afterTamper_starting (s : State) (h : s.opState = .starting) : s.afterTamper = { s with cause := true } := by
  simp only [State.afterTamper, h]

theorem State.events_zeroised (s : State) : s.zeroised.events = s.events.after .tamper none none none := rfl

theorem State.tamper_eq (s : State) : s.tamper =
    (s.outstanding.foldl (fun s e => s.raise .lostToTamper (till := some e.till)) s.zeroised).afterTamper := rfl

/-- Tamper taken by a STARTING part: TAMPER counted, the keys zeroised, and the lockdown cause set (R193). -/
theorem State.tamper_starting (s : State) (h : s.opState = .starting) :
    ∃ v, s.tamper = { s.zeroised with events := v, cause := true }
      ∧ v.count .tamper = min (s.count .tamper + 1) 65535 ∧ v.count .counterLow = s.count .counterLow := by
  obtain ⟨v, frame, counts⟩ := foldl_lostToTamper s.outstanding s.zeroised
  have raised : ∀ e, s.zeroised.count e = (s.raise .tamper).count e := fun e => by rw [State.count, s.events_zeroised]; rfl
  refine ⟨v, ?_, ?_, ?_⟩
  · rw [s.tamper_eq, frame]
    exact State.afterTamper_starting _ h
  · rw [counts _ (by decide), raised]
    exact s.count_raise_self ..
  · rw [counts _ (by decide), raised]
    exact s.count_raise_ne _ _ _ (by decide)

/-! ### The end of start-up, stage by stage (R189) -/

/-- An asserted tamper input is taken. -/
def State.takeTamper (s : State) : State := if s.tamperIn then s.tamper else s

/-- The part enters LOCKDOWN or SERVING. -/
def State.enterService (s : State) : State :=
  let s := { s with startup := .over }
  if s.cause then s.enterLockdown else { s with opState := .serving }

/-- The Link Monitor is given the first report. -/
def State.firstReport (s : State) : State := { s with link := { s.link with physicalUp := s.uplink.linkUp } }

theorem State.count_firstReport (s : State) (e : EventCode) : s.firstReport.count e = s.count e := rfl

theorem State.endStartup_eq (s : State) : s.endStartup = s.repeatCounterLow.firstReport.probeTick.takeTamper.enterService := by
  unfold State.endStartup
  extract_lets low link probed taken ended
  have probed_eq : probed = low.firstReport.probeTick := rfl
  have taken_eq : taken = probed.takeTamper := rfl
  have last : (if ended.cause then ended.enterLockdown else { ended with opState := .serving }) = taken.enterService := rfl
  rw [last, taken_eq, probed_eq]

/-- What the probe tick of a part that neither serves nor is reset can change. -/
theorem State.probeTick_frame (s : State) :
    ∃ l i w u v, s.probeTick = { s with link := l, ipId := i, waitOrder := w, uplink := u, events := v }
      ∧ ∀ e, e ≠ .linkDiscard → v.count e = s.count e := by
  by_cases h : s.link.inHand.isSome = true ∨ s.settings.store.probeGw.ip = 0
  · rw [s.probeTick_idle h]
    exact ⟨_, _, _, _, _, rfl, fun _ _ => rfl⟩
  · rw [not_or, Option.not_isSome_iff_eq_none] at h
    rw [s.probeTick_offers h.1 h.2]
    rcases s.probing.offerUplink_cases .monitor s.probeFrame rfl with waits | ⟨up, ev, counts, placed⟩
    · rw [waits]
      exact ⟨_, _, _, _, _, rfl, fun _ _ => rfl⟩
    · rw [placed, State.placed_monitor _ ((s.link.probeCount + 1) % 4294967296) rfl]
      exact ⟨_, _, _, _, _, rfl, counts⟩

/-- An asserted input taken while STARTING leaves the link, the port and who waits, and counts TAMPER. -/
theorem State.takeTamper_starting (s : State) (h : s.opState = .starting) :
    let t := s.takeTamper
    t.link = s.link ∧ t.uplink = s.uplink ∧ t.waitOrder = s.waitOrder ∧ t.cause = (s.cause || s.tamperIn)
      ∧ t.count .counterLow = s.count .counterLow
      ∧ (s.tamperIn = true → t.count .tamper = min (s.count .tamper + 1) 65535 ∧ ∀ k, t.slot k = s.zeroisedSlot k) := by
  intro t
  by_cases ht : s.tamperIn = true
  · obtain ⟨v, frame, tamper, low⟩ := s.tamper_starting h
    have taken : t = _ := (if_pos ht).trans frame
    rw [taken, ht, Bool.or_true]
    exact ⟨rfl, rfl, rfl, rfl, low, fun _ => ⟨tamper, fun k => by simp [State.slot, State.zeroised]⟩⟩
  · have taken : t = s := if_neg ht
    rw [taken, show s.tamperIn = false by simpa using ht, Bool.or_false]
    exact ⟨rfl, rfl, rfl, rfl, rfl, nofun⟩

/-- The entry into service leaves the link, the port, the keys and the frames in hand that LOCKDOWN leaves. -/
theorem State.enterService_spec (s : State) :
    let t := s.enterService
    t.link = s.link ∧ t.uplink = s.uplink ∧ t.keys = s.keys ∧ t.startup = .over ∧ t.opState = (if s.cause then .lockdown else .serving)
      ∧ KeepsWaiting s t ∧ t.count .counterLow = s.count .counterLow ∧ t.count .tamper = s.count .tamper := by
  intro t
  obtain ⟨ended, he⟩ : ∃ ended : State, ended = { s with startup := .over } := ⟨_, rfl⟩
  by_cases hc : s.cause = true
  · have entered : t = ended.enterLockdown := he ▸ if_pos hc
    obtain ⟨_, _, _, _, _, _, _, _, _, _, _, frame⟩ := ended.enterLockdown_lockdownOnly
    have counter := ended.enterLockdown_sameCounterEvents .counterLow rfl
    have tamper := ended.enterLockdown_sameFaults.2 .tamper (.inr rfl)
    have waiting := ended.enterLockdown_keepsWaiting
    have state := ended.enterLockdown_spec.1
    rw [← entered] at frame counter tamper waiting state
    rw [if_pos hc]
    refine ⟨by rw [frame, he], by rw [frame, he], by rw [frame, he], by rw [frame, he], state, ?_, ?_, ?_⟩
    · rw [he] at waiting; exact waiting
    · rw [he] at counter; exact counter
    · rw [he] at tamper; exact tamper
  · have entered : t = { s with startup := .over, opState := .serving } := if_neg hc
    rw [entered, if_neg hc]
    exact ⟨rfl, rfl, rfl, rfl, rfl, fun _ hx _ => hx, rfl, rfl⟩

/-- A frame that is not the response to RESET takes its place in the Uplink Priority Queue while the link is up, and is discarded there otherwise
(R20). -/
theorem State.uplink_placePriority (s : State) (f : TxFrame) (hf : f.isReset = false) :
    ∃ v, s.placePriority .uplink f = { s with
      events := v
      uplink := { s.uplink with priority := if s.uplink.linkUp then s.uplink.priority ++ [f] else s.uplink.priority } } := by
  by_cases h : s.uplink.linkUp = true
  · rw [s.placePriority_uplink_up f h, if_pos h]
    exact ⟨_, rfl⟩
  · have down : ¬ (s.port .uplink).linkUp = true := h
    have discarded : s.placePriority .uplink f = s.raise .linkDiscard := by
      rw [State.placePriority, if_neg down, State.discardFrame, hf]
      rfl
    rw [discarded, if_neg h]
    exact ⟨_, rfl⟩

/-- What every probe tick does to the Link Monitor (R139). -/
theorem State.probeTick_link (s : State) :
    s.probeTick.link.physicalUp = s.link.physicalUp ∧ s.probeTick.link.state = s.link.state
      ∧ s.probeTick.link.probeTimer = some (s.now + 1000 * s.settings.link.interval)
      ∧ s.probeTick.link.probeCount =
          if s.link.inHand = none ∧ s.settings.store.probeGw.ip ≠ 0 then (s.link.probeCount + 1) % 4294967296 else s.link.probeCount := by
  by_cases h : s.link.inHand = none ∧ s.settings.store.probeGw.ip ≠ 0
  · rw [if_pos h, s.probeTick_offers h.1 h.2]
    rcases s.probing.offerUplink_cases .monitor s.probeFrame rfl with waits | ⟨up, ev, -, placed⟩
    · rw [waits]
      exact ⟨rfl, rfl, rfl, rfl⟩
    · rw [placed, State.placed_monitor _ ((s.link.probeCount + 1) % 4294967296) rfl]
      exact ⟨rfl, rfl, rfl, rfl⟩
  · have idle : s.link.inHand.isSome = true ∨ s.settings.store.probeGw.ip = 0 :=
      (not_and_or.1 h).imp Option.isSome_iff_ne_none.2 not_not.1
    rw [if_neg h, s.probeTick_idle idle]
    exact ⟨rfl, rfl, rfl, rfl⟩

/-- The probe of a tick that finds the queue with room and nobody waiting (R139). -/
theorem State.probeTick_placed (s : State) (h : s.link.inHand = none) (hg : s.settings.store.probeGw.ip ≠ 0) (hw : s.waitOrder = [])
    (room : s.uplink.priority.length < 32) :
    let n := (s.link.probeCount + 1) % 4294967296
    s.probeTick.link = { s.link with
        probeTimer := some (s.now + 1000 * s.settings.link.interval), probeCount := n, inHand := none
        awaited := s.link.awaited ++ [(n, s.now + 2000)] }
      ∧ s.probeTick.uplink = { s.uplink with
          priority := if s.uplink.linkUp then s.uplink.priority ++ [s.probeFrame] else s.uplink.priority } := by
  intro n
  have offered : s.probing.offerUplink .monitor s.probeFrame = (s.probing.placePriority .uplink s.probeFrame).placed .monitor :=
    if_pos (by simpa [State.probing, hw, Config.priorityDepth] using room)
  obtain ⟨v, placed⟩ := s.probing.uplink_placePriority s.probeFrame rfl
  rw [s.probeTick_offers h hg, offered, placed, State.placed_monitor _ n rfl]
  exact ⟨rfl, rfl⟩

/-- Settles O18: the stages of the end of start-up, from the last back to the first. -/
theorem startupEndEntersServingOrLockdown : Obligations.StartupEndEntersServingOrLockdown := by
  intro s hs ho he g n sends frame
  obtain ⟨low, hlow⟩ : ∃ low : State, low = s.repeatCounterLow.firstReport := ⟨_, rfl⟩
  obtain ⟨probed, hprobed⟩ : ∃ probed : State, probed = low.probeTick := ⟨_, rfl⟩
  obtain ⟨taken, htaken⟩ : ∃ taken : State, taken = probed.takeTamper := ⟨_, rfl⟩
  have ends : s.endStartup = taken.enterService := by rw [s.endStartup_eq, htaken, hprobed, hlow]
  have runs : exec .startupEnd s = .next s.endStartup.settle := by
    simp only [exec, execStartupEnd, hs, he, Bool.not_false, and_self, if_true]
  obtain ⟨v, repeated, othersLow⟩ := repeatLows_frame allTills s
  have lowState : low = { s with events := v, link := { s.link with physicalUp := s.uplink.linkUp } } := by
    rw [hlow, s.repeatCounterLow_eq, repeated]
    rfl
  obtain ⟨l, i, w, x, v', tick, othersTick⟩ := low.probeTick_frame
  rw [← hprobed] at tick
  have starting : probed.opState = .starting := by rw [tick, lowState]; exact ho
  obtain ⟨tLink, tUplink, tWait, tCause, tLow, tTamper⟩ := probed.takeTamper_starting starting
  obtain ⟨eLink, eUplink, eKeys, startup, opState, waiting, eLow, eTamper⟩ := taken.enterService_spec
  rw [← htaken] at tLink tUplink tWait tCause tLow tTamper
  have link : taken.enterService.link = low.probeTick.link := (eLink.trans tLink).trans (by rw [hprobed])
  have uplink : taken.enterService.uplink = low.probeTick.uplink := (eUplink.trans tUplink).trans (by rw [hprobed])
  have cause : taken.cause = (s.cause || s.tamperIn) := tCause.trans (by rw [tick, lowState])
  obtain ⟨physical, state, timer, count⟩ := low.probeTick_link
  rw [← link] at physical state timer count
  have gateway : low.settings = s.settings := by rw [lowState]
  have inHand : low.link.inHand = s.link.inHand := by rw [lowState]
  have low32 : n = (low.link.probeCount + 1) % 4294967296 := by rw [lowState]
  have probe : low.probeFrame = frame := by rw [lowState]; rfl
  have below : taken.enterService.count .counterLow = low.count .counterLow := by
    rw [eLow, tLow, tick]; exact othersTick _ (by decide)
  refine ⟨taken.enterService, by rw [runs, ends], startup, by rw [opState, cause], ?_, ?_, ?_, ?_, fun hn => ?_, fun hy hw room => ?_,
    fun hy hw => ?_, fun hc => ?_, fun ht => ?_⟩
  · rw [physical, lowState]
  · rw [state, lowState]
  · rw [timer, lowState]
  · rw [count, lowState]
  · have idle : low.link.inHand.isSome = true ∨ low.settings.store.probeGw.ip = 0 := by
      rw [inHand, gateway]
      exact (not_and_or.1 hn).imp Option.isSome_iff_ne_none.2 not_not.1
    rw [link, uplink, low.probeTick_idle idle, lowState]
    exact ⟨rfl, rfl, rfl⟩
  · obtain ⟨linkAfter, uplinkAfter⟩ := low.probeTick_placed (inHand.trans hy.1) (by rw [gateway]; exact hy.2) (by rw [lowState]; exact hw)
      (by rw [lowState]; exact room)
    rw [link, uplink, linkAfter, uplinkAfter, probe, lowState]
    exact ⟨rfl, rfl, rfl⟩
  · have offered : low.probeTick = { low.probing with waitOrder := low.probing.waitOrder ++ [(.monitor, low.probeFrame)] } := by
      rw [low.probeTick_offers (inHand.trans hy.1) (by rw [gateway]; exact hy.2), low.probing.offerUplink_waits]
      rw [lowState]; exact hw
    refine ⟨?_, ?_, waiting _ ?_ rfl, ?_⟩
    · rw [link, offered, low32]; rfl
    · rw [link, offered, lowState]; rfl
    · rw [tWait, hprobed, offered, probe]
      exact List.mem_append_right _ (List.mem_singleton.2 rfl)
    · rw [uplink, offered, lowState]; rfl
  · have counted : s.repeatCounterLow.count .counterLow = low.count .counterLow := by rw [hlow, State.count_firstReport]
    rw [below, ← counted, s.repeatCounterLow_eq, count_repeatLows allTills s hc]
    rfl
  · have asserted : probed.tamperIn = true := by rw [tick, lowState]; exact ht
    obtain ⟨counted, keys⟩ := tTamper asserted
    refine ⟨?_, fun k => ?_⟩
    · rw [eTamper, counted]
      have same : probed.count .tamper = s.count .tamper := by
        rw [tick]
        refine (othersTick _ (by decide)).trans ?_
        rw [lowState]
        exact (congrArg (Events.count · .tamper) rfl).trans (othersLow _ (by decide))
      rw [same]
    · have slot : taken.enterService.slot k = probed.zeroisedSlot k := by rw [← keys k]; simp only [State.slot, eKeys]
      rw [slot]
      exact ⟨rfl, rfl, rfl, rfl, rfl⟩

end Sys2Proof.Machine
end

section
/-! PROOFS. The end of a sector 3 write (R52, R53, R60): what a completed one records, what a failed one marks, and what follows both; it settles
O46. -/

namespace Sys2Proof.Machine

/-! ### Folds that change one thing -/

section

variable {β V : Type} (f : State → β → State) (view : State → V) (hits : β → Prop) (g : V → V)

/-- A fold of turns that leave what is looked at leaves it. -/
theorem foldl_miss (miss : ∀ s b, ¬ hits b → view (f s b) = view s) (l : List β) (s : State) (h : ∀ b ∈ l, ¬ hits b) :
    view (l.foldl f s) = view s := by
  induction l generalizing s with
  | nil => rfl
  | cons b l ih => exact (ih _ fun x hx => h x (List.mem_cons_of_mem _ hx)).trans (miss s b (h b List.mem_cons_self))

/-- A fold of turns of which some make an idempotent change to what is looked at, and the rest leave it, makes the change once. -/
theorem foldl_hit (once : ∀ v, g (g v) = g v) (miss : ∀ s b, ¬ hits b → view (f s b) = view s)
    (hit : ∀ s b, hits b → view (f s b) = g (view s)) (l : List β) (s : State) (h : ∃ b ∈ l, hits b) :
    view (l.foldl f s) = g (view s) := by
  induction l generalizing s with
  | nil => exact absurd h (by simp)
  | cons b l ih =>
    rw [List.foldl_cons]
    by_cases rest : ∃ x ∈ l, hits x
    · rw [ih _ rest]
      by_cases hb : hits b
      · rw [hit s b hb, once]
      · rw [miss s b hb]
    · have hb : hits b := by
        obtain ⟨x, hx, hits⟩ := h
        rcases List.mem_cons.1 hx with rfl | hx
        · exact hits
        · exact absurd ⟨x, hx, hits⟩ rest
      rw [foldl_miss f view hits miss l _ fun x hx hits => rest ⟨x, hx, hits⟩, hit s b hb]

end

/-! ### Counter entries at the end of a write (R52, R53, R60) -/

/-- The entry of a raise that is completed. -/
def CounterEntry.raised (e : CounterEntry) : CounterEntry := { e with k := e.raise.getD e.k, raise := none, failed := false }

/-- The entry of a raise that failed. -/
def CounterEntry.missed (e : CounterEntry) : CounterEntry := { e with raise := none, failed := true }

/-- The entry of a failed activation's column, its raise still pending or not. -/
def CounterEntry.replaced (e : CounterEntry) (pending : Bool) : CounterEntry := if e.raise.isSome && !pending then e.missed else e

/-- One column of the Counter Table put in place of a slot's. -/
def State.setColumn (s : State) (k : SlotIx) (column : Vector CounterEntry 128) : State :=
  { s with counters := { s.counters with entries := s.counters.entries.set k column } }

theorem State.ctr_setColumn (s : State) (k l : SlotIx) (i : TillIx) (column : Vector CounterEntry 128) :
    (s.setColumn k column).ctr l i = if l = k then column[i] else s.ctr l i := by
  simp only [State.setColumn, State.ctr, Fin.getElem_fin, Vector.getElem_set, Fin.val_inj, eq_comm (a := k)]
  split <;> rfl

/-- The column a failed activation leaves. -/
def State.failedColumn (s : State) (k : SlotIx) : Vector CounterEntry 128 :=
  Vector.ofFn (fun i : TillIx => (s.ctr k i).replaced (s.counters.pending.contains (k, i)))

section

variable (l : List (SlotIx × TillIx)) (s : State) (k : SlotIx) (i : TillIx)

theorem ctr_raisesDone (h : (k, i) ∈ l) : (l.foldl State.raiseDone s).ctr k i = (s.ctr k i).raised :=
  foldl_hit State.raiseDone (·.ctr k i) (· = (k, i)) CounterEntry.raised (fun _ => rfl)
    (fun t _ hp => t.ctr_setCtr_ne _ (Ne.symm hp)) (fun t _ hp => by subst hp; exact t.ctr_setCtr_self ..) l s ⟨_, h, rfl⟩

theorem ctr_raisesDone_other (h : (k, i) ∉ l) : (l.foldl State.raiseDone s).ctr k i = s.ctr k i :=
  foldl_miss State.raiseDone (·.ctr k i) (· = (k, i)) (fun t _ hp => t.ctr_setCtr_ne _ (Ne.symm hp)) l s fun _ hp e => h (e ▸ hp)

theorem ctr_raisesFailed (h : (k, i) ∈ l) : (l.foldl State.raiseFailed s).ctr k i = (s.ctr k i).missed :=
  foldl_hit State.raiseFailed (·.ctr k i) (· = (k, i)) CounterEntry.missed (fun _ => rfl)
    (fun t _ hp => t.ctr_setCtr_ne _ (Ne.symm hp)) (fun t _ hp => by subst hp; exact t.ctr_setCtr_self ..) l s ⟨_, h, rfl⟩

theorem ctr_raisesFailed_other (h : (k, i) ∉ l) : (l.foldl State.raiseFailed s).ctr k i = s.ctr k i :=
  foldl_miss State.raiseFailed (·.ctr k i) (· = (k, i)) (fun t _ hp => t.ctr_setCtr_ne _ (Ne.symm hp)) l s fun _ hp e => h (e ▸ hp)

end

/-! ### The activations of a write (R60, R76) -/

theorem State.ctr_activationDone (s : State) (k l : SlotIx) (i : TillIx) :
    (s.activationDone k).ctr l i = if l = k then freshEntry else s.ctr l i := by
  have column : (s.activationDone k).ctr l i = ((s.endPending k).setColumn k (Vector.replicate 128 freshEntry)).ctr l i := rfl
  rw [column, State.ctr_setColumn, Fin.getElem_fin, Vector.getElem_replicate]
  rfl

theorem State.slot_activationDone (s : State) (k l : SlotIx) :
    (s.activationDone k).slot l = if l = k then { s.slot k with busy := false } else s.slot l :=
  State.slot_setSlot ((s.endPending k).setColumn k (Vector.replicate 128 freshEntry)) k l _

theorem State.ctr_activationFailed (s : State) (k l : SlotIx) (i : TillIx) :
    (s.activationFailed k).ctr l i = if l = k then (s.ctr k i).replaced (s.counters.pending.contains (k, i)) else s.ctr l i := by
  have column : (s.activationFailed k).ctr l i = (s.setColumn k (s.failedColumn k)).ctr l i := rfl
  rw [column, State.ctr_setColumn]
  simp only [State.failedColumn, Fin.getElem_fin, Vector.getElem_ofFn]

theorem State.slot_activationFailed (s : State) (k l : SlotIx) :
    (s.activationFailed k).slot l = if l = k then { s.slot k with busy := false } else s.slot l :=
  State.slot_setSlot (s.setColumn k (s.failedColumn k)) k l _

theorem CounterEntry.replaced_twice (e : CounterEntry) (pending : Bool) : (e.replaced pending).replaced pending = e.replaced pending := by
  unfold CounterEntry.replaced
  by_cases h : (e.raise.isSome && !pending) = true
  · rw [if_pos h]
    exact if_neg nofun
  · rw [if_neg h, if_neg h]

section

variable (l : List SlotIx) (s : State) (k : SlotIx) (i : TillIx)

theorem ctr_activationsDone (h : k ∈ l) : (l.foldl State.activationDone s).ctr k i = freshEntry :=
  foldl_hit State.activationDone (·.ctr k i) (k = ·) (fun _ => freshEntry) (fun _ => rfl)
    (fun t a ha => (t.ctr_activationDone a k i).trans (if_neg ha)) (fun t a ha => (t.ctr_activationDone a k i).trans (if_pos ha)) l s
    ⟨k, h, rfl⟩

theorem ctr_activationsDone_other (h : k ∉ l) : (l.foldl State.activationDone s).ctr k i = s.ctr k i :=
  foldl_miss State.activationDone (·.ctr k i) (k = ·) (fun t a ha => (t.ctr_activationDone a k i).trans (if_neg ha)) l s
    fun _ hx e => h (e ▸ hx)

theorem slot_activationsDone (h : k ∈ l) : (l.foldl State.activationDone s).slot k = { s.slot k with busy := false } :=
  foldl_hit State.activationDone (·.slot k) (k = ·) (fun x => { x with busy := false }) (fun _ => rfl)
    (fun t a ha => (t.slot_activationDone a k).trans (if_neg ha))
    (fun t a ha => by subst ha; exact (t.slot_activationDone k k).trans (if_pos rfl)) l s ⟨k, h, rfl⟩

theorem slot_activationsDone_other (h : k ∉ l) : (l.foldl State.activationDone s).slot k = s.slot k :=
  foldl_miss State.activationDone (·.slot k) (k = ·) (fun t a ha => (t.slot_activationDone a k).trans (if_neg ha)) l s
    fun _ hx e => h (e ▸ hx)

theorem ctr_activationsFailed (h : k ∈ l) :
    (l.foldl State.activationFailed s).ctr k i = (s.ctr k i).replaced (s.counters.pending.contains (k, i)) := by
  have both := foldl_hit State.activationFailed (fun t => (t.ctr k i, t.counters.pending.contains (k, i))) (k = ·)
    (fun v => (v.1.replaced v.2, v.2)) (fun v => Prod.ext (v.1.replaced_twice v.2) rfl)
    (fun t a ha => Prod.ext ((t.ctr_activationFailed a k i).trans (if_neg ha)) rfl)
    (fun t a ha => by subst ha; exact Prod.ext ((t.ctr_activationFailed k k i).trans (if_pos rfl)) rfl) l s ⟨k, h, rfl⟩
  exact congrArg Prod.fst both

theorem ctr_activationsFailed_other (h : k ∉ l) : (l.foldl State.activationFailed s).ctr k i = s.ctr k i :=
  foldl_miss State.activationFailed (·.ctr k i) (k = ·) (fun t a ha => (t.ctr_activationFailed a k i).trans (if_neg ha)) l s
    fun _ hx e => h (e ▸ hx)

theorem slot_activationsFailed (h : k ∈ l) : (l.foldl State.activationFailed s).slot k = { s.slot k with busy := false } :=
  foldl_hit State.activationFailed (·.slot k) (k = ·) (fun x => { x with busy := false }) (fun _ => rfl)
    (fun t a ha => (t.slot_activationFailed a k).trans (if_neg ha))
    (fun t a ha => by subst ha; exact (t.slot_activationFailed k k).trans (if_pos rfl)) l s ⟨k, h, rfl⟩

end

/-! ### What follows the end of a write (R51, R68, R189) -/

/-- Some unanswered command, counted from the first, waits for no sector 3 write. -/
def State.jobFree (s : State) (n : Nat) : Prop := ∃ j, s.mgmt.jobs[n]? = some j ∧ j.s3 = .no

/-- A change of the jobs that asks for no sector 3 write. -/
theorem State.jobFree.map {s t : State} {n : Nat} (h : s.jobFree n) (f : Job → Job) (jobs : t.mgmt.jobs = s.mgmt.jobs.map f)
    (hf : ∀ j, j.s3 = .no → (f j).s3 = .no) : t.jobFree n := by
  obtain ⟨j, found, free⟩ := h
  exact ⟨f j, by rw [jobs, List.getElem?_map, found]; rfl, hf j free⟩

theorem Job.begun3_free (j : Job) (h : j.s3 = .no) : j.begun3.s3 = .no := by rw [Job.begun3, h]; rfl

theorem Job.unqueued3_free (j : Job) (h : j.s3 = .no) : j.unqueued3.s3 = .no := by rw [Job.unqueued3, h]; exact h

theorem State.kick3_jobFree (s : State) {n : Nat} (h : s.jobFree n) : s.kick3.jobFree n := by
  by_cases busy : s.counters.inFlight.isSome = true ∨ s.erasing = true
  · rwa [s.kick3_busy busy]
  · rw [not_or, Option.not_isSome_iff_eq_none, Bool.not_eq_true] at busy
    rw [s.kick3_free busy.1 busy.2]
    split
    · exact h.map _ rfl Job.unqueued3_free
    · exact h.map _ rfl Job.begun3_free

/-- What a job becomes when the sector 3 write that carries it ends. -/
def Job.ended3 (j : Job) : Job := { j with s3 := j.s3.ended }

/-- The state with no sector 3 write in flight, before the next begins. -/
def State.freed3 (s : State) : State :=
  { s with counters := { s.counters with inFlight := none }, mgmt := { s.mgmt with jobs := s.mgmt.jobs.map Job.ended3 } }

theorem State.end3_eq (s : State) : s.end3 = s.freed3.kick3 := rfl

theorem State.endRaise_frame (s : State) : s.endRaise = { s with startup := s.endRaise.startup } := by
  unfold State.endRaise
  split <;> rfl

/-- What follows the end of a sector 3 write (R51, R189). -/
def State.ended3 (s : State) : State := s.endRaise.end3

/-- Whether a sector 3 write begins has nothing to do with start-up. -/
theorem State.kick3_startup (s : State) (x : Startup) : ({ s with startup := x } : State).kick3 = { s.kick3 with startup := x } := by
  by_cases busy : s.counters.inFlight.isSome = true ∨ s.erasing = true
  · rw [s.kick3_busy busy]
    exact State.kick3_busy _ busy
  · rw [not_or, Option.not_isSome_iff_eq_none, Bool.not_eq_true] at busy
    rw [s.kick3_free busy.1 busy.2]
    refine (State.kick3_free { s with startup := x } busy.1 busy.2).trans ?_
    by_cases quiet : s.counters.quiet = true
    · rw [if_pos quiet, if_pos quiet]
      rfl
    · rw [if_neg quiet, if_neg quiet]
      rfl

theorem State.ended3_eq (s : State) : s.ended3 = { s.freed3.kick3 with startup := s.endRaise.startup } := by
  rw [State.ended3, State.end3_eq, s.endRaise_frame]
  exact s.freed3.kick3_startup _

/-- The end of a sector 3 write changes nothing else than start-up, the Counter Table and the unanswered commands. -/
theorem State.ended3_frame (s : State) : s.ended3 = { s with
    startup := s.ended3.startup, counters := s.ended3.counters, mgmt := { s.mgmt with jobs := s.ended3.mgmt.jobs } } := by
  rw [s.ended3_eq, s.freed3.kick3_jobs]
  rfl

theorem State.entries_ended3 (s : State) : s.ended3.counters.entries = s.counters.entries := by
  rw [s.ended3_eq]
  exact s.freed3.entries_kick3

theorem State.ctr_ended3 (s : State) (k : SlotIx) (i : TillIx) : s.ended3.ctr k i = s.ctr k i := by
  rw [State.ctr, s.entries_ended3, State.ctr]

/-- Of the requests of sector 3, none is new at the end of a write. -/
theorem State.kick3_pending (s : State) (hf : s.counters.inFlight = none) (p : SlotIx × TillIx) (h : p ∉ s.counters.pending) :
    p ∉ s.kick3.counters.pending ∧ ∀ x, s.kick3.counters.inFlight = some x → p ∉ x.raises := by
  by_cases he : s.erasing = true
  · rw [s.kick3_busy (.inr he), hf]
    exact ⟨h, nofun⟩
  · rw [s.kick3_free hf (by simpa using he)]
    split
    · exact ⟨h, fun x hx => by rw [State.mapJobs, hf] at hx; cases hx⟩
    · refine ⟨List.not_mem_nil, fun x hx => ?_⟩
      obtain rfl : s.nextWrite3 = x := Option.some.inj hx
      intro hp
      unfold State.nextWrite3 at hp
      dsimp only at hp
      split at hp
      · cases hp
      · exact h (List.mem_filter.1 hp).1

/-! ### A sector 3 write that completes (R52, R60, R76) -/

/-- The state once a completed write's raises and activations have taken effect. -/
def State.recorded3 (s : State) (w : Write3) : State :=
  w.activations.foldl State.activationDone (w.raises.foldl State.raiseDone { s with store := { s.store with sec3 := .good w.contents } })

theorem State.completeWrite3_eq (s : State) (w : Write3) (he : w.erase = false) (hv : w.void = false) :
    s.completeWrite3 w = s.recorded3 w := by
  simp only [State.completeWrite3, State.recorded3, he, hv, Bool.false_eq_true, if_false, or_self]

/-- Only what a completed sector 3 write's raises and activations touch differs between two states. -/
def RecordsOnly (s t : State) : Prop :=
  ∃ counters keys events mgmt, t = { s with counters := counters, keys := keys, events := events, mgmt := mgmt }

theorem RecordsOnly.refl (s : State) : RecordsOnly s s := ⟨_, _, _, _, rfl⟩

theorem RecordsOnly.trans {s t u : State} : RecordsOnly s t → RecordsOnly t u → RecordsOnly s u := by
  rintro ⟨_, _, _, _, rfl⟩ ⟨_, _, _, _, rfl⟩; exact ⟨_, _, _, _, rfl⟩

/-- Raises that are completed change counter entries alone. -/
theorem raisesDone_frame (l : List (SlotIx × TillIx)) (s : State) :
    ∃ entries, l.foldl State.raiseDone s = { s with counters := { s.counters with entries := entries } } := by
  induction l generalizing s with
  | nil => exact ⟨_, rfl⟩
  | cons p l ih =>
    obtain ⟨entries, frame⟩ := ih (s.raiseDone p)
    exact ⟨entries, frame⟩

theorem activationsDone_recordsOnly (l : List SlotIx) (s : State) : RecordsOnly s (l.foldl State.activationDone s) :=
  foldl_rel RecordsOnly RecordsOnly.refl (fun _ _ _ => RecordsOnly.trans) _ (fun _ _ => ⟨_, _, _, _, rfl⟩) l s

theorem State.recorded3_frame (s : State) (w : Write3) :
    RecordsOnly { s with store := { s.store with sec3 := .good w.contents } } (s.recorded3 w) := by
  obtain ⟨entries, frame⟩ := raisesDone_frame w.raises { s with store := { s.store with sec3 := .good w.contents } }
  refine RecordsOnly.trans ⟨_, _, _, _, frame⟩ (activationsDone_recordsOnly _ _)

section

variable (l : List SlotIx) (s : State)

/-- Each activation is counted. -/
theorem count_activationsDone (h : s.count .keyActivated ≤ 65535) :
    (l.foldl State.activationDone s).count .keyActivated = min (s.count .keyActivated + l.length) 65535 := by
  induction l generalizing s with
  | nil => exact (Nat.min_eq_left h).symm
  | cons k l ih =>
    have counted : (s.activationDone k).count .keyActivated = min (s.count .keyActivated + 1) 65535 := State.count_raise_self ..
    rw [List.foldl_cons, ih _ (counted ▸ Nat.min_le_right _ _), counted, List.length_cons]
    omega

theorem count_activationsDone_other {e : EventCode} (h : e ≠ .keyActivated) :
    (l.foldl State.activationDone s).count e = s.count e :=
  foldl_miss State.activationDone (·.count e) (fun _ => False) (fun _ _ _ => State.count_raise_ne _ _ _ _ h) l s fun _ _ => id

/-- What an activation asks of the pending raises: none of its slot stays, none is new. -/
theorem State.pending_activationDone (s : State) (k : SlotIx) :
    (s.activationDone k).counters.pending = s.counters.pending.filter (fun p => p.1 != k) := rfl

theorem pending_activationsDone (p : SlotIx × TillIx) (h : p.1 ∈ l ∨ p ∉ s.counters.pending) :
    p ∉ (l.foldl State.activationDone s).counters.pending := by
  induction l generalizing s with
  | nil => exact h.resolve_left List.not_mem_nil
  | cons k l ih =>
    refine ih _ ?_
    rw [s.pending_activationDone, List.mem_filter, not_and_or, bne_iff_ne, not_not]
    rcases h with h | h
    · exact (List.mem_cons.1 h).elim (fun e => .inr (.inr e)) .inl
    · exact .inr (.inl h)

end

/-- What the end of a slot's pending raises makes of a command. -/
def State.lostRaise (s : State) (k : SlotIx) (j : Job) : Job :=
  if j.s3 == .queued && ((s.counters.pending.filter (fun p => p.1 == k)).map (·.2)).any (fun i => j.cmd == some (.enableTill i.val)) then
    { j with s3 := .no }
  else j

theorem State.jobs_activationDone (s : State) (k : SlotIx) : (s.activationDone k).mgmt.jobs = s.mgmt.jobs.map (s.lostRaise k) := rfl

theorem State.lostRaise_free (s : State) (k : SlotIx) (j : Job) (h : j.s3 = .no) : (s.lostRaise k j).s3 = .no := by
  unfold State.lostRaise
  split
  · rfl
  · exact h

theorem State.lostRaise_lost (s : State) (k : SlotIx) (i : TillIx) (j : Job) (hs : j.s3 = .queued) (hc : j.cmd = some (.enableTill i.val))
    (hp : (k, i) ∈ s.counters.pending) : (s.lostRaise k j).s3 = .no := by
  have mine : i ∈ (s.counters.pending.filter (fun p => p.1 == k)).map (·.2) :=
    List.mem_map.2 ⟨(k, i), List.mem_filter.2 ⟨hp, beq_self_eq_true k⟩, rfl⟩
  refine congrArg Job.s3 (if_pos ?_)
  rw [Bool.and_eq_true, List.any_eq_true]
  exact ⟨beq_iff_eq.2 hs, i, mine, beq_iff_eq.2 hc⟩

theorem activationsDone_jobFree (l : List SlotIx) (s : State) (n : Nat) (h : s.jobFree n) : (l.foldl State.activationDone s).jobFree n := by
  induction l generalizing s with
  | nil => exact h
  | cons k l ih => exact ih _ (h.map _ (s.jobs_activationDone k) (s.lostRaise_free k))

/-- An ENABLE-TILL whose retry is among the raises that end with an activation waits for nothing (log 52). -/
theorem activationsDone_retry (l : List SlotIx) (s : State) (k : SlotIx) (i : TillIx) (n : Nat) (j : Job) (hk : k ∈ l)
    (hj : s.mgmt.jobs[n]? = some j) (hc : j.cmd = some (.enableTill i.val)) (hs : j.s3 = .queued) (hp : (k, i) ∈ s.counters.pending) :
    (l.foldl State.activationDone s).jobFree n := by
  induction l generalizing s j with
  | nil => cases hk
  | cons a l ih =>
    rw [List.foldl_cons]
    have found : (s.activationDone a).mgmt.jobs[n]? = some (s.lostRaise a j) := by
      rw [s.jobs_activationDone, List.getElem?_map, hj]; rfl
    by_cases ha : k = a
    · subst ha
      exact activationsDone_jobFree l _ n ⟨_, found, s.lostRaise_lost k i j hs hc hp⟩
    · by_cases lost : (s.lostRaise a j).s3 = .no
      · exact activationsDone_jobFree l _ n ⟨_, found, lost⟩
      · have kept : s.lostRaise a j = j := by
          unfold State.lostRaise at lost ⊢
          split
          · rw [if_pos ‹_›] at lost; exact absurd rfl lost
          · rfl
        refine ih _ j ((List.mem_cons.1 hk).resolve_left ha) (kept ▸ found) hc hs ?_
        rw [s.pending_activationDone]
        exact List.mem_filter.2 ⟨hp, bne_iff_ne.2 ha⟩

/-! ### Tills that a write's marks halt (R39, R112) -/

/-- A till's entry state is its binding's and its counter entry's. -/
theorem State.entryState_congr {s t : State} {i : TillIx} (binding : (t.till i).binding = (s.till i).binding)
    (ctr : ∀ k, t.ctr k i = s.ctr k i) : t.entryState i = s.entryState i := by
  unfold State.entryState
  rw [binding]
  split
  · rfl
  · rw [ctr]

/-- The entry is HALTED: enabled, not spent, with a failure mark (R39). -/
theorem State.entryState_halted (s : State) (i : TillIx) (b : Binding) (hb : (s.till i).binding = some b) (enabled : b.enabled = true)
    (unspent : (s.ctr b.slot i).c ≠ 1048576) (failed : (s.ctr b.slot i).failed = true) : s.entryState i = .halted := by
  simp only [State.entryState, hb, entryStateOf, enabled, Bool.not_true, Bool.false_eq_true, if_false]
  rw [if_neg (show (s.ctr b.slot i).c ≠ Config.spent from unspent), if_pos failed]

theorem State.completionRefusal_halted (s : State) (i : TillIx) (h : s.entryState i = .halted) :
    s.completionRefusal i = some (.refused .counterFault) := by
  unfold State.completionRefusal
  split
  · rename_i hb
    rw [State.entryState, hb] at h
    cases h
  · simp only [h]

/-- The queue of a HALTED till refused, and that of any other left (R112). -/
def State.haltQueue (s : State) (i : TillIx) : State := if s.entryState i = .halted then s.refuseIfBarred i else s

theorem State.haltQueue_of_halted (s : State) (i : TillIx) (h : s.entryState i = .halted) :
    s.haltQueue i = s.refuseQueue i (.refused .counterFault) := by
  rw [State.haltQueue, if_pos h]
  unfold State.refuseIfBarred
  rw [s.completionRefusal_halted i h]

theorem State.haltQueue_of_other (s : State) (i : TillIx) (h : s.entryState i ≠ .halted) : s.haltQueue i = s := if_neg h

/-- What a queue halted leaves: the tills' bindings and entry states, and every queue that was empty. -/
theorem State.haltQueue_spec (s : State) (i : TillIx) :
    RepliesOnly s (s.haltQueue i) ∧ SameFaults s (s.haltQueue i)
      ∧ ∀ j, (s.haltQueue i).entryState j = s.entryState j
        ∧ (((j = i ∧ s.entryState j = .halted) ∨ (s.till j).queue = []) → ((s.haltQueue i).till j).queue = []) := by
  by_cases h : s.entryState i = .halted
  · rw [s.haltQueue_of_halted i h]
    obtain ⟨_, _, _, _, frame⟩ := s.refuseQueue_repliesOnly i (.refused .counterFault)
    refine ⟨s.refuseQueue_repliesOnly i _, s.refuseQueue_sameFaults i _, fun j => ⟨State.entryState_congr ?_ fun k => ?_, fun hj => ?_⟩⟩
    · by_cases hj : j = i
      · subst hj
        obtain ⟨_, same⟩ := s.refuseQueue_self j (.refused .counterFault)
        rw [same]
      · rw [s.refuseQueue_other _ hj]
    · rw [frame]; rfl
    · exact s.queue_refuseQueue i j _ (hj.imp And.left id)
  · rw [s.haltQueue_of_other i h]
    refine ⟨RepliesOnly.refl s, SameFaults.refl s, fun j => ⟨rfl, fun hj => hj.resolve_left ?_⟩⟩
    rintro ⟨rfl, halted⟩
    exact h halted

theorem State.refuseHalted_repliesOnly (s : State) : RepliesOnly s s.refuseHalted :=
  foldl_rel RepliesOnly RepliesOnly.refl (fun _ _ _ => RepliesOnly.trans) _ (fun t i => (t.haltQueue_spec i).1) _ _

theorem State.refuseHalted_sameFaults (s : State) : SameFaults s s.refuseHalted :=
  foldl_rel SameFaults SameFaults.refl (fun _ _ _ => SameFaults.trans) _ (fun t i => (t.haltQueue_spec i).2.1) _ _

theorem State.queue_refuseHalted (s : State) (j : TillIx) (h : s.entryState j = .halted) : (s.refuseHalted.till j).queue = [] := by
  have key : ∀ (l : List TillIx) (t : State), ((j ∈ l ∧ t.entryState j = .halted) ∨ (t.till j).queue = []) →
      ((l.foldl State.haltQueue t).till j).queue = [] := by
    intro l
    induction l with
    | nil => exact fun t h => h.resolve_left fun h => List.not_mem_nil h.1
    | cons i l ih =>
      intro t h
      obtain ⟨-, -, each⟩ := t.haltQueue_spec i
      obtain ⟨state, emptied⟩ := each j
      refine ih _ ?_
      rcases h with ⟨hj, halted⟩ | h
      · rcases List.mem_cons.1 hj with rfl | hj
        · exact .inr (emptied (.inl ⟨rfl, halted⟩))
        · exact .inl ⟨hj, state.trans halted⟩
      · exact .inr (emptied (.inr h))
  exact key allTills s (.inl ⟨mem_allTills j, h⟩)

/-! ### What CHECKPOINT-FAIL names (R53) -/

/-- A pair is no later than another in the order of slot and till. -/
def notAfter (p q : SlotIx × TillIx) : Prop := p.1 < q.1 ∨ p.1 = q.1 ∧ p.2 ≤ q.2

theorem pairBefore_iff (p q : SlotIx × TillIx) : pairBefore p q = true ↔ p.1 < q.1 ∨ p.1 = q.1 ∧ p.2 < q.2 := by
  simp [pairBefore]

/-- The search for the lowest of some pairs finds one of them that no other precedes. -/
theorem foldl_lowerPair (l : List (SlotIx × TillIx)) (q : SlotIx × TillIx) :
    ∃ r, l.foldl lowerPair (some q) = some r ∧ r ∈ q :: l ∧ ∀ p ∈ q :: l, notAfter r p := by
  have order : ∀ {p q r : SlotIx × TillIx}, notAfter p q → notAfter q r → notAfter p r := by
    intro p q r h h'
    simp only [notAfter, Fin.lt_def, Fin.le_def, Fin.ext_iff] at *
    omega
  induction l generalizing q with
  | nil => exact ⟨q, rfl, List.mem_cons_self, fun p hp => by rw [List.mem_singleton.1 hp]; exact .inr ⟨rfl, Fin.le_refl _⟩⟩
  | cons a l ih =>
    by_cases before : pairBefore a q = true
    · have step : lowerPair (some q) a = some a := if_pos before
      obtain ⟨r, found, mem, least⟩ := ih a
      refine ⟨r, by rw [List.foldl_cons, step, found], List.mem_cons_of_mem _ mem, fun p hp => ?_⟩
      rcases List.mem_cons.1 hp with rfl | hp
      · refine order (least a List.mem_cons_self) ?_
        rw [pairBefore_iff] at before
        exact before.imp id fun h => ⟨h.1, Fin.le_of_lt h.2⟩
      · exact least p hp
    · have step : lowerPair (some q) a = some q := if_neg before
      obtain ⟨r, found, mem, least⟩ := ih q
      refine ⟨r, by rw [List.foldl_cons, step, found], ?_, fun p hp => ?_⟩
      · exact (List.mem_cons.1 mem).elim (fun e => e ▸ List.mem_cons_self) fun h => List.mem_cons_of_mem _ (List.mem_cons_of_mem _ h)
      · rcases List.mem_cons.1 hp with rfl | hp
        · exact least p List.mem_cons_self
        · rcases List.mem_cons.1 hp with rfl | hp
          · refine order (least q List.mem_cons_self) ?_
            simp only [pairBefore_iff, notAfter, Fin.lt_def, Fin.le_def, Fin.ext_iff] at *
            omega
          · exact least p (List.mem_cons_of_mem _ hp)

/-- A write that carried raises names the lowest pair among them. -/
theorem Write3.named_raises (w : Write3) (h : w.raises ≠ []) :
    ∃ k i, (k, i) ∈ w.raises ∧ (∀ p ∈ w.raises, k < p.1 ∨ k = p.1 ∧ i ≤ p.2) ∧ w.named = (some k, some i) := by
  obtain ⟨q, l, hl⟩ := List.exists_cons_of_ne_nil h
  obtain ⟨r, found, mem, least⟩ := foldl_lowerPair l q
  have lowest : w.raises.foldl lowerPair none = some r := by rw [hl]; exact found
  rw [hl]
  exact ⟨r.1, r.2, mem, least, by simp only [Write3.named, lowest]⟩

/-! ### A sector 3 write that fails (R53, R60) -/

/-- The state once a failed write's raises and activations have left their marks. -/
def State.marked3 (s : State) (w : Write3) : State :=
  w.activations.foldl State.activationFailed (w.raises.foldl State.raiseFailed s)

/-- Marks touch counter entries and busy marks alone. -/
def MarksOnly (s t : State) : Prop := ∃ entries keys, t = { s with counters := { s.counters with entries := entries }, keys := keys }

theorem State.marked3_marksOnly (s : State) (w : Write3) : MarksOnly s (s.marked3 w) := by
  have refl : ∀ t, MarksOnly t t := fun _ => ⟨_, _, rfl⟩
  have trans : ∀ a b c, MarksOnly a b → MarksOnly b c → MarksOnly a c := by
    rintro _ _ _ ⟨_, _, rfl⟩ ⟨_, _, rfl⟩
    exact ⟨_, _, rfl⟩
  exact trans _ _ _ (foldl_rel MarksOnly refl trans State.raiseFailed (fun _ _ => ⟨_, _, rfl⟩) w.raises s)
    (foldl_rel MarksOnly refl trans State.activationFailed (fun _ _ => ⟨_, _, rfl⟩) w.activations _)

section

variable (s : State) (w : Write3) (apart : ∀ p ∈ w.raises, p.1 ∉ w.activations)

theorem State.ctr_marked3_raise (k : SlotIx) (i : TillIx) (h : (k, i) ∈ w.raises) : (s.marked3 w).ctr k i = (s.ctr k i).missed := by
  by_cases ha : k ∈ w.activations
  · rw [State.marked3, ctr_activationsFailed _ _ _ _ ha, ctr_raisesFailed _ _ _ _ h]
    exact if_neg nofun
  · rw [State.marked3, ctr_activationsFailed_other _ _ _ _ ha, ctr_raisesFailed _ _ _ _ h]

theorem State.ctr_marked3_other (k : SlotIx) (i : TillIx) (h : (k, i) ∉ w.raises) (ha : k ∉ w.activations) :
    (s.marked3 w).ctr k i = s.ctr k i := by
  rw [State.marked3, ctr_activationsFailed_other _ _ _ _ ha, ctr_raisesFailed_other _ _ _ _ h]

include apart in
theorem State.ctr_marked3_activation (k : SlotIx) (i : TillIx) (h : k ∈ w.activations) :
    (s.marked3 w).ctr k i = (s.ctr k i).replaced (s.counters.pending.contains (k, i)) := by
  have notRaised : (k, i) ∉ w.raises := fun hr => apart _ hr h
  have pending : (w.raises.foldl State.raiseFailed s).counters.pending = s.counters.pending :=
    foldl_miss State.raiseFailed (·.counters.pending) (fun _ => False) (fun _ _ _ => rfl) _ s fun _ _ => id
  rw [State.marked3, ctr_activationsFailed _ _ _ _ h, ctr_raisesFailed_other _ _ _ _ notRaised, pending]

/-- No mark changes a next value or a checkpoint. -/
theorem State.ctr_marked3_values (k : SlotIx) (i : TillIx) :
    ((s.marked3 w).ctr k i).c = (s.ctr k i).c ∧ ((s.marked3 w).ctr k i).k = (s.ctr k i).k := by
  have raises : ∀ (l : List (SlotIx × TillIx)) (t : State), ((l.foldl State.raiseFailed t).ctr k i).c = (t.ctr k i).c
      ∧ ((l.foldl State.raiseFailed t).ctr k i).k = (t.ctr k i).k := fun l t => by
    by_cases h : (k, i) ∈ l
    · rw [ctr_raisesFailed l t k i h]; exact ⟨rfl, rfl⟩
    · rw [ctr_raisesFailed_other l t k i h]; exact ⟨rfl, rfl⟩
  have replaced : ∀ (e : CounterEntry) (p : Bool), (e.replaced p).c = e.c ∧ (e.replaced p).k = e.k := fun e p => by
    unfold CounterEntry.replaced
    split <;> exact ⟨rfl, rfl⟩
  obtain ⟨next, checkpoint⟩ := raises w.raises s
  by_cases h : k ∈ w.activations
  · rw [State.marked3, ctr_activationsFailed _ _ _ _ h, (replaced _ _).1, (replaced _ _).2]
    exact ⟨next, checkpoint⟩
  · rw [State.marked3, ctr_activationsFailed_other _ _ _ _ h]
    exact ⟨next, checkpoint⟩

theorem State.slot_marked3 (k : SlotIx) (h : k ∈ w.activations) : ((s.marked3 w).slot k).busy = false := by
  rw [State.marked3, slot_activationsFailed _ _ _ h]

end

/-- The state once a failed write has made its marks and refused the queues of the tills they halt, before containment. -/
def State.failed3 (s : State) (w : Write3) : State :=
  ((s.raise .checkpointFail (till := w.named.2) (slot := w.named.1)).marked3 w).refuseHalted

theorem State.failWrite3_eq (s : State) (w : Write3) (he : w.erase = false) (hv : w.void = false) :
    s.failWrite3 w = (s.failed3 w).contain := by
  simp only [State.failWrite3, State.failed3, State.marked3, he, hv, Bool.false_eq_true, if_false]

/-- What a failed write can touch before containment. -/
theorem State.failed3_frame (s : State) (w : Write3) : ∃ entries keys tills events lane ipId,
    s.failed3 w = { s with counters := { s.counters with entries := entries }, keys := keys, tills := tills, events := events
                           lane := lane, ipId := ipId } := by
  obtain ⟨entries, keys, marks⟩ := (s.raise .checkpointFail (till := w.named.2) (slot := w.named.1)).marked3_marksOnly w
  obtain ⟨tills, events, lane, ipId, refused⟩ :=
    ((s.raise .checkpointFail (till := w.named.2) (slot := w.named.1)).marked3 w).refuseHalted_repliesOnly
  exact ⟨entries, keys, tills, events, lane, ipId, by rw [State.failed3, refused, marks]; rfl⟩

/-- The queues refused leave the marks. -/
theorem State.ctr_failed3 (s : State) (w : Write3) (k : SlotIx) (i : TillIx) :
    (s.failed3 w).ctr k i = ((s.raise .checkpointFail (till := w.named.2) (slot := w.named.1)).marked3 w).ctr k i := by
  obtain ⟨_, _, _, _, refused⟩ :=
    ((s.raise .checkpointFail (till := w.named.2) (slot := w.named.1)).marked3 w).refuseHalted_repliesOnly
  rw [State.failed3, refused]
  rfl

theorem State.slot_failed3 (s : State) (w : Write3) (k : SlotIx) :
    (s.failed3 w).slot k = ((s.raise .checkpointFail (till := w.named.2) (slot := w.named.1)).marked3 w).slot k := by
  obtain ⟨_, _, _, _, refused⟩ :=
    ((s.raise .checkpointFail (till := w.named.2) (slot := w.named.1)).marked3 w).refuseHalted_repliesOnly
  rw [State.failed3, refused]
  rfl

/-- CHECKPOINT-FAIL is counted once, and is the Fault Record's where that was empty. -/
theorem State.failed3_events (s : State) (w : Write3) :
    (s.failed3 w).count .checkpointFail = min (s.count .checkpointFail + 1) 65535
      ∧ (s.events.fault = none → (s.failed3 w).events.fault =
          some { code := .checkpointFail, till := w.named.2, slot := w.named.1, location := none, further := 0 }) := by
  obtain ⟨entries, keys, marks⟩ := (s.raise .checkpointFail (till := w.named.2) (slot := w.named.1)).marked3_marksOnly w
  obtain ⟨fault, count⟩ :=
    ((s.raise .checkpointFail (till := w.named.2) (slot := w.named.1)).marked3 w).refuseHalted_sameFaults
  refine ⟨?_, fun h => ?_⟩
  · rw [State.failed3, count _ (by decide), marks]
    exact s.count_raise_self ..
  · rw [State.failed3, fault, marks]
    simp [State.raise, Events.after, faultAfter, EventCode.eventClass, h]

/-- A till that the marks halt has its queue refused (R112). -/
theorem State.queue_failed3 (s : State) (w : Write3) (i : TillIx) (b : Binding) (hb : (s.till i).binding = some b)
    (enabled : b.enabled = true) (unspent : (s.ctr b.slot i).c ≠ 1048576) (failed : ((s.failed3 w).ctr b.slot i).failed = true) :
    ((s.failed3 w).till i).queue = [] := by
  obtain ⟨entries, keys, marks⟩ := (s.raise .checkpointFail (till := w.named.2) (slot := w.named.1)).marked3_marksOnly w
  refine State.queue_refuseHalted _ i (State.entryState_halted _ i b ?_ enabled ?_ (by rw [← s.ctr_failed3]; exact failed))
  · rw [marks]; exact hb
  · rw [(State.ctr_marked3_values _ w b.slot i).1]; exact unspent

/-! ### The two ends of a sector 3 write -/

theorem State.exec_checkpointWriteComplete (s : State) (w : Write3) (h : s.counters.inFlight = some w) :
    exec .checkpointWriteComplete s = .next (s.completeWrite3 w).ended3.settle := by
  simp only [exec, execCheckpointWriteComplete, h, State.ended3]

theorem State.exec_checkpointWriteFail (s : State) (w : Write3) (h : s.counters.inFlight = some w) :
    exec .checkpointWriteFail s = .next (s.failWrite3 w).ended3.settle := by
  simp only [exec, execCheckpointWriteFail, h, State.ended3]

/-- What ends when a write ends is no request of the next. -/
theorem State.pending_ended3 (s : State) (p : SlotIx × TillIx) (h : p ∉ s.counters.pending) :
    p ∉ s.ended3.counters.pending ∧ ∀ x, s.ended3.counters.inFlight = some x → p ∉ x.raises := by
  rw [s.ended3_eq]
  exact s.freed3.kick3_pending rfl p h

theorem State.jobFree_ended3 (s : State) (n : Nat) (h : s.jobFree n) : s.ended3.jobFree n := by
  have freed : s.freed3.jobFree n := h.map Job.ended3 rfl fun j hj => by rw [Job.ended3, hj]; rfl
  rw [s.ended3_eq]
  exact State.kick3_jobFree _ freed

/-- A completed write's raises and activations in the Counter Table (R52, R60). -/
theorem State.ctr_recorded3 (s : State) (w : Write3) (apart : ∀ p ∈ w.raises, p.1 ∉ w.activations) (k : SlotIx) (i : TillIx) :
    ((k, i) ∈ w.raises → (s.recorded3 w).ctr k i = (s.ctr k i).raised)
      ∧ (k ∈ w.activations → (s.recorded3 w).ctr k i = freshEntry)
      ∧ ((k, i) ∉ w.raises → k ∉ w.activations → (s.recorded3 w).ctr k i = s.ctr k i) := by
  refine ⟨fun h => ?_, fun h => ?_, fun h ha => ?_⟩
  · rw [State.recorded3, ctr_activationsDone_other _ _ _ _ (apart _ h), ctr_raisesDone _ _ _ _ h]
    rfl
  · rw [State.recorded3, ctr_activationsDone _ _ _ _ h]
  · rw [State.recorded3, ctr_activationsDone_other _ _ _ _ ha, ctr_raisesDone_other _ _ _ _ h]
    rfl

theorem State.slot_recorded3 (s : State) (w : Write3) (k : SlotIx) :
    (k ∈ w.activations → (s.recorded3 w).slot k = { s.slot k with busy := false })
      ∧ (k ∉ w.activations → (s.recorded3 w).slot k = s.slot k) := by
  obtain ⟨entries, raised⟩ := raisesDone_frame w.raises { s with store := { s.store with sec3 := .good w.contents } }
  refine ⟨fun h => ?_, fun h => ?_⟩
  · rw [State.recorded3, slot_activationsDone _ _ _ h, raised]
    rfl
  · rw [State.recorded3, slot_activationsDone_other _ _ _ h, raised]
    rfl

theorem State.ended3_slot (s : State) (k : SlotIx) : s.ended3.slot k = s.slot k :=
  congrArg (fun x : KeyTable => x.slots[k]) (congrArg State.keys s.ended3_frame :)

theorem State.ended3_count (s : State) (e : EventCode) : s.ended3.count e = s.count e :=
  State.count_congr (congrArg State.events s.ended3_frame :) e

/-- Settles O46: a write that completes, then one that fails under LENIENT. -/
theorem checkpointWriteEndsItsRaises : Obligations.CheckpointWriteEndsItsRaises := by
  refine ⟨fun s h => ⟨?_, ?_⟩, fun s w hw he hv apart => ⟨?_, fun lenient => ?_⟩⟩
  · simp only [exec, execCheckpointWriteComplete, h]
  · simp only [exec, execCheckpointWriteFail, h]
  · obtain ⟨r, hr⟩ : ∃ r : State, r = s.recorded3 w := ⟨_, rfl⟩
    obtain ⟨entries, raised⟩ := raisesDone_frame w.raises { s with store := { s.store with sec3 := .good w.contents } }
    have ctr := s.ctr_recorded3 w apart
    have slot := s.slot_recorded3 w
    have gone : ∀ k ∈ w.activations, ∀ i, (k, i) ∉ r.counters.pending := fun k hk i => by
      rw [hr]; exact pending_activationsDone _ _ _ (.inl hk)
    obtain ⟨_, _, _, _, frame⟩ := s.recorded3_frame w
    rw [← hr] at ctr slot frame
    refine ⟨r.ended3, by rw [s.exec_checkpointWriteComplete w hw, s.completeWrite3_eq w he hv, hr], ?_, fun k i h => ?_, fun k i h => ?_,
      fun k i h ha => ?_, fun k h => ?_, fun k h => ?_, fun k hk i => ?_, fun hc => ?_, ?_, ?_⟩
    · rw [r.ended3_frame, frame]
    · rw [r.ctr_ended3, (ctr k i).1 h]; rfl
    · rw [r.ctr_ended3, (ctr k i).2.1 h]; rfl
    · rw [r.ctr_ended3, (ctr k i).2.2 h ha]
    · rw [r.ended3_slot, (slot k).1 h]
    · rw [r.ended3_slot, (slot k).2 h]
    · obtain ⟨left, carried⟩ := r.pending_ended3 (k, i) (gone k hk i)
      refine ⟨left, carried, fun n j hj hc hs hp => r.jobFree_ended3 n ?_⟩
      rw [hr]
      exact activationsDone_retry w.activations _ k i n j hk (by rw [raised]; exact hj) hc hs (by rw [raised]; exact hp)
    · rw [r.ended3_count, hr, State.recorded3, raised]
      exact count_activationsDone _ _ hc
    · rw [r.ended3_count, hr, State.recorded3, raised]
      exact count_activationsDone_other _ _ (by decide)
    · rw [r.ended3_frame, frame]
  · obtain ⟨f, hf⟩ : ∃ f : State, f = s.failed3 w := ⟨_, rfl⟩
    obtain ⟨r, hr⟩ : ∃ r : State, r = s.raise .checkpointFail (till := w.named.2) (slot := w.named.1) := ⟨_, rfl⟩
    have ctr : ∀ k i, f.ended3.ctr k i = (r.marked3 w).ctr k i := fun k i => by rw [f.ctr_ended3, hf, s.ctr_failed3, hr]
    have entry : ∀ k i, r.ctr k i = s.ctr k i := fun k i => by rw [hr]; rfl
    obtain ⟨counted, fault⟩ := s.failed3_events w
    obtain ⟨_, _, _, _, _, _, frame⟩ := s.failed3_frame w
    rw [← hf] at counted fault frame
    have contained : f.contain = f := f.contain_lenient (by rw [frame]; exact lenient)
    refine ⟨f.ended3, by rw [s.exec_checkpointWriteFail w hw, s.failWrite3_eq w he hv, ← hf, contained], ?_, fun k i => ?_, fun k i h => ?_,
      fun k i h ha => ?_, fun k hk i => ?_, fun k h => ?_, fun none raises => ?_, ?_, ?_, fun i b hb en un fa => ?_, ?_⟩
    · rw [f.ended3_frame, frame]
    · rw [ctr, (r.ctr_marked3_values w k i).1, (r.ctr_marked3_values w k i).2, entry]
      exact ⟨rfl, rfl⟩
    · rw [ctr, r.ctr_marked3_raise w k i h]
      exact ⟨rfl, rfl⟩
    · rw [ctr, r.ctr_marked3_other w k i h ha, entry]
    · have pending : r.counters.pending = s.counters.pending := by rw [hr]; rfl
      rw [ctr, r.ctr_marked3_activation w apart k i hk, entry, pending]
      simp [CounterEntry.replaced, CounterEntry.missed]
    · rw [f.ended3_slot, hf, s.slot_failed3, ← hr, r.slot_marked3 w k h]
    · obtain ⟨k, i, mem, least, named⟩ := w.named_raises raises
      refine ⟨k, i, mem, least, ?_⟩
      rw [f.ended3_frame, fault none, named]
    · rw [f.ended3_count, counted]
    · rw [f.ended3_frame, frame]
    · have queue : (f.ended3.till i).queue = (f.till i).queue := by rw [f.ended3_frame]; rfl
      rw [queue, hf]
      refine s.queue_failed3 w i b hb en un ?_
      rw [← hf, ← f.ctr_ended3]
      exact fa
    · rw [f.ended3_frame, frame]
      exact ⟨rfl, rfl, rfl, rfl, rfl, rfl⟩

end Sys2Proof.Machine
end

section
/-! PROOFS. The ends of the writes of sectors 1 and 2, containment of those that fail, and DECOMMISSION's erases (R68, R69, R185, R191); it settles
O45. -/

namespace Sys2Proof.Machine

/-! ### A contained failure (R191, R192, R195, R196) -/

theorem State.contain_opState (s : State) :
    (s.settings.store.policy = .strict → s.opState = .serving → s.contain.opState = .lockdown)
      ∧ ((s.settings.store.policy = .lenient ∨ s.opState ≠ .serving) → s.contain.opState = s.opState) := by
  refine ⟨fun strict serving => ?_, fun h => ?_⟩
  · rw [s.contain_serving strict serving]
    exact s.enterLockdown_spec.1
  · unfold State.contain
    split
    · rfl
    · split
      · rename_i strict _ serving
        rw [strict] at h
        exact absurd serving (h.resolve_left nofun)
      · rfl
      · rfl
      · rfl

/-- A failure recorded and contained. -/
def State.contained (s : State) (e : EventCode) (till : Option TillIx) (slot : Option SlotIx) (location : Option Location) : State :=
  (s.raise e till slot location).contain

section

variable (s : State) (e : EventCode) (till : Option TillIx) (slot : Option SlotIx) (location : Option Location)

theorem State.contained_lockdownOnly : LockdownOnly s (s.contained e till slot location) :=
  LockdownOnly.trans ⟨_, _, _, _, _, _, _, _, _, _, _, rfl⟩ (s.raise e till slot location).contain_lockdownOnly

theorem State.contained_lenient (h : s.settings.store.policy = .lenient) : s.contained e till slot location = s.raise e till slot location :=
  State.contain_lenient _ h

/-- A failure of class FAULT is counted, and is the Fault Record's where that was empty, whatever follows that leaves both alone. -/
theorem SameFaults.recorded {s u : State} {e : EventCode} {till : Option TillIx} {slot : Option SlotIx} {location : Option Location}
    (h : e.eventClass = some .fault) (same : SameFaults (s.raise e till slot location) u) :
    u.count e = min (s.count e + 1) 65535
      ∧ (s.events.fault = none →
          u.events.fault = some { code := e, till := till, slot := slot, location := location, further := 0 }) := by
  obtain ⟨fault, count⟩ := same
  refine ⟨(count e (.inr h)).trans (s.count_raise_self ..), fun none => fault.trans ?_⟩
  simp [State.raise, Events.after, faultAfter, h, none]

theorem State.contained_events (h : e.eventClass = some .fault) :
    (s.contained e till slot location).count e = min (s.count e + 1) 65535
      ∧ (s.events.fault = none → (s.contained e till slot location).events.fault =
          some { code := e, till := till, slot := slot, location := location, further := 0 }) :=
  (s.raise e till slot location).contain_sameFaults.recorded h

/-- A SERVING part under STRICT enters LOCKDOWN; any other stays as it is (R191). -/
theorem State.contained_opState :
    (s.settings.store.policy = .strict → s.opState = .serving → (s.contained e till slot location).opState = .lockdown)
      ∧ ((s.settings.store.policy = .lenient ∨ s.opState ≠ .serving) → (s.contained e till slot location).opState = s.opState) :=
  (s.raise e till slot location).contain_opState

end

/-- What containment does not touch of the tables a failed write is about. -/
def State.keptPart (s : State) : KeyStore × Settings × CounterTable × KeyTable × StandIn × List OutEntry :=
  (s.store, s.settings, s.counters, s.keys, s.standIn, s.outstanding)

/-- What containment changes of the part's work. -/
def State.containedPart (s : State) : OpState × Bool × Vector Ctx 4 × Vector Till 128 × Drain :=
  (s.opState, s.cause, s.ctxs, s.tills, s.drain)

theorem LockdownOnly.keptPart {s t : State} (h : LockdownOnly s t) : t.keptPart = s.keptPart := by
  obtain ⟨_, _, _, _, _, _, _, _, _, _, _, frame⟩ := h
  rw [frame]
  rfl

/-! ### What follows the end of a sector 1 or 2 write (R68) -/

theorem Wait.ended_not_inFlight (w : Wait) : w.ended ≠ .inFlight := by cases w <;> decide

/-- What a job becomes when the sector 1 write that carries it ends. -/
def Job.ended1 (j : Job) : Job := { j with s1 := j.s1.ended }

/-- The state with no sector 1 write in flight, before the next begins. -/
def State.freed1 (s : State) : State :=
  { s with writer1 := { s.writer1 with inFlight := none }, mgmt := { s.mgmt with jobs := s.mgmt.jobs.map Job.ended1 } }

theorem State.end1_eq (s : State) : s.end1 = s.freed1.kick1 := rfl

/-- The end of a sector 1 write changes nothing else than its writer and the Management Unit. -/
theorem State.end1_frame (s : State) : s.end1 = { s with writer1 := s.end1.writer1, mgmt := s.end1.mgmt } := by
  rw [s.end1_eq, State.kick1_frame]
  rfl

/-- What a job becomes when the sector 2 write that carries it ends. -/
def Job.ended2 (j : Job) : Job := { j with s2 := j.s2.ended }

/-- The state with no sector 2 write in flight, before the next begins. -/
def State.freed2 (s : State) : State :=
  { s with writer2 := { s.writer2 with inFlight := none }, mgmt := { s.mgmt with jobs := s.mgmt.jobs.map Job.ended2 } }

theorem State.end2_eq (s : State) : s.end2 = s.freed2.kick2 := rfl

/-- The end of a sector 2 write changes nothing else than its writer and the Management Unit. -/
theorem State.end2_frame (s : State) : s.end2 = { s with writer2 := s.end2.writer2, mgmt := s.end2.mgmt } := by
  rw [s.end2_eq, State.kick2_frame]
  rfl

/-- The end of a sector 2 write leaves each command's wait for sector 3. -/
theorem State.end2_jobs (s : State) : ∃ f : Job → Job, s.end2.mgmt.jobs = s.mgmt.jobs.map f ∧ ∀ j, (f j).s3 = j.s3 := by
  rw [s.end2_eq]
  by_cases busy : s.erasing = true
  · rw [s.freed2.kick2_busy (.inr busy)]
    exact ⟨Job.ended2, rfl, fun _ => rfl⟩
  · rw [s.freed2.kick2_free rfl (Bool.eq_false_of_not_eq_true busy)]
    split
    · exact ⟨Job.begun2 ∘ Job.ended2, List.map_map, fun _ => rfl⟩
    · split
      · exact ⟨Job.begun2 ∘ Job.ended2, List.map_map, fun _ => rfl⟩
      · exact ⟨Job.ended2, rfl, fun _ => rfl⟩

/-- With no write of sector 2 asked for, none follows. -/
theorem State.end2_rests (s : State) (hw : s.writer2.wanted = false) (he : s.writer2.eraseWanted = false) : s.end2 = s.freed2 := by
  rw [s.end2_eq]
  by_cases busy : s.erasing = true
  · exact s.freed2.kick2_busy (.inr busy)
  · rw [s.freed2.kick2_free rfl (Bool.eq_false_of_not_eq_true busy), if_neg (by simp [State.freed2, he]), if_neg (by simp [State.freed2, hw])]

/-- DECOMMISSION's erase of sector 2 follows, with what has waited (R185). -/
theorem State.end2_erases (s : State) (he : s.writer2.eraseWanted = true) (free : s.erasing = false) : s.end2 = s.freed2.writing2 none := by
  rw [s.end2_eq, s.freed2.kick2_free rfl free]
  exact if_pos he

/-! ### Additions that are not made (R69, R72) -/

/-- The additions of a write end without being made: only the slots' busy marks change. -/
theorem additionsFail_frame (l : List KeyAddition) (s : State) :
    ∃ slots, l.foldl State.additionFails s = { s with keys := { s.keys with slots := slots } } := by
  induction l generalizing s with
  | nil => exact ⟨_, rfl⟩
  | cons a l ih =>
    obtain ⟨slots, frame⟩ := ih (s.additionFails a)
    rw [List.foldl_cons, frame]
    cases a <;> exact ⟨_, rfl⟩

theorem State.slot_additionFails (s : State) (a : KeyAddition) (k : SlotIx) :
    (s.additionFails a).slot k = if a.slot? = some k then { s.slot k with busy := false } else s.slot k := by
  have released : ∀ j : SlotIx, (s.setSlot j { s.slot j with busy := false }).slot k =
      if some j = some k then { s.slot k with busy := false } else s.slot k := fun j => by
    by_cases h : j = k
    · subst h; rw [if_pos rfl, State.slot_setSlot_self]
    · rw [if_neg (fun e => h (Option.some.inj e)), State.slot_setSlot_ne _ _ (Ne.symm h)]
  cases a with
  | load j r => exact released j
  | loadFp r => rfl
  | activate j => exact released j

section

variable (l : List KeyAddition) (s : State) (k : SlotIx)

theorem slot_additionsFail (h : k ∈ l.filterMap KeyAddition.slot?) :
    (l.foldl State.additionFails s).slot k = { s.slot k with busy := false } :=
  foldl_hit State.additionFails (·.slot k) (·.slot? = some k) (fun x => { x with busy := false }) (fun _ => rfl)
    (fun t a ha => (t.slot_additionFails a k).trans (if_neg ha)) (fun t a ha => (t.slot_additionFails a k).trans (if_pos ha)) l s
    (List.mem_filterMap.1 h)

theorem slot_additionsFail_other (h : k ∉ l.filterMap KeyAddition.slot?) : (l.foldl State.additionFails s).slot k = s.slot k :=
  foldl_miss State.additionFails (·.slot k) (·.slot? = some k) (fun t a ha => (t.slot_additionFails a k).trans (if_neg ha)) l s
    fun a ha e => h (List.mem_filterMap.2 ⟨a, ha, e⟩)

end

/-- What becomes of the Key Table when a write's additions are not made (R72, R185). -/
def Released (w : Write2) (s u : State) : Prop :=
  (∀ k ∈ w.additions.filterMap KeyAddition.slot?, u.slot k = { s.slot k with busy := false })
    ∧ (∀ k, k ∉ w.additions.filterMap KeyAddition.slot? → u.slot k = s.slot k)
    ∧ u.keys.fp = s.keys.fp ∧ u.keys.fpFloor = s.keys.fpFloor

theorem State.dropAdditions_live (s : State) (w : Write2) (h : w.void = false) :
    s.dropAdditions w = w.additions.foldl State.additionFails s := by
  rw [State.dropAdditions, h]; rfl

theorem State.dropAdditions_void (s : State) (w : Write2) (h : w.void = true) : s.dropAdditions w = s := by
  rw [State.dropAdditions, h]; rfl

theorem State.dropAdditions_frame (s : State) (w : Write2) :
    ∃ slots, s.dropAdditions w = { s with keys := { s.keys with slots := slots } } := by
  by_cases h : w.void = true
  · rw [s.dropAdditions_void w h]; exact ⟨_, rfl⟩
  · rw [s.dropAdditions_live w (by simpa using h)]
    exact additionsFail_frame _ _

theorem State.dropAdditions_released (s u : State) (w : Write2) (h : w.void = false) (keys : u.keys = (s.dropAdditions w).keys) :
    Released w s u := by
  have slot : ∀ k, u.slot k = (w.additions.foldl State.additionFails s).slot k := fun k => by
    rw [← s.dropAdditions_live w h, State.slot, keys, State.slot]
  obtain ⟨_, frame⟩ := s.dropAdditions_frame w
  refine ⟨fun k hk => ?_, fun k hk => ?_, ?_, ?_⟩
  · rw [slot, slot_additionsFail _ _ _ hk]
  · rw [slot, slot_additionsFail_other _ _ _ hk]
  · rw [keys, frame]
  · rw [keys, frame]

/-! ### The rows of the ends of sector 1 and 2 writes -/

theorem State.exec_settingsComplete (s : State) (c : Option Sector1) (h : s.writer1.inFlight = some c) :
    exec (.sectorWriteComplete .settings) s =
      .next (State.end1 { s with store := { s.store with sec1 := writtenSector c } }).settle := by
  simp only [exec, execSectorWriteComplete, h]

theorem State.exec_settingsFail (s : State) (c : Option Sector1) (h : s.writer1.inFlight = some c) :
    exec (.sectorWriteFail .settings) s = .next (s.contained .nvWriteFail none none (some (.sector 1))).end1.settle := by
  simp only [exec, execSectorWriteFail, h, State.contained]

theorem State.exec_keysComplete (s : State) (w : Write2) (h : s.writer2.inFlight = some w) :
    exec (.sectorWriteComplete .keys) s = .next (s.completeWrite2 w).end2.settle := by
  simp only [exec, execSectorWriteComplete, h]

theorem State.exec_keysFail (s : State) (w : Write2) (h : s.writer2.inFlight = some w) (hz : w.zeroise = false) :
    exec (.sectorWriteFail .keys) s =
      .next ((s.dropAdditions w).contained .nvWriteFail none w.slot? (some (.sector 2))).end2.settle := by
  simp only [exec, execSectorWriteFail, h, hz, Bool.false_eq_true, if_false, State.failWrite2, State.contained]

/-- What a failed sector write leaves. -/
theorem State.keysFail_spec (s : State) (w : Write2) :
    let u := ((s.dropAdditions w).contained .nvWriteFail none w.slot? (some (.sector 2))).end2
    u.count .nvWriteFail = min (s.count .nvWriteFail + 1) 65535
      ∧ (s.events.fault = none → u.events.fault =
          some { code := .nvWriteFail, till := none, slot := w.slot?, location := some (.sector 2), further := 0 })
      ∧ u.keptPart = (s.dropAdditions w).keptPart
      ∧ u.containedPart = ((s.dropAdditions w).contained .nvWriteFail none w.slot? (some (.sector 2))).containedPart := by
  intro u
  obtain ⟨d, hd⟩ : ∃ d : State, d = s.dropAdditions w := ⟨_, rfl⟩
  obtain ⟨_, dropped⟩ := s.dropAdditions_frame w
  obtain ⟨c, hc⟩ : ∃ c : State, c = d.contained .nvWriteFail none w.slot? (some (.sector 2)) := ⟨_, rfl⟩
  obtain ⟨count, fault⟩ := d.contained_events .nvWriteFail none w.slot? (some (.sector 2)) rfl
  have only := d.contained_lockdownOnly .nvWriteFail none w.slot? (some (.sector 2))
  have hu : u = c.end2 := by rw [hc, hd]
  have frame := c.end2_frame
  rw [← hd] at dropped ⊢
  rw [← hc] at count fault only ⊢
  rw [← hu] at frame
  have events : u.events = c.events := (congrArg State.events frame :)
  have before : d.events = s.events := (congrArg State.events dropped :)
  refine ⟨?_, fun none => ?_, ?_, ?_⟩
  · rw [State.count_congr events, count, State.count_congr before]
  · rw [events, fault (by rw [before]; exact none)]
  · exact (congrArg State.keptPart frame).trans only.keptPart
  · exact (congrArg State.containedPart frame :)

/-! ### A failure of a write that DECOMMISSION has asked for, or has passed by (R69, R185, R191) -/

/-- What a failure makes of the operating state (R191). -/
def OpStateContained (s u : State) : Prop :=
  (s.settings.store.policy = .strict → s.opState = .serving → u.opState = .lockdown)
    ∧ ((s.settings.store.policy = .lenient ∨ s.opState ≠ .serving) → u.opState = s.opState)

/-- A failure of a write: NV-WRITE-FAIL, and containment. -/
def FailedAs (s u : State) (slot : Option SlotIx) (at_ : Location) : Prop :=
  u.count .nvWriteFail = min (s.count .nvWriteFail + 1) 65535
    ∧ (s.events.fault = none → s.settings.store.policy = .lenient →
        u.events.fault = some { code := .nvWriteFail, till := none, slot := slot, location := some at_, further := 0 })
    ∧ u.store = s.store ∧ OpStateContained s u

/-- What follows the end of the write leaves the failure as containment has left it. -/
theorem State.failedAs (s u : State) (slot : Option SlotIx) (at_ : Location)
    (events : u.events = (s.contained .nvWriteFail none slot (some at_)).events)
    (store : u.store = (s.contained .nvWriteFail none slot (some at_)).store)
    (opState : u.opState = (s.contained .nvWriteFail none slot (some at_)).opState) : FailedAs s u slot at_ := by
  obtain ⟨count, fault⟩ := s.contained_events .nvWriteFail none slot (some at_) rfl
  obtain ⟨_, _, _, _, _, _, _, _, _, _, _, frame⟩ := s.contained_lockdownOnly .nvWriteFail none slot (some at_)
  refine ⟨(State.count_congr events _).trans count, fun none _ => by rw [events]; exact fault none, by rw [store, frame], ?_⟩
  rw [OpStateContained, opState]
  exact s.contained_opState ..

theorem State.keysFail_failedAs (s : State) (w : Write2) :
    FailedAs s ((s.dropAdditions w).contained .nvWriteFail none w.slot? (some (.sector 2))).end2 w.slot? (.sector 2) := by
  obtain ⟨_, dropped⟩ := s.dropAdditions_frame w
  have frame := ((s.dropAdditions w).contained .nvWriteFail none w.slot? (some (.sector 2))).end2_frame
  have fails := (s.dropAdditions w).failedAs ((s.dropAdditions w).contained .nvWriteFail none w.slot? (some (.sector 2))).end2 w.slot?
    (.sector 2) (congrArg State.events frame :) (congrArg State.store frame :) (congrArg State.opState frame :)
  generalize ((s.dropAdditions w).contained .nvWriteFail none w.slot? (some (.sector 2))).end2 = u at fails ⊢
  rw [dropped] at fails
  exact fails

theorem State.settingsFail_failedAs (s : State) :
    FailedAs s (s.contained .nvWriteFail none none (some (.sector 1))).end1 none (.sector 1) :=
  have frame := (s.contained .nvWriteFail none none (some (.sector 1))).end1_frame
  s.failedAs _ none _ (congrArg State.events frame :) (congrArg State.store frame :) (congrArg State.opState frame :)

theorem State.checkpointsFail_failedAs (s : State) :
    FailedAs s (s.contained .nvWriteFail none none (some (.sector 3))).ended3 none (.sector 3) :=
  have frame := (s.contained .nvWriteFail none none (some (.sector 3))).ended3_frame
  s.failedAs _ none _ (congrArg State.events frame :) (congrArg State.store frame :) (congrArg State.opState frame :)

/-! ### DECOMMISSION's erase of sector 3 asked for (R185) -/

/-- The waiting command waits for the erase of sector 3. -/
def Job.asks3 (j : Job) : Job := if j.isWaiting then { j with s3 := .queued } else j

/-- The state once the erase of sector 3 is asked for. -/
def State.eraseAsked (s : State) : State :=
  { s with counters := { s.counters with eraseWanted := true }, mgmt := { s.mgmt with jobs := s.mgmt.jobs.map Job.asks3 } }

theorem State.requestErase3_eq (s : State) : s.requestErase3 = s.eraseAsked.kick3 := rfl

theorem State.requestErase3_busy (s : State) (h : s.counters.inFlight.isSome = true) : s.requestErase3 = s.eraseAsked :=
  s.eraseAsked.kick3_busy (.inl h)

theorem State.requestErase3_free (s : State) (hf : s.counters.inFlight = none) (he : s.erasing = false) :
    s.requestErase3 = s.eraseAsked.writing3 := by
  rw [s.requestErase3_eq, s.eraseAsked.kick3_free hf he]
  exact if_neg (by simp [State.eraseAsked, CounterTable.quiet])

theorem State.requestErase3_frame (s : State) : s.requestErase3 =
    { s with counters := s.requestErase3.counters, mgmt := { s.mgmt with jobs := s.requestErase3.mgmt.jobs } } := by
  rw [s.requestErase3_eq, State.kick3_jobs]
  rfl

/-- A request of a sector 3 write leaves the number of the commands. -/
theorem State.length_kick3 (s : State) : s.kick3.mgmt.jobs.length = s.mgmt.jobs.length := by
  by_cases busy : s.counters.inFlight.isSome = true ∨ s.erasing = true
  · rw [s.kick3_busy busy]
  · rw [not_or, Option.not_isSome_iff_eq_none, Bool.not_eq_true] at busy
    rw [s.kick3_free busy.1 busy.2]
    split
    · exact List.length_map ..
    · exact List.length_map ..

/-- DECOMMISSION's erase of sector 2 completes (R185): blank, and the erase of sector 3 asked for. -/
def State.erased2 (s : State) (w : Write2) : State :=
  (State.dropAdditions { s with store := { s.store with sec2 := .blank } } w).requestErase3

theorem State.completeWrite2_erase (s : State) (w : Write2) (hc : w.contents = none) (ht : w.thenErase3 = true) :
    s.completeWrite2 w = s.erased2 w := by
  simp only [State.completeWrite2, State.erased2, hc, ht, writtenSector, Option.isNone_none, if_true]

theorem State.erased2_frame (s : State) (w : Write2) : ∃ slots, s.erased2 w = { s with
    store := { s.store with sec2 := .blank }, keys := { s.keys with slots := slots }, counters := (s.erased2 w).counters
    mgmt := { s.mgmt with jobs := (s.erased2 w).mgmt.jobs } } := by
  obtain ⟨slots, dropped⟩ := State.dropAdditions_frame { s with store := { s.store with sec2 := .blank } } w
  refine ⟨slots, ?_⟩
  rw [State.erased2, State.requestErase3_frame, dropped]

/-- The erase of sector 3 as DECOMMISSION's erase of sector 2 leaves it: in flight where it can begin, asked for where it cannot. -/
theorem State.erased2_counters (s : State) (w : Write2) :
    (s.counters.inFlight = none → s.erasing = false →
        (∃ x, (s.erased2 w).counters.inFlight = some x ∧ x.erase = true ∧ x.void = false ∧ x.raises = [] ∧ x.activations = [])
          ∧ (s.erased2 w).counters.eraseWanted = false
          ∧ (s.erased2 w).mgmt.jobs = s.mgmt.jobs.map (Job.begun3 ∘ Job.asks3))
      ∧ (s.counters.inFlight.isSome = true → (s.erased2 w).counters = { s.counters with eraseWanted := true }
          ∧ (s.erased2 w).mgmt.jobs = s.mgmt.jobs.map Job.asks3)
      ∧ (s.erased2 w).counters.entries = s.counters.entries ∧ (s.erased2 w).mgmt.jobs.length = s.mgmt.jobs.length := by
  obtain ⟨_, dropped⟩ := State.dropAdditions_frame { s with store := { s.store with sec2 := .blank } } w
  obtain ⟨d, hd⟩ : ∃ d : State, d = State.dropAdditions { s with store := { s.store with sec2 := .blank } } w := ⟨_, rfl⟩
  rw [← hd] at dropped
  have counters : d.counters = s.counters := by rw [dropped]
  have jobs : d.mgmt.jobs = s.mgmt.jobs := by rw [dropped]
  have erasing : d.erasing = s.erasing := by rw [dropped]; rfl
  rw [State.erased2, ← hd, ← counters, ← jobs, ← erasing]
  refine ⟨fun hf he => ?_, fun hf => ?_, ?_, ?_⟩
  · rw [d.requestErase3_free hf he]
    exact ⟨⟨_, rfl, rfl, rfl, rfl, rfl⟩, rfl, List.map_map⟩
  · rw [d.requestErase3_busy hf]
    exact ⟨rfl, rfl⟩
  · rw [d.requestErase3_eq, State.entries_kick3]
    rfl
  · rw [d.requestErase3_eq, State.length_kick3]
    exact List.length_map ..

theorem State.length_end2 (s : State) : s.end2.mgmt.jobs.length = s.mgmt.jobs.length := by
  obtain ⟨f, jobs, -⟩ := s.end2_jobs
  rw [jobs, List.length_map]

/-- A waiting command's wait for sector 3, from the request to the end of the step. -/
theorem State.end2_job (s t : State) (f : Job → Job) (jobs : t.mgmt.jobs = s.mgmt.jobs.map f) (n : Nat) (j : Job)
    (h : s.mgmt.jobs[n]? = some j) : ∃ j', t.end2.mgmt.jobs[n]? = some j' ∧ j'.s3 = (f j).s3 := by
  obtain ⟨g, after, kept⟩ := t.end2_jobs
  exact ⟨g (f j), by rw [after, jobs, List.getElem?_map, List.getElem?_map, h]; rfl, kept _⟩

theorem Job.asks3_waiting (j : Job) (h : j.isWaiting = true) : j.asks3.s3 = .queued := by rw [Job.asks3, if_pos h]

theorem Job.begun3_asks3 (j : Job) (h : j.isWaiting = true) : j.asks3.begun3.s3 = .inFlight := by rw [Job.begun3, j.asks3_waiting h]; rfl

/-! ### The erase of sector 3, and a write of it that DECOMMISSION has passed by (R185) -/

/-- The state once a write that changes no counter entry has put its contents in sector 3. -/
def State.stored3 (s : State) (w : Write3) : State :=
  { s with store := { s.store with sec3 := if w.erase then .blank else .good w.contents } }

theorem State.completeWrite3_stored (s : State) (w : Write3) (h : w.void = true ∨ w.erase = true) : s.completeWrite3 w = s.stored3 w := by
  simp only [State.completeWrite3, State.stored3, if_pos h]

theorem State.failWrite3_erase (s : State) (w : Write3) (h : w.erase = true) :
    s.failWrite3 w = s.contained .nvWriteFail none none (some (.sector 3)) := by
  simp only [State.failWrite3, h, if_true, State.contained]

theorem State.failWrite3_void (s : State) (w : Write3) (he : w.erase = false) (hv : w.void = true) :
    s.failWrite3 w = s.contained .checkpointFail w.named.2 w.named.1 none := by
  simp only [State.failWrite3, he, hv, Bool.false_eq_true, if_false, if_true, State.contained]

/-- With nothing more requested of sector 3, no write follows, and no command waits for one (log 76). -/
theorem State.ended3_rests (s : State) (hp : s.counters.pending = []) (ha : s.counters.activations = []) (hw : s.counters.eraseWanted = false)
    (he : s.erasing = false) : s.ended3.counters.inFlight = none ∧ ∀ j ∈ s.ended3.mgmt.jobs, j.s3 = .no := by
  have quiet : s.freed3.counters.quiet = true := (CounterTable.quiet_iff _).2 ⟨hp, ha, hw⟩
  have free : s.freed3.kick3 = s.freed3.mapJobs Job.unqueued3 := (s.freed3.kick3_free rfl he).trans (if_pos quiet)
  have ended : ∀ j : Job, j.ended3.unqueued3.s3 = .no := fun j => by
    unfold Job.unqueued3 Job.ended3
    cases j.s3 <;> rfl
  rw [s.ended3_eq, free]
  refine ⟨rfl, fun j hj => ?_⟩
  obtain ⟨_, hx, rfl⟩ := List.mem_map.1 hj
  obtain ⟨x, -, rfl⟩ := List.mem_map.1 hx
  exact ended x

/-- The erase of sector 3 follows where it is asked for (R185). -/
theorem State.ended3_erases (s : State) (hw : s.counters.eraseWanted = true) (he : s.erasing = false) :
    ∃ x, s.ended3.counters.inFlight = some x ∧ x.erase = true := by
  have busy : ¬ s.freed3.counters.quiet = true := fun h => by
    have := ((CounterTable.quiet_iff _).1 h).2.2
    rw [State.freed3, hw] at this
    cases this
  rw [s.ended3_eq, s.freed3.kick3_free rfl he, if_neg busy]
  exact ⟨_, rfl, hw⟩

/-! ### Additions that DECOMMISSION has passed by (R185) -/

/-- An addition that is counted when its write completes: a key record loaded. -/
def KeyAddition.isLoad (a : KeyAddition) : Bool := match a with | .activate _ => false | _ => true

theorem State.addition_void (s : State) (a : KeyAddition) :
    ∃ k, s.addition true a = if a.isLoad then s.raise .keyLoaded (slot := k) else s := by
  cases a with
  | load k r => exact ⟨some k, rfl⟩
  | loadFp r => exact ⟨none, rfl⟩
  | activate k => exact ⟨none, rfl⟩

/-- What a write that DECOMMISSION has passed by loaded is counted, and nothing is installed (log 37). -/
theorem additionsVoid_spec (l : List KeyAddition) (s : State) :
    (∃ v, l.foldl (State.addition true) s = { s with events := v })
      ∧ (s.count .keyLoaded ≤ 65535 →
          (l.foldl (State.addition true) s).count .keyLoaded = min (s.count .keyLoaded + (l.filter KeyAddition.isLoad).length) 65535) := by
  induction l generalizing s with
  | nil => exact ⟨⟨_, rfl⟩, fun h => (Nat.min_eq_left h).symm⟩
  | cons a l ih =>
    obtain ⟨k, turn⟩ := s.addition_void a
    rw [List.foldl_cons, turn, List.filter_cons]
    by_cases load : a.isLoad = true
    · obtain ⟨⟨v, frame⟩, count⟩ := ih (s.raise .keyLoaded (slot := k))
      have counted : (s.raise .keyLoaded (slot := k)).count .keyLoaded = min (s.count .keyLoaded + 1) 65535 := s.count_raise_self ..
      rw [if_pos load, if_pos load, List.length_cons]
      refine ⟨⟨v, frame⟩, fun h => ?_⟩
      rw [count (counted ▸ Nat.min_le_right _ _), counted]
      omega
    · rw [if_neg load, if_neg load]
      exact ih s

/-- The state once a write that DECOMMISSION has passed by has put its contents in sector 2. -/
def State.passed2 (s : State) (w : Write2) (c : Sector2) : State :=
  w.additions.foldl (State.addition true) { s with store := { s.store with sec2 := .good c } }

theorem State.completeWrite2_void (s : State) (w : Write2) (c : Sector2) (hc : w.contents = some c) (hv : w.void = true)
    (ht : w.thenErase3 = false) : s.completeWrite2 w = s.passed2 w c := by
  simp only [State.completeWrite2, State.passed2, hc, hv, ht, writtenSector, Option.isNone_some, Bool.false_eq_true, if_false]

theorem State.released_erased2 (s : State) (w : Write2) (hv : w.void = false) : Released w s (s.erased2 w).end2 := by
  have asked : (s.erased2 w).keys = (State.dropAdditions { s with store := { s.store with sec2 := .blank } } w).keys :=
    (congrArg State.keys (State.requestErase3_frame _) :)
  exact State.dropAdditions_released { s with store := { s.store with sec2 := .blank } } _ w hv
    ((congrArg State.keys (s.erased2 w).end2_frame :).trans asked)

/-- Settles O45: DECOMMISSION's erases of sectors 2, 3 and 1, then the writes of sectors 2 and 3 that it has passed by. -/
theorem decommissionWritesEnd : Obligations.DecommissionWritesEnd := by
  unfold Obligations.DecommissionWritesEnd
  intro contained failed named
  refine ⟨fun s w hw hc ht hv hz => ?_, fun s w hw he => ?_, fun s hw => ?_, fun s w c hw hc hv ht hz => ?_, fun s w hw he hv => ?_⟩
  · intro slots released
    refine ⟨?_, ?_⟩
    · obtain ⟨free, busy, entries, length⟩ := s.erased2_counters w
      obtain ⟨_, frame⟩ := s.erased2_frame w
      have holds : Released w s (s.erased2 w).end2 := s.released_erased2 w hv
      generalize hr : s.erased2 w = r at *
      have counters : r.end2.counters = r.counters := (congrArg State.counters r.end2_frame :)
      refine ⟨r.end2, by rw [s.exec_keysComplete w hw, s.completeWrite2_erase w hc ht, hr], ?_, holds, ?_, r.length_end2.trans length,
        fun hf he => ?_, fun hf => ?_, fun wanted erase => ?_, ?_⟩
      · rw [r.end2_frame, frame]
      · rw [counters, entries]
      · obtain ⟨begun, once, jobs⟩ := free hf he
        rw [counters]
        refine ⟨begun, once, fun n j hj waits => ?_⟩
        obtain ⟨j', found, s3⟩ := s.end2_job r _ jobs n j hj
        exact ⟨j', found, s3.trans (j.begun3_asks3 waits)⟩
      · obtain ⟨asked, jobs⟩ := busy hf
        rw [counters]
        refine ⟨asked, fun n j hj waits => ?_⟩
        obtain ⟨j', found, s3⟩ := s.end2_job r _ jobs n j hj
        exact ⟨j', found, s3.trans (j.asks3_waiting waits)⟩
      · rw [r.end2_rests (by rw [frame]; exact wanted) (by rw [frame]; exact erase)]
        refine ⟨rfl, fun j hj => ?_⟩
        obtain ⟨x, -, rfl⟩ := List.mem_map.1 hj
        exact Wait.ended_not_inFlight _
      · rw [r.end2_frame, frame]
    · obtain ⟨-, -, kept, -⟩ := s.keysFail_spec w
      have fails := s.keysFail_failedAs w
      have lenient : s.settings.store.policy = .lenient →
          (s.dropAdditions w).contained .nvWriteFail none w.slot? (some (.sector 2)) =
            (s.dropAdditions w).raise .nvWriteFail none w.slot? (some (.sector 2)) := by
        obtain ⟨_, dropped⟩ := s.dropAdditions_frame w
        exact fun h => State.contained_lenient _ _ _ _ _ (by rw [dropped]; exact h)
      obtain ⟨_, dropped⟩ := s.dropAdditions_frame w
      have holds := fun u keys => s.dropAdditions_released u w hv keys
      generalize hd : s.dropAdditions w = d at *
      generalize hr : d.contained .nvWriteFail none w.slot? (some (.sector 2)) = r at *
      simp only [State.keptPart, Prod.mk.injEq] at kept
      obtain ⟨-, -, counters, keys, -, -⟩ := kept
      refine ⟨r.end2, by rw [s.exec_keysFail w hw hz, hd, hr], fails, holds _ keys, by rw [counters, dropped], fun h => ?_⟩
      rw [r.end2_frame, lenient h, dropped]
      rfl
  · refine ⟨?_, ?_⟩
    · refine ⟨(s.stored3 w).ended3, by rw [s.exec_checkpointWriteComplete w hw, s.completeWrite3_stored w (.inr he)], ?_, ?_,
        fun ⟨hp, ha, hf, free⟩ => (s.stored3 w).ended3_rests hp ha hf free, ?_⟩
      · rw [State.ended3_frame, State.stored3, if_pos he]
      · exact (s.stored3 w).entries_ended3
      · rw [State.ended3_frame]; rfl
    · obtain ⟨r, hr⟩ : ∃ r : State, r = s.contained .nvWriteFail none none (some (.sector 3)) := ⟨_, rfl⟩
      obtain ⟨_, _, _, _, _, _, _, _, _, _, _, frame⟩ := s.contained_lockdownOnly .nvWriteFail none none (some (.sector 3))
      have fails := s.checkpointsFail_failedAs
      rw [← hr] at frame fails
      refine ⟨r.ended3, by rw [s.exec_checkpointWriteFail w hw, s.failWrite3_erase w he, hr], fails, ?_, fun ⟨hp, ha, hf, free⟩ => ?_⟩
      · rw [r.entries_ended3, frame]
      · exact (r.ended3_rests (by rw [frame]; exact hp) (by rw [frame]; exact ha) (by rw [frame]; exact hf) (by rw [frame]; exact free)).1
  · refine ⟨?_, ?_⟩
    · refine ⟨_, s.exec_settingsComplete none hw, ?_, ?_⟩
      · rw [State.end1_frame]; rfl
      · rw [State.end1_frame]
    · obtain ⟨r, hr⟩ : ∃ r : State, r = s.contained .nvWriteFail none none (some (.sector 1)) := ⟨_, rfl⟩
      obtain ⟨_, _, _, _, _, _, _, _, _, _, _, frame⟩ := s.contained_lockdownOnly .nvWriteFail none none (some (.sector 1))
      have fails := s.settingsFail_failedAs
      rw [← hr] at frame fails
      refine ⟨r.end1, by rw [s.exec_settingsFail none hw, hr], fails, ?_⟩
      rw [r.end1_frame, frame]
  · refine ⟨?_, ?_⟩
    · obtain ⟨⟨v, frame⟩, count⟩ := additionsVoid_spec w.additions { s with store := { s.store with sec2 := .good c } }
      obtain ⟨r, hr⟩ : ∃ r : State, r = s.passed2 w c := ⟨_, rfl⟩
      have passed : r = _ := hr.trans frame
      refine ⟨r.end2, by rw [s.exec_keysComplete w hw, s.completeWrite2_void w c hc hv ht, hr], ?_, ?_, ?_, fun h => ?_, fun he free => ?_, ?_⟩
      · rw [r.end2_frame, passed]
      · rw [r.end2_frame, passed]
      · rw [r.end2_frame, passed]
      · refine (State.count_congr (congrArg State.events r.end2_frame :) _).trans ?_
        rw [hr]
        exact count h
      · rw [r.end2_erases (by rw [passed]; exact he) (by rw [passed]; exact free), passed]
        rfl
      · rw [r.end2_frame, passed]
    · obtain ⟨-, -, kept, -⟩ := s.keysFail_spec w
      have fails := s.keysFail_failedAs w
      have same := s.dropAdditions_void w hv
      rw [same] at kept fails
      simp only [State.keptPart, Prod.mk.injEq] at kept
      obtain ⟨-, -, counters, keys, -, -⟩ := kept
      exact ⟨_, by rw [s.exec_keysFail w hw hz, same], fails, keys, counters⟩
  · refine ⟨?_, ?_⟩
    · refine ⟨(s.stored3 w).ended3, by rw [s.exec_checkpointWriteComplete w hw, s.completeWrite3_stored w (.inl hv)], ?_, ?_, ?_, ?_,
        fun hw free => (s.stored3 w).ended3_erases hw free, ?_⟩
      · rw [State.ended3_frame, State.stored3, he]; rfl
      · exact (s.stored3 w).entries_ended3
      · rw [State.ended3_frame]; rfl
      · rw [State.ended3_frame]; rfl
      · rw [State.ended3_frame]; rfl
    · obtain ⟨r, hr⟩ : ∃ r : State, r = s.contained .checkpointFail w.named.2 w.named.1 none := ⟨_, rfl⟩
      obtain ⟨_, _, _, _, _, _, _, _, _, _, _, frame⟩ := s.contained_lockdownOnly .checkpointFail w.named.2 w.named.1 none
      obtain ⟨count, -⟩ := s.contained_events .checkpointFail w.named.2 w.named.1 none rfl
      have opState := s.contained_opState .checkpointFail w.named.2 w.named.1 none
      rw [← hr] at frame count opState
      refine ⟨r.ended3, by rw [s.exec_checkpointWriteFail w hw, s.failWrite3_void w he hv, hr], ?_, ?_, ?_, ?_, ?_⟩
      · rw [r.ended3_frame, frame]
      · rw [r.ended3_frame]; exact opState
      · rw [r.ended3_count, count]
      · rw [r.entries_ended3, frame]
      · rw [r.ended3_frame, frame]

end Sys2Proof.Machine
end

section
/-! PROOFS. Failures under STRICT (R53, R69, R158, R159, R191, R192): what LOCKDOWN leaves of the part's work, of the Holding Store and of the Lane
Priority Queue, and each failure up to it; it settles O33. -/

namespace Sys2Proof.Machine

/-! ### Containment under STRICT (R191, R192) -/

/-- Nothing is in hand: every context IDLE, every Pending Queue empty, the drain IDLE. -/
def Locked (u : State) : Prop :=
  u.opState = .lockdown ∧ (∀ i, u.ctx i = { phase := .idle, wrap := none }) ∧ (∀ i, (u.till i).queue = []) ∧ u.drain.state = .idle

/-- What containment makes of a part in an operating state. -/
def StrictContained (s u : State) : Prop :=
  (s.opState = .serving → Locked u) ∧ (s.opState = .starting → u.opState = .starting ∧ u.cause = true)
    ∧ (s.opState = .lockdown → u.opState = .lockdown)

theorem State.drainToIdle_idle (s : State) : s.drainToIdle.drain.state = .idle := by
  unfold State.drainToIdle
  split
  · assumption
  · rfl
  · rfl

theorem State.enterLockdown_drain (s : State) : s.enterLockdown.drain.state = .idle := by
  obtain ⟨v, hv⟩ : ∃ v : State, v = allTills.foldl (fun s i => s.refuseQueue i (.unavailable .lockdown))
      (allCtxs.foldl State.abandon { s with opState := .lockdown }) := ⟨_, rfl⟩
  have last : s.enterLockdown = v.drainToIdle := by rw [hv]; rfl
  rw [last]
  exact v.drainToIdle_idle

theorem State.contain_strict (s : State) (h : s.settings.store.policy = .strict) : StrictContained s s.contain := by
  refine ⟨fun serving => ?_, fun starting => ?_, fun lockdown => ?_⟩
  · obtain ⟨opState, ctxs, queues⟩ := s.enterLockdown_spec
    rw [s.contain_serving h serving]
    exact ⟨opState, ctxs, queues, s.enterLockdown_drain⟩
  · simp only [State.contain, h, starting, and_self]
  · rw [s.contain_lockdown lockdown]
    exact lockdown

/-- Containment is read off the operating state before, and the part's work after. -/
theorem StrictContained.congr {s s' c u : State} (h : StrictContained s' c) (before : s'.opState = s.opState)
    (after : u.containedPart = c.containedPart) : StrictContained s u := by
  simp only [State.containedPart, Prod.mk.injEq] at after
  obtain ⟨opState, cause, ctxs, tills, drain⟩ := after
  simpa only [StrictContained, Locked, State.ctx, State.till, before, opState, cause, ctxs, tills, drain] using h

/-! ### What LOCKDOWN leaves of the Holding Store (R169, R192) -/

/-- The records of the Holding Store are kept, whatever becomes of the drain's marks and of the requesters of queued operations. -/
def KeepsRecords (s t : State) : Prop :=
  ∃ (f : IndexLine → IndexLine) (g : StoreOp → StoreOp),
    t.holding = { s.holding with lines := s.holding.lines.map f, ops := s.holding.ops.map g }
      ∧ ∀ l, (f l).slot = l.slot ∧ (f l).head = l.head ∧ (f l).held = l.held ∧ (f l).freeing = l.freeing

theorem KeepsRecords.of_same {s t : State} (h : t.holding = s.holding) : KeepsRecords s t :=
  ⟨id, id, by rw [h, List.map_id, List.map_id], fun _ => ⟨rfl, rfl, rfl, rfl⟩⟩

theorem KeepsRecords.trans {s t u : State} (h : KeepsRecords s t) (h' : KeepsRecords t u) : KeepsRecords s u := by
  obtain ⟨f, g, first, same⟩ := h
  obtain ⟨f', g', second, same'⟩ := h'
  refine ⟨f' ∘ f, g' ∘ g, by rw [second, first, List.map_map, List.map_map], fun l => ?_⟩
  obtain ⟨slot, head, held, freeing⟩ := same' (f l)
  obtain ⟨slot', head', held', freeing'⟩ := same l
  exact ⟨slot.trans slot', head.trans head', held.trans held', freeing.trans freeing'⟩

theorem State.abandon_keepsRecords (s : State) (i : CtxIx) : KeepsRecords s (s.abandon i) :=
  ⟨id, StoreOp.disown i, by rw [s.abandon_frame, List.map_id], fun _ => ⟨rfl, rfl, rfl, rfl⟩⟩

theorem State.drainToIdle_keepsRecords (s : State) : KeepsRecords s s.drainToIdle := by
  unfold State.drainToIdle
  split
  · exact .of_same rfl
  · exact .of_same rfl
  · exact ⟨fun l => { l with draining := false, deadline := none }, id, by rw [List.map_id]; rfl, fun _ => ⟨rfl, rfl, rfl, rfl⟩⟩

theorem State.enterLockdown_keepsRecords (s : State) : KeepsRecords s s.enterLockdown := by
  have trans : ∀ a b c : State, KeepsRecords a b → KeepsRecords b c → KeepsRecords a c := fun _ _ _ => .trans
  have abandons : ∀ t : State, KeepsRecords t (allCtxs.foldl State.abandon t) :=
    foldl_rel KeepsRecords (fun _ => .of_same rfl) trans _ State.abandon_keepsRecords allCtxs
  have refuses : ∀ t : State, KeepsRecords t (allTills.foldl (fun s i => s.refuseQueue i (.unavailable .lockdown)) t) := fun t =>
    .of_same (congrArg State.holding (refuseQueues_repliesOnly allTills (.unavailable .lockdown) t).eq :)
  have locked : KeepsRecords s { s with opState := .lockdown } := .of_same rfl
  exact ((locked.trans (abandons _)).trans (refuses _)).trans (State.drainToIdle_keepsRecords _)

theorem State.contain_keepsRecords (s : State) : KeepsRecords s s.contain := by
  unfold State.contain
  split
  · exact .of_same rfl
  · split
    · exact s.enterLockdown_keepsRecords
    · exact .of_same rfl
    · exact .of_same rfl
    · exact .of_same rfl

/-! ### The Lane Priority Queue across refusals (R19, R134) -/

/-- The frames of the Lane Priority Queue are kept, more behind them. -/
def LaneGrows (s t : State) : Prop := ∃ more, t.lane.priority = s.lane.priority ++ more

theorem LaneGrows.of_same {s t : State} (h : t.lane = s.lane) : LaneGrows s t := ⟨[], by rw [h, List.append_nil]⟩

theorem LaneGrows.trans {s t u : State} (h : LaneGrows s t) (h' : LaneGrows t u) : LaneGrows s u := by
  obtain ⟨m, first⟩ := h
  obtain ⟨m', second⟩ := h'
  exact ⟨m ++ m', by rw [second, first, List.append_assoc]⟩

theorem State.offerLane_laneGrows (s : State) (b : Bytes) : LaneGrows s (s.offerLane b) := by
  unfold State.offerLane State.placePriority State.discardFrame
  split
  · split
    · exact ⟨[{ bytes := b, isReset := false }], rfl⟩
    · exact .of_same rfl
  · exact .of_same rfl

theorem State.localReply_laneGrows (s : State) (i : TillIx) (n ref : Nat) (p : ReturnPath) (r : LocalReply) :
    LaneGrows s (s.localReply i n ref p r) := by
  rw [s.localReply_eq]
  exact LaneGrows.trans (.of_same (s.countReply_lane i r)) (State.offerLane_laneGrows _ _)

theorem State.replyTo_laneGrows (s : State) (i : TillIx) (m : TillMsg) (x : LocalReply) : LaneGrows s (s.replyTo i m x) :=
  s.localReply_laneGrows i m.number m.reference m.path x

theorem State.refuseQueue_laneGrows (s : State) (i : TillIx) (x : LocalReply) : LaneGrows s (s.refuseQueue i x) := by
  have emptied : LaneGrows s (s.setTill i { s.till i with queue := [] }) := .of_same rfl
  have replies : ∀ (l : List TillMsg) (t : State), LaneGrows t (l.foldl (fun t m => t.replyTo i m x) t) :=
    foldl_rel LaneGrows (fun _ => .of_same rfl) (fun _ _ _ => .trans) _ (fun t m => t.replyTo_laneGrows i m x)
  exact emptied.trans (replies _ _)

theorem State.lane_drainToIdle (s : State) : s.drainToIdle.lane = s.lane :=
  (congrArg State.lane s.drainToIdle_frame :)

theorem State.enterLockdown_laneGrows (s : State) : LaneGrows s s.enterLockdown := by
  have trans : ∀ a b c : State, LaneGrows a b → LaneGrows b c → LaneGrows a c := fun _ _ _ => .trans
  have abandons : ∀ t : State, LaneGrows t (allCtxs.foldl State.abandon t) :=
    foldl_rel LaneGrows (fun _ => .of_same rfl) trans _ (fun t i => .of_same (congrArg State.lane (t.abandon_frame i) :)) allCtxs
  have refuses : ∀ t : State, LaneGrows t (allTills.foldl (fun s i => s.refuseQueue i (.unavailable .lockdown)) t) :=
    foldl_rel LaneGrows (fun _ => .of_same rfl) trans _ (fun t i => t.refuseQueue_laneGrows i _) allTills
  have locked : LaneGrows s { s with opState := .lockdown } := .of_same rfl
  have idle : ∀ t : State, LaneGrows t t.drainToIdle := fun t => .of_same t.lane_drainToIdle
  exact ((locked.trans (abandons _)).trans (refuses _)).trans (idle _)

theorem State.contain_laneGrows (s : State) : LaneGrows s s.contain := by
  unfold State.contain
  split
  · exact .of_same rfl
  · split
    · exact s.enterLockdown_laneGrows
    · exact .of_same rfl
    · exact .of_same rfl
    · exact .of_same rfl

/-- The frame of a local reply that finds the Lane port open. -/
theorem State.localReply_open (s : State) (i : TillIx) (n ref : Nat) (p : ReturnPath) (r : LocalReply) (h : s.laneOpen) :
    (s.localReply i n ref p r).lane.priority =
      s.lane.priority ++ [{ bytes := replyFrame p s.ipId (localReplyPayload r.kind n ref r.reason), isReset := false }] := by
  have still : (s.countReply i r).laneOpen := by rw [State.laneOpen, s.countReply_lane]; exact h
  rw [s.localReply_eq, State.offerLane_open _ _ still, s.countReply_lane]

/-! ### Operations of the Holding Store that fail under STRICT (R158, R159) -/

theorem State.afterOp_rests (s : State) (h : s.holding.format = .none) : s.afterOp = s := if_neg (by rw [h]; exact nofun)

theorem HoldingStore.makeBad_lines (h : HoldingStore) (n : Nat) (left : Option NvSlot) :
    (h.makeBad n left).lines = h.lines.filter (fun l => l.slot != n) := by
  rw [HoldingStore.makeBad, HoldingStore.leave_frame]
  rfl

theorem HoldingStore.makeBad_bad (h : HoldingStore) (n : Nat) (left : Option NvSlot) :
    (h.makeBad n left).bad = h.bad ++ [n] ∧ (h.makeBad n left).header.bad = h.header.bad ++ [n] := by
  rw [HoldingStore.makeBad, HoldingStore.leave_frame]
  exact ⟨rfl, rfl⟩

theorem HoldingStore.makeBad_queue (h : HoldingStore) (n : Nat) (left : Option NvSlot) :
    (h.makeBad n left).ops = h.ops ∧ (h.makeBad n left).format = h.format := by
  rw [HoldingStore.makeBad, HoldingStore.leave_frame]
  exact ⟨rfl, rfl⟩

/-- The state once a failed write's slot is BAD, the failure recorded and the charge released. -/
def State.slotFailed (s : State) (n : Nat) (r : HeldRecord) : State :=
  { s.raise .nvWriteFail (location := some (.holding n)) with
    free := s.free + 1, holding := s.holding.makeBad n (failedSlot n r (Config.cutOutcome s.free))
    standIn := s.standIn.release r.head.till r.head.weight r.head.fp }

/-- The hold note of a failed write is answered (R130). -/
def State.tellMatcher (s : State) (by_ : Requester) (r : HeldRecord) : State :=
  if by_ = .matcher then s.answerNote r.head.seq (.declined .storeFault) else s

theorem State.writeFailed_strict (s : State) (n : Nat) (by_ : Requester) (r : HeldRecord) (h : s.settings.store.policy = .strict) :
    s.writeFailed n by_ r = ((s.slotFailed n r).tellMatcher by_ r).contain := by
  cases by_ with
  | ctx i =>
    have strict : ¬ (s.slotFailed n r).settings.store.policy = .lenient := by
      rw [show (s.slotFailed n r).settings = s.settings from rfl, h]; exact nofun
    exact congrArg State.contain (if_neg strict)
  | matcher => rfl
  | drain => rfl
  | nobody => rfl

/-- What the answer to a hold note touches. -/
theorem State.tellMatcher_spec (s : State) (by_ : Requester) (r : HeldRecord) :
    (∃ holdNotes tills events lane ipId, s.tellMatcher by_ r =
        { s with holdNotes := holdNotes, tills := tills, events := events, lane := lane, ipId := ipId })
      ∧ SameFaults s (s.tellMatcher by_ r) := by
  unfold State.tellMatcher State.answerNote
  split
  · split
    · exact ⟨⟨_, _, _, _, _, rfl⟩, SameFaults.refl s⟩
    · rename_i o _
      have discarded : SameFaults s { s with holdNotes := s.holdNotes.filter (fun x => x.seq != r.head.seq) } := .of_events rfl
      obtain ⟨_, _, _, _, frame⟩ := State.localReply_repliesOnly { s with holdNotes := s.holdNotes.filter (fun x => x.seq != r.head.seq) }
        o.till o.number o.reference o.path (.declined .storeFault)
      exact ⟨⟨_, _, _, _, _, frame⟩, discarded.trans (State.localReply_sameFaults _ ..)⟩
  · exact ⟨⟨_, _, _, _, _, rfl⟩, SameFaults.refl s⟩

/-- The answer to a hold note that finds the Lane port open. -/
theorem State.tellMatcher_open (s : State) (r : HeldRecord) (o : HoldNote) (ho : s.holdNotes.find? (fun x => x.seq == r.head.seq) = some o)
    (h : s.laneOpen) :
    (s.tellMatcher .matcher r).holdNotes = s.holdNotes.filter (fun x => x.seq != r.head.seq)
      ∧ (s.tellMatcher .matcher r).lane.priority = s.lane.priority ++ [TxFrame.mk (replyFrame o.path s.ipId
          (be 1 1 ++ be 1 4 ++ be 2 o.number ++ be 4 o.reference ++ be 1 8)) false] := by
  have told : s.tellMatcher .matcher r =
      State.localReply { s with holdNotes := s.holdNotes.filter (fun x => x.seq != r.head.seq) } o.till o.number o.reference o.path
        (.declined .storeFault) := by
    rw [State.tellMatcher, if_pos rfl, State.answerNote, ho]
  rw [told]
  refine ⟨(congrArg State.holdNotes (State.localReply_repliesOnly _ ..).eq :), ?_⟩
  exact State.localReply_open { s with holdNotes := s.holdNotes.filter (fun x => x.seq != r.head.seq) } _ _ _ _ _ h

/-- The state once a failed free's record is taken for freeing no more, the failure recorded and the context answered. -/
def State.freeTold (s : State) (n : Nat) (by_ : Requester) : State :=
  let t := State.raise { s with holding := s.holding.mapLine n (fun l => { l with freeing := false }) } .nvWriteFail
    (location := some (.holding n))
  match by_ with
  | .ctx i => t.endHolding i (.refused .busy)
  | .matcher => t
  | .drain => t
  | .nobody => t

theorem State.freeFailed_eq (s : State) (n : Nat) (by_ : Requester) : s.freeFailed n by_ = (s.freeTold n by_).checkDrain.contain := rfl

theorem State.endHolding_spec (s : State) (i : CtxIx) (r : LocalReply) :
    (∃ ctxs tills events lane ipId, s.endHolding i r =
        { s with ctxs := ctxs, tills := tills, events := events, lane := lane, ipId := ipId })
      ∧ SameFaults s (s.endHolding i r) := by
  unfold State.endHolding
  split
  · exact ⟨⟨_, _, _, _, _, rfl⟩, SameFaults.refl s⟩
  · split
    · exact ⟨⟨_, _, _, _, _, rfl⟩, SameFaults.refl s⟩
    · rename_i w _ _ o _
      obtain ⟨_, _, _, _, replied⟩ := s.localReply_repliesOnly w.till o.number o.reference o.path r
      have idle := (s.localReply w.till o.number o.reference o.path r).ctxToIdle_frame i
      refine ⟨⟨_, _, _, _, _, by rw [idle, replied]⟩, (s.localReply_sameFaults w.till o.number o.reference o.path r).trans ?_⟩
      exact SameFaults.of_events (congrArg State.events idle :)

theorem State.freeTold_spec (s : State) (n : Nat) (by_ : Requester) :
    (∃ ctxs tills events lane ipId, s.freeTold n by_ = { s with
        holding := s.holding.mapLine n (fun l => { l with freeing := false })
        ctxs := ctxs, tills := tills, events := events, lane := lane, ipId := ipId })
      ∧ SameFaults (State.raise { s with holding := s.holding.mapLine n (fun l => { l with freeing := false }) } .nvWriteFail
          (location := some (.holding n))) (s.freeTold n by_) := by
  cases by_ with
  | ctx i =>
    obtain ⟨⟨_, _, _, _, _, frame⟩, same⟩ := State.endHolding_spec (State.raise { s with
      holding := s.holding.mapLine n (fun l => { l with freeing := false }) } .nvWriteFail (location := some (.holding n))) i (.refused .busy)
    exact ⟨⟨_, _, _, _, _, frame⟩, same⟩
  | matcher => exact ⟨⟨_, _, _, _, _, rfl⟩, SameFaults.refl _⟩
  | drain => exact ⟨⟨_, _, _, _, _, rfl⟩, SameFaults.refl _⟩
  | nobody => exact ⟨⟨_, _, _, _, _, rfl⟩, SameFaults.refl _⟩

/-- Some record is HELD, so the drain does not complete (R170). -/
theorem State.checkDrain_rests (s : State) (h : s.anyHeld = true) : s.checkDrain = s := if_neg fun empty => by simp [h] at empty

/-! ### The failures under STRICT, one by one -/

section

variable (s : State) (strict : s.settings.store.policy = .strict)
include strict

theorem State.contained_strict (e : EventCode) (till : Option TillIx) (slot : Option SlotIx) (location : Option Location) :
    StrictContained s (s.contained e till slot location) :=
  (s.raise e till slot location).contain_strict strict

/-- A failed sector 3 write (R53). -/
theorem State.checkpointFail_strict (w : Write3) (hw : s.counters.inFlight = some w) (he : w.erase = false) (hv : w.void = false) :
    exec .checkpointWriteFail s = .next (s.failed3 w).contain.ended3.settle
      ∧ StrictContained s (s.failed3 w).contain.ended3 := by
  obtain ⟨_, _, _, _, _, _, frame⟩ := s.failed3_frame w
  have policy : (s.failed3 w).settings.store.policy = .strict := by rw [frame]; exact strict
  have before : (s.failed3 w).opState = s.opState := by rw [frame]
  refine ⟨by rw [s.exec_checkpointWriteFail w hw, s.failWrite3_eq w he hv], ?_⟩
  generalize s.failed3 w = f at policy before
  exact (f.contain_strict policy).congr before (congrArg State.containedPart f.contain.ended3_frame :)

/-- A failed record write (R158, R130). -/
theorem State.recordWriteFail_strict (n : Nat) (by_ : Requester) (r : HeldRecord) (rest : List StoreOp)
    (ops : s.holding.ops = .write n by_ r :: rest) (format : s.holding.format = .none) (free : s.erasing = false) :
    exec .recordWriteFail s = .next ((s.endOp.slotFailed n r).tellMatcher by_ r).contain.settle := by
  obtain ⟨t, ht⟩ : ∃ t : State, t = (s.endOp.slotFailed n r).tellMatcher by_ r := ⟨_, rfl⟩
  have inFlight : s.opInFlight = some (.write n by_ r) := by
    rw [State.opInFlight, if_neg (by rw [format, free]; decide), ops]; rfl
  obtain ⟨⟨_, _, _, _, _, told⟩, -⟩ := (s.endOp.slotFailed n r).tellMatcher_spec by_ r
  obtain ⟨_, _, kept, -⟩ := t.contain_keepsRecords
  rw [← ht] at told
  have rests : t.contain.holding.format = .none := by
    rw [kept, told]
    exact (s.endOp.holding.makeBad_queue n _).2.trans format
  simp only [exec, execRecordWriteFail, inFlight]
  rw [s.endOp.writeFailed_strict n by_ r strict, ← ht, t.contain.afterOp_rests rests]

end

/-- A failed free whose record is HELD (R159). -/
theorem State.exec_recordFreeFail (s : State) (n : Nat) (by_ : Requester) (rest : List StoreOp) (l : IndexLine) (ops : s.holding.ops = .free n by_ :: rest)
    (format : s.holding.format = .none) (free : s.erasing = false) (hl : s.holding.lines.find? (fun x => x.slot == n) = some l)
    (held : l.held = true) : exec .recordFreeFail s = .next (s.endOp.freeTold n by_).contain.settle := by
  obtain ⟨t, ht⟩ : ∃ t : State, t = s.endOp.freeTold n by_ := ⟨_, rfl⟩
  have inFlight : s.opInFlight = some (.free n by_) := by
    rw [State.opInFlight, if_neg (by rw [format, free]; decide), ops]; rfl
  obtain ⟨⟨_, _, _, _, _, told⟩, -⟩ := s.endOp.freeTold_spec n by_
  obtain ⟨_, _, kept, -⟩ := t.contain_keepsRecords
  rw [← ht] at told
  have anyHeld : t.anyHeld = true := by
    rw [told]
    refine List.any_eq_true.2 ⟨_, List.mem_map.2 ⟨l, List.mem_of_find?_eq_some hl, rfl⟩, ?_⟩
    split <;> exact held
  have rests : t.contain.holding.format = .none := by
    rw [kept, told]
    exact format
  simp only [exec, execRecordFreeFail, inFlight]
  rw [s.endOp.freeFailed_eq n by_, ← ht, t.checkDrain_rests anyHeld, t.contain.afterOp_rests rests]

/-- Settles O33: the failures of sectors 3, 1 and 2, of the zeroisation erase, of a record write and of a free. -/
theorem strictFailuresEnterLockdown : Obligations.StrictFailuresEnterLockdown := by
  unfold Obligations.StrictFailuresEnterLockdown
  intro locked contained recorded
  refine ⟨fun s w strict hw he hv => ?_, fun s c strict hw => ?_, fun s w c strict hw hc hv hz => ?_, fun s w strict hw hz none => ?_,
    fun s n by_ r rest strict ops format free => ?_, fun s n by_ rest l strict ops format free hl held => ?_⟩
  · obtain ⟨runs, contains⟩ := s.checkpointFail_strict strict w hw he hv
    obtain ⟨f, hf⟩ : ∃ f : State, f = s.failed3 w := ⟨_, rfl⟩
    obtain ⟨r, hr⟩ : ∃ r : State, r = s.raise .checkpointFail (till := w.named.2) (slot := w.named.1) := ⟨_, rfl⟩
    obtain ⟨counted, fault⟩ := s.failed3_events w
    obtain ⟨_, _, _, _, _, _, frame⟩ := s.failed3_frame w
    obtain ⟨sameFault, sameCount⟩ := f.contain_sameFaults
    obtain ⟨_, _, _, _, _, _, _, _, _, _, _, locks⟩ := f.contain_lockdownOnly
    have ctr : ∀ k i, f.contain.ended3.ctr k i = (r.marked3 w).ctr k i := fun k i => by
      rw [f.contain.ctr_ended3, hr, ← s.ctr_failed3, ← hf, locks]; rfl
    have slot : ∀ k, f.contain.ended3.slot k = (r.marked3 w).slot k := fun k => by
      rw [f.contain.ended3_slot, hr, ← s.slot_failed3, ← hf, locks]; rfl
    have entry : ∀ k i, r.ctr k i = s.ctr k i := fun k i => by rw [hr]; rfl
    rw [← hf] at runs contains counted fault frame
    refine ⟨f.contain.ended3, runs, contains, ?_, ?_, fun k i => ?_, fun k i h => ?_, fun k i h ha => ?_, fun k h => ?_, fun none => ?_, ?_⟩
    · rw [f.contain.ended3_frame, locks, frame]
    · rw [f.contain.ended3_count, sameCount _ (by decide), counted]
    · rw [ctr, (r.ctr_marked3_values w k i).1, (r.ctr_marked3_values w k i).2, entry]
      exact ⟨rfl, rfl⟩
    · rw [ctr, r.ctr_marked3_raise w k i h]
      exact ⟨rfl, rfl⟩
    · rw [ctr, r.ctr_marked3_other w k i h ha, entry]
    · rw [slot, r.slot_marked3 w k h]
    · refine ⟨{ code := .checkpointFail, till := w.named.2, slot := w.named.1, location := .none, further := 0 }, ?_, rfl, rfl, rfl,
        fun raises => ?_⟩
      · rw [f.contain.ended3_frame]
        exact sameFault.trans (fault none)
      · obtain ⟨k, i, mem, least, named⟩ := w.named_raises raises
        exact ⟨k, i, mem, least, by rw [named], by rw [named]⟩
    · rw [f.contain.ended3_frame, locks, frame]
      exact ⟨rfl, rfl, rfl⟩
  · obtain ⟨r, hr⟩ : ∃ r : State, r = s.contained .nvWriteFail none none (some (.sector 1)) := ⟨_, rfl⟩
    have events := s.contained_events .nvWriteFail none none (some (.sector 1)) rfl
    have holds := s.contained_strict strict .nvWriteFail none none (some (.sector 1))
    obtain ⟨_, _, _, _, _, _, _, _, _, _, _, frame⟩ := s.contained_lockdownOnly .nvWriteFail none none (some (.sector 1))
    rw [← hr] at events holds frame
    refine ⟨r.end1, by rw [s.exec_settingsFail c hw, hr], holds.congr rfl (congrArg State.containedPart r.end1_frame :), ?_, ?_, ?_, ?_, ?_,
      ?_, ?_⟩
    · rw [r.end1_frame, frame]
    · rw [r.end1_frame]; exact events
    all_goals rw [r.end1_frame, frame]
  · intro slots
    obtain ⟨count, fault, kept, work⟩ := s.keysFail_spec w
    have holds := fun u keys => s.dropAdditions_released u w hv keys
    obtain ⟨_, dropped⟩ := s.dropAdditions_frame w
    have policy : (s.dropAdditions w).settings.store.policy = .strict := by rw [dropped]; exact strict
    have contains := (s.dropAdditions w).contained_strict policy .nvWriteFail none w.slot? (some (.sector 2))
    have before : (s.dropAdditions w).opState = s.opState := by rw [dropped]
    have runs := s.exec_keysFail w hw hz
    generalize ((s.dropAdditions w).contained .nvWriteFail none w.slot? (some (.sector 2))).end2 = u at *
    simp only [State.keptPart, Prod.mk.injEq] at kept
    obtain ⟨store, settings, counters, keys, standIn, outstanding⟩ := kept
    obtain ⟨released, others, fp, floor⟩ := holds u keys
    rw [dropped] at store settings counters standIn outstanding
    exact ⟨u, runs, contains.congr before work, store, ⟨count, fault⟩, fp, floor, released, others, settings, counters, standIn, outstanding⟩
  · have same : s.dropAdditions w = s := by
      unfold State.dropAdditions
      rw [none]
      exact ite_self s
    have unnamed : w.slot? = .none := by rw [Write2.slot?, none]; rfl
    obtain ⟨r, hr⟩ : ∃ r : State, r = s.contained .nvWriteFail .none .none (some (.sector 2)) := ⟨_, rfl⟩
    have events := s.contained_events .nvWriteFail .none .none (some (.sector 2)) rfl
    have holds := s.contained_strict strict .nvWriteFail .none .none (some (.sector 2))
    obtain ⟨_, _, _, _, _, _, _, _, _, _, _, frame⟩ := s.contained_lockdownOnly .nvWriteFail .none .none (some (.sector 2))
    have runs : exec (.sectorWriteFail .keys) s = .next r.settle := by
      simp only [exec, execSectorWriteFail, hw, hz, if_true, State.failWrite2, same, unnamed, hr, State.contained]
    rw [← hr] at events holds frame
    refine ⟨r, runs, holds, ?_, ?_, events, ?_⟩
    all_goals rw [frame]
  · have runs := s.recordWriteFail_strict strict n by_ r rest ops format free
    have answered := fun o ho open_ => s.endOp.slotFailed n r |>.tellMatcher_open r o ho open_
    have failed : SameFaults (s.raise .nvWriteFail none none (some (.holding n))) (s.endOp.slotFailed n r) := .of_events rfl
    obtain ⟨⟨_, _, _, _, _, told⟩, same⟩ := (s.endOp.slotFailed n r).tellMatcher_spec by_ r
    obtain ⟨bad, header⟩ := s.endOp.holding.makeBad_bad n (failedSlot n r (Config.cutOutcome s.free))
    obtain ⟨queue, -⟩ := s.endOp.holding.makeBad_queue n (failedSlot n r (Config.cutOutcome s.free))
    have lines := s.endOp.holding.makeBad_lines n (failedSlot n r (Config.cutOutcome s.free))
    obtain ⟨t, ht⟩ : ∃ t : State, t = (s.endOp.slotFailed n r).tellMatcher by_ r := ⟨_, rfl⟩
    rw [← ht] at runs told same
    have policy : t.settings.store.policy = .strict := by rw [told]; exact strict
    have before : t.opState = s.opState := by rw [told]; rfl
    have holding : t.holding = s.endOp.holding.makeBad n (failedSlot n r (Config.cutOutcome s.free)) := by rw [told]; rfl
    obtain ⟨f, g, kept, marks⟩ := t.contain_keepsRecords
    obtain ⟨_, _, _, _, _, _, _, _, _, _, _, locks⟩ := t.contain_lockdownOnly
    obtain ⟨more, grows⟩ := t.contain_laneGrows
    refine ⟨t.contain, runs, (t.contain_strict policy).congr before rfl, ((failed.trans same).trans t.contain_sameFaults).recorded rfl, ?_, ?_,
      ?_, fun x hx => ?_, ?_, fun o hby ho open_ => ?_⟩
    · rw [kept, holding]; exact bad
    · rw [kept, holding]; exact header
    · rw [kept, holding, List.length_map, queue, State.endOp, ops]; rfl
    · rw [kept, holding, lines] at hx
      obtain ⟨l, hl, rfl⟩ := List.mem_map.1 hx
      rw [(marks l).1]
      exact bne_iff_ne.1 (List.mem_filter.1 hl).2
    · rw [locks, told]; rfl
    · obtain ⟨notes, frames⟩ := answered o ho open_
      rw [← hby, ← ht] at notes frames
      refine ⟨by rw [locks]; exact notes, more, ?_⟩
      rw [grows, frames, List.append_assoc]
      rfl
  · have runs := s.exec_recordFreeFail n by_ rest l ops format free hl held
    obtain ⟨⟨_, _, _, _, _, told⟩, same⟩ := s.endOp.freeTold_spec n by_
    obtain ⟨t, ht⟩ : ∃ t : State, t = s.endOp.freeTold n by_ := ⟨_, rfl⟩
    rw [← ht] at runs told same
    have recorded : SameFaults (s.raise .nvWriteFail none none (some (.holding n))) t :=
      have freed : SameFaults (s.raise .nvWriteFail none none (some (.holding n))) (State.raise { s.endOp with
        holding := s.endOp.holding.mapLine n (fun l => { l with freeing := false }) } .nvWriteFail none none (some (.holding n))) := .of_events rfl
      freed.trans same
    have policy : t.settings.store.policy = .strict := by rw [told]; exact strict
    have before : t.opState = s.opState := by rw [told]; rfl
    have holding : t.holding = s.endOp.holding.mapLine n (fun l => { l with freeing := false }) := by rw [told]
    obtain ⟨f, g, kept, marks⟩ := t.contain_keepsRecords
    obtain ⟨_, _, _, _, _, _, _, _, _, _, _, locks⟩ := t.contain_lockdownOnly
    refine ⟨t.contain, runs, (t.contain_strict policy).congr before rfl, (recorded.trans t.contain_sameFaults).recorded rfl, ?_, ?_, ?_, ?_⟩
    · rw [kept, holding]; rfl
    · rw [kept, holding, List.length_map]
      exact congrArg List.length (congrArg (List.drop 1) ops)
    · have slot : l.slot = n := by simpa using List.find?_some hl
      obtain ⟨same, head, isHeld, freeing⟩ := marks { l with freeing := false }
      refine ⟨f { l with freeing := false }, ?_, same.trans slot, head, isHeld.trans held, freeing⟩
      rw [kept, holding]
      exact List.mem_map_of_mem (List.mem_map.2 ⟨l, List.mem_of_find?_eq_some hl, if_pos slot⟩)
    · rw [locks, told]; rfl

end Sys2Proof.Machine
end

section
/-! PROOFS. The expiry of a reply window (R46, R127 to R131): what the failure it counts leaves of the Holding Store and of the stand-in decision, and
the till's answer; it settles O42. -/

namespace Sys2Proof.Machine

/-! ### What a failure leaves (R141, R167) -/

/-- The index lines keep their slots, and the rest of the Holding Store is as it was. -/
def KeepsSlots (s t : State) : Prop :=
  ∃ f : IndexLine → IndexLine, t.holding = { s.holding with lines := s.holding.lines.map f } ∧ ∀ l, (f l).slot = l.slot

theorem KeepsSlots.of_same {s t : State} (h : t.holding = s.holding) : KeepsSlots s t := ⟨id, by rw [h, List.map_id], fun _ => rfl⟩

theorem State.leaveRunning_keepsSlots (s : State) : KeepsSlots s s.leaveRunning := by
  by_cases h : s.drain.state = .running
  · rw [s.leaveRunning_of_running h]
    exact ⟨fun l => { l with draining := false, deadline := none }, rfl, fun _ => rfl⟩
  · rw [s.leaveRunning_of_not_running h]
    exact .of_same rfl

theorem State.linkFailure_keepsSlots (s : State) : KeepsSlots s s.linkFailure := by
  have run : ∀ (t : State) (n : Nat), (t.failureRun n).holding = t.holding := fun t n => (congrArg State.holding (t.failureRun_eq n) :)
  unfold State.linkFailure
  split
  · obtain ⟨f, holding, slots⟩ := State.leaveRunning_keepsSlots { s with link := { s.link with settleTimer := none, settled := false } }
    exact ⟨f, (run s.leaveUp 1).trans holding, slots⟩
  · exact .of_same (run _ _)
  · exact .of_same rfl
  · exact .of_same rfl

/-- What a failure makes of the link depends on the link and its settings alone. -/
theorem State.linkFailure_link (s t : State) (hl : t.link = s.link) (hs : t.settings = s.settings) : t.linkFailure.link = s.linkFailure.link := by
  have run : ∀ (a b : State) (n : Nat), a.link = b.link → a.settings = b.settings → (a.failureRun n).link = (b.failureRun n).link := by
    intro a b n hl hs
    unfold State.failureRun
    rw [hs]
    split <;> simp [State.setLink, hl]
  have leave : ∀ a : State, a.leaveUp.link = { a.link with settleTimer := none, settled := false } ∧ a.leaveUp.settings = a.settings := by
    intro a
    unfold State.leaveUp State.leaveRunning
    split <;> exact ⟨rfl, rfl⟩
  unfold State.linkFailure
  rw [hl]
  split
  · exact run _ _ _ (by rw [(leave t).1, (leave s).1, hl]) (by rw [(leave t).2, (leave s).2, hs])
  · exact run _ _ _ hl hs
  · exact hl
  · simp only [State.setLink, hl]

/-! ### The stand-in decision (R146, R147, R156) -/

/-- The usable slot is read off the slots in use, the bad and the claimed ones, and the next sequence number. -/
theorem HoldingStore.usableSlot_map (h : HoldingStore) (f : IndexLine → IndexLine) (hf : ∀ l, (f l).slot = l.slot) :
    ({ h with lines := h.lines.map f } : HoldingStore).usableSlot = h.usableSlot := by
  have first : ∀ fuel n : Nat, ({ h with lines := h.lines.map f } : HoldingStore).firstFree fuel n = h.firstFree fuel n := by
    intro fuel
    induction fuel with
    | zero => intro n; rfl
    | succ fuel ih =>
      intro n
      have used : (h.lines.map f).any (fun l => l.slot == n) = h.lines.any (fun l => l.slot == n) := by
        rw [List.any_map]
        exact congrArg h.lines.any (funext fun l => by rw [Function.comp_apply, hf])
      unfold HoldingStore.firstFree
      rw [used, ih]
  unfold HoldingStore.usableSlot
  rw [first]

/-- The decision depends on the charges, the settings, the fingerprint key record and its loading, and the usable slot. -/
theorem State.standInOutcome_congr (s t : State) (r : StandInRequest) (standIn : t.standIn = s.standIn) (settings : t.settings = s.settings)
    (fp : t.keys.fp = s.keys.fp) (writer2 : t.writer2 = s.writer2) (usable : t.holding.usableSlot = s.holding.usableSlot) :
    t.standInOutcome r = s.standInOutcome r := by
  have checkable : t.cardCheckable r.fp = s.cardCheckable r.fp := by
    unfold State.cardCheckable State.usableFp State.fpLoading
    rw [fp, writer2]
  have refusal : ∀ w, t.standInRefusal r w = s.standInRefusal r w := fun w => by
    unfold State.standInRefusal State.cardEntry State.profile
    rw [checkable, standIn, settings, usable]
  simp only [State.standInOutcome, refusal, usable]

/-! ### The state in which the till is answered (R65, R127) -/

/-- The entry removed, the failure taken, REPLY-EXPIRED counted. -/
def State.expired (s : State) (e : OutEntry) : State := ((s.removeEntry e).linkFailure).raise .replyExpired (till := some e.till)

theorem State.expireEntry_eq (s : State) (e : OutEntry) : s.expireEntry e = (s.expired e).answerExpiry e := rfl

/-- The list without the entry. -/
def State.withoutEntry (s : State) (e : OutEntry) : State :=
  { s with outstanding := s.outstanding.eraseP (fun x => x.till == e.till && x.reference == e.reference) }

theorem State.dropPrevious_fp (s : State) (k : SlotIx) (gen : Nat) : (s.dropPrevious k gen).keys.fp = s.keys.fp := by
  unfold State.dropPrevious
  split
  · rfl
  · split
    · rfl
    · split <;> rfl

/-- The entry gone, and the previous record it alone needed. -/
def State.entryGone (s : State) (e : OutEntry) : State := (s.withoutEntry e).dropPrevious e.slot e.gen

theorem State.entryGone_frame (s : State) (e : OutEntry) : s.entryGone e = { s with
    outstanding := s.outstanding.eraseP (fun x => x.till == e.till && x.reference == e.reference), keys := (s.entryGone e).keys } :=
  State.dropPrevious_frame (s.withoutEntry e) e.slot e.gen

theorem State.expired_eq (s : State) (e : OutEntry) (alone : s.placeWait = []) :
    s.expired e = ((s.entryGone e).linkFailure).raise .replyExpired (till := some e.till) := by
  rw [State.expired, s.removeEntry_alone e alone]
  rfl

section

variable (s : State) (e : OutEntry) (alone : s.placeWait = [])
include alone

theorem State.expired_frame : ∃ link drain events waitOrder holding, s.expired e = { s with
    outstanding := s.outstanding.eraseP (fun x => x.till == e.till && x.reference == e.reference), keys := (s.entryGone e).keys
    link := link, drain := drain, events := events, waitOrder := waitOrder, holding := holding } := by
  have frame := s.entryGone_frame e
  rw [s.expired_eq e alone]
  generalize s.entryGone e = d at frame
  obtain ⟨link, drain, events, waitOrder, holding, failed⟩ := d.linkFailure_linkOnly
  refine ⟨link, drain, events.after .replyExpired (some e.till) none none, waitOrder, holding, ?_⟩
  rw [failed, frame]
  rfl

theorem State.expired_link : (s.expired e).link = s.linkFailure.link := by
  have frame := s.entryGone_frame e
  rw [s.expired_eq e alone]
  exact s.linkFailure_link (s.entryGone e) (by rw [frame]) (by rw [frame])

theorem State.expired_count : (s.expired e).count .replyExpired = min (s.count .replyExpired + 1) 65535 := by
  have events : (s.entryGone e).events = s.events := (congrArg State.events (s.entryGone_frame e) :)
  rw [s.expired_eq e alone, State.count_raise_self, State.count_linkFailure _ (by decide), State.count_congr events]
  rfl

theorem State.expired_keepsSlots : KeepsSlots s (s.expired e) := by
  have holding : (s.entryGone e).holding = s.holding := (congrArg State.holding (s.entryGone_frame e) :)
  obtain ⟨f, lines, slots⟩ := (s.entryGone e).linkFailure_keepsSlots
  rw [holding] at lines
  rw [s.expired_eq e alone]
  exact ⟨f, lines, slots⟩

/-- The stand-in decision is the one the state before the expiry would make. -/
theorem State.expired_standInOutcome (r : StandInRequest) : (s.expired e).standInOutcome r = s.standInOutcome r := by
  obtain ⟨_, _, _, _, _, frame⟩ := s.expired_frame e alone
  obtain ⟨f, lines, slots⟩ := s.expired_keepsSlots e alone
  have fp : (s.entryGone e).keys.fp = s.keys.fp := State.dropPrevious_fp (s.withoutEntry e) e.slot e.gen
  refine State.standInOutcome_congr s _ r (by rw [frame]) (by rw [frame]) (by rw [frame]; exact fp) (by rw [frame]) ?_
  rw [lines]
  exact s.holding.usableSlot_map f slots

end

/-! ### The answer (R127 to R130) -/

theorem mem_putLine (x : IndexLine) (l : List IndexLine) : x ∈ putLine x l := by
  induction l with
  | nil => exact List.mem_singleton.2 rfl
  | cons a l ih =>
    unfold putLine
    split
    · exact List.mem_cons_of_mem _ ih
    · exact List.mem_cons_self

/-- The request an expiry makes of the Stand-in Unit (R129). -/
def State.expiryRequest (s : State) (e : OutEntry) : StandInRequest :=
  { kind := e.kind, amount := e.amount.getD 0, risk := (s.profile e.profileIx).risk, till := e.till, profileIx := e.profileIx, fp := e.fp }

/-- The state an acceptance leaves (R130). -/
def State.noted (s : State) (e : OutEntry) (slot weight : Nat) (copy : Bytes) : State :=
  let t := s.acceptStandIn (s.expiryRequest e) weight slot
  State.requestWrite { t with holdNotes := t.holdNotes ++
      [{ seq := t.holding.next, till := e.till, number := e.number, reference := e.reference, path := e.path }] } slot .matcher
    (heldRecord (s.expiryRequest e) e.number e.reference weight true copy)

section

variable (s : State) (e : OutEntry)

theorem State.answerExpiry_timedOut (h : e.copy = none ∨ s.opState ≠ .serving) :
    s.answerExpiry e = s.localReply e.till e.number e.reference e.path .timedOut := by
  unfold State.answerExpiry
  split
  · rfl
  · rename_i hc
    exact if_neg (h.resolve_left (by rw [hc]; exact nofun))

theorem State.answerExpiry_serving (copy : Bytes) (hc : e.copy = some copy) (serving : s.opState = .serving) :
    s.answerExpiry e = s.standInOnExpiry e copy := by
  simp only [State.answerExpiry, hc, serving, if_true]

theorem State.standInOnExpiry_barred (copy : Bytes) (hk : e.kind = .refund) (barred : (s.profile e.profileIx).refundsAllowed = false) :
    s.standInOnExpiry e copy = s.localReply e.till e.number e.reference e.path (.declined .refundOffline) :=
  if_pos ⟨hk, by rw [barred]; rfl⟩

/-- The decision of an expiry whose refund is not barred (R129). -/
theorem State.standInOnExpiry_decided (copy : Bytes) (allowed : e.kind = .refund → (s.profile e.profileIx).refundsAllowed = true) :
    s.standInOnExpiry e copy = match s.standInOutcome (s.expiryRequest e) with
      | .inl x => s.localReply e.till e.number e.reference e.path (.declined x)
      | .inr (slot, weight) => s.noted e slot weight copy := by
  have free : ¬ (e.kind = .refund ∧ (!(s.profile e.profileIx).refundsAllowed) = true) := fun ⟨hk, barred⟩ => by
    rw [allowed hk] at barred; cases barred
  exact if_neg free

theorem State.answerExpiry_declined (copy : Bytes) (x : DeclineReason) (hc : e.copy = some copy) (serving : s.opState = .serving)
    (h : e.kind = .refund ∧ (s.profile e.profileIx).refundsAllowed = false ∧ x = .refundOffline
      ∨ (e.kind = .refund → (s.profile e.profileIx).refundsAllowed = true) ∧ s.standInOutcome (s.expiryRequest e) = .inl x) :
    s.answerExpiry e = s.localReply e.till e.number e.reference e.path (.declined x) := by
  rw [s.answerExpiry_serving e copy hc serving]
  rcases h with ⟨hk, barred, rfl⟩ | ⟨allowed, declined⟩
  · exact s.standInOnExpiry_barred e copy hk barred
  · rw [s.standInOnExpiry_decided e copy allowed, declined]

theorem State.answerExpiry_accepted (copy : Bytes) (slot weight : Nat) (hc : e.copy = some copy) (serving : s.opState = .serving)
    (allowed : e.kind = .refund → (s.profile e.profileIx).refundsAllowed = true)
    (h : s.standInOutcome (s.expiryRequest e) = .inr (slot, weight)) : s.answerExpiry e = s.noted e slot weight copy := by
  rw [s.answerExpiry_serving e copy hc serving, s.standInOnExpiry_decided e copy allowed, h]

/-- Only what an answer or an acceptance touches differs, and REPLY-EXPIRED is not counted again. -/
def AnswersOnly (s t : State) : Prop :=
  ∃ tills events lane ipId standIn holding holdNotes, t = { s with
      tills := tills, events := events, lane := lane, ipId := ipId, standIn := standIn, holding := holding, holdNotes := holdNotes }
    ∧ t.count .replyExpired = s.count .replyExpired

theorem State.localReply_answersOnly (x : LocalReply) : AnswersOnly s (s.localReply e.till e.number e.reference e.path x) := by
  obtain ⟨_, _, _, _, frame⟩ := s.localReply_repliesOnly e.till e.number e.reference e.path x
  exact ⟨_, _, _, _, _, _, _, frame, s.count_localReply _ _ _ _ x (by cases x <;> exact nofun) (by decide) (by decide)⟩

theorem State.noted_answersOnly (slot weight : Nat) (copy : Bytes) : AnswersOnly s (s.noted e slot weight copy) := by
  refine ⟨_, _, _, _, _, _, _, rfl, ?_⟩
  exact State.count_raise_ne _ _ _ _ (by decide)

theorem State.answerExpiry_answersOnly : AnswersOnly s (s.answerExpiry e) := by
  unfold State.answerExpiry
  split
  · exact s.localReply_answersOnly e _
  · rename_i copy _
    split
    · by_cases barred : e.kind = .refund ∧ (s.profile e.profileIx).refundsAllowed = false
      · rw [s.standInOnExpiry_barred e copy barred.1 barred.2]
        exact s.localReply_answersOnly e _
      · rw [s.standInOnExpiry_decided e copy fun hk => Bool.eq_true_of_not_eq_false fun h => barred ⟨hk, h⟩]
        split
        · exact s.localReply_answersOnly e _
        · exact s.noted_answersOnly e _ _ copy
    · exact s.localReply_answersOnly e _

end

/-- The frame of an answer, and what it leaves, where the Lane port is open. -/
theorem State.localReply_spec (s : State) (i : TillIx) (n ref : Nat) (p : ReturnPath) (r : LocalReply) (h : s.laneOpen) :
    (s.localReply i n ref p r).lane.priority =
        s.lane.priority ++ [{ bytes := replyFrame p s.ipId (localReplyPayload r.kind n ref r.reason), isReset := false }]
      ∧ (s.localReply i n ref p r).standIn = s.standIn ∧ (s.localReply i n ref p r).holding = s.holding
      ∧ (s.localReply i n ref p r).holdNotes = s.holdNotes := by
  refine ⟨s.localReply_open i n ref p r h, ?_⟩
  obtain ⟨_, _, _, _, frame⟩ := s.localReply_repliesOnly i n ref p r
  rw [frame]
  exact ⟨rfl, rfl, rfl⟩

/-- Settles O42: an entry that is gone, then the entry's removal, and the answer by the copy, the operating state and the decision. -/
theorem replyWindowExpiryAnswersTheTill : Obligations.ReplyWindowExpiryAnswersTheTill := by
  refine ⟨fun s till reference h => ?_, fun s till reference e he alone => ?_⟩
  · simp only [exec, execReplyWindowExpiry, h]
  · intro p request
    obtain ⟨rfl, rfl⟩ : e.till = till ∧ e.reference = reference := by simpa using List.find?_some he
    obtain ⟨x, hx⟩ : ∃ x : State, x = s.expired e := ⟨_, rfl⟩
    have link := s.expired_link e alone
    have count := s.expired_count e alone
    have outcome := s.expired_standInOutcome e alone request
    have answers := x.answerExpiry_answersOnly e
    obtain ⟨f, kept, -⟩ := s.expired_keepsSlots e alone
    obtain ⟨_, _, _, _, _, frame⟩ := s.expired_frame e alone
    obtain ⟨needed, dropped⟩ := (s.withoutEntry e).dropPrevious_keys e.slot e.gen
    rw [← hx] at link count outcome kept frame
    have ops : x.holding.ops = s.holding.ops := by rw [kept]
    have profile : ∀ i, x.profile i = s.profile i := fun i => by rw [frame]; rfl
    have same : x.expiryRequest e = request := by rw [State.expiryRequest, profile]
    have still : s.laneOpen → x.laneOpen := fun h => by rw [frame]; exact h
    have serves : x.opState = s.opState := by rw [frame]
    have lane : x.lane = s.lane := by rw [frame]
    obtain ⟨u, hu⟩ : ∃ u : State, u = x.answerExpiry e := ⟨_, rfl⟩
    rw [← hu] at answers
    obtain ⟨_, _, _, _, _, _, _, answered, expired⟩ := answers
    have outstanding : u.outstanding = (s.withoutEntry e).outstanding := by rw [answered, frame]; rfl
    have keys : u.keys = (s.entryGone e).keys := by rw [answered, frame]
    have slot : ∀ k, u.slot k = (s.entryGone e).slot k := fun k => by rw [State.slot, keys, State.slot]
    refine ⟨u, ?_, outstanding, ?_, ?_, ?_, ?_, ?_, ?_, ?_, fun h => ?_, fun h => ?_, fun h open_ => ?_, fun copy d hc serving h open_ => ?_,
      fun copy n weight hc serving allowed h => ?_⟩
    · simp only [exec, execReplyWindowExpiry, he]
      rw [s.expireEntry_eq, hu, hx]
    · rw [answered]; exact link
    · exact expired.trans count
    · rw [answered, frame]
    · rw [answered, frame]
    · rw [answered]; exact serves
    · rw [answered, frame]
    · rw [answered, frame]
    · rw [outstanding] at h
      exact keys.trans (needed h)
    · rw [outstanding] at h
      obtain ⟨fp, floor, others, gone, stays⟩ := dropped fun ⟨y, hy, hk, hg⟩ => h y hy hk hg
      rw [keys, slot]
      exact ⟨fp, floor, fun k hk => (slot k).trans (others k hk), gone, stays⟩
    · have timedOut : u = _ := hu.trans (x.answerExpiry_timedOut e (by rw [serves]; exact h))
      obtain ⟨frames, standIn, holding, notes⟩ := x.localReply_spec e.till e.number e.reference e.path .timedOut (still open_)
      rw [← timedOut] at frames standIn holding notes
      rw [frames, standIn, holding, notes, ops, frame]
      exact ⟨rfl, rfl, rfl, rfl⟩
    · have declined : u = _ := hu.trans (x.answerExpiry_declined e copy d hc (serves.trans serving)
        (by rw [profile, same, outcome]; exact h))
      obtain ⟨frames, standIn, holding, notes⟩ := x.localReply_spec e.till e.number e.reference e.path (.declined d) (still open_)
      rw [← declined] at frames standIn holding notes
      rw [frames, standIn, holding, notes, ops, frame]
      exact ⟨rfl, rfl, rfl, rfl⟩
    · have accepted : u = _ := hu.trans (x.answerExpiry_accepted e copy n weight hc (serves.trans serving)
        (by rw [profile]; exact allowed) (by rw [same, outcome]; exact h))
      have next : x.holding.next = s.holding.next := by rw [kept]
      have charges : x.standIn = s.standIn := by rw [frame]
      have notes : x.holdNotes = s.holdNotes := by rw [frame]
      rw [accepted, ← ops, ← next, ← charges, ← notes, ← lane]
      exact ⟨rfl, rfl, rfl, ⟨_, mem_putLine _ _, rfl, rfl, rfl, rfl, rfl, rfl, rfl, rfl, rfl, rfl⟩, rfl, rfl⟩

end Sys2Proof.Machine
end

section
/-! PROOFS. Reservations, eligibility, the arbiter's choice and the grant (R49, R50, R55, R94, R113 to R118); it settles O51. -/

namespace Sys2Proof.Machine

/-! ### A reservation, stage by stage (R49, R50, R55) -/

/-- The next value advanced (R49). -/
def State.advanced (s : State) (k : SlotIx) (i : TillIx) : State := s.setCtr k i { s.ctr k i with c := (s.ctr k i).c + 1 }

/-- The raise requested where R50 says. -/
def State.raising (s : State) (k : SlotIx) (i : TillIx) : State := if (s.ctr k i).wantsRaise then (s.requestRaise k i).kick3 else s

/-- The entry once R50 has been looked at. -/
def CounterEntry.afterRaise (e : CounterEntry) : CounterEntry :=
  if e.wantsRaise then { e with raise := some (min (e.k + 256) 1048576) } else e

theorem CounterEntry.wantsRaise_iff (e : CounterEntry) :
    e.wantsRaise = true ↔ e.k - e.c ≤ 64 ∧ e.k < 1048576 ∧ e.raise = none ∧ e.failed = false := by
  simp only [CounterEntry.wantsRaise, Bool.and_eq_true, decide_eq_true_eq, Option.isNone_iff_eq_none, Bool.not_eq_true', and_assoc]
  exact Iff.rfl

theorem CounterEntry.afterRaise_c (e : CounterEntry) : e.afterRaise.c = e.c := by
  unfold CounterEntry.afterRaise
  split <;> rfl

theorem State.ctr_advanced (s : State) (k : SlotIx) (i : TillIx) :
    (s.advanced k i).ctr k i = { s.ctr k i with c := (s.ctr k i).c + 1 } := s.ctr_setCtr_self ..

theorem State.ctr_raising (s : State) (k : SlotIx) (i : TillIx) : (s.raising k i).ctr k i = (s.ctr k i).afterRaise := by
  unfold State.raising CounterEntry.afterRaise
  split
  · rw [State.ctr_kick3]
    exact s.ctr_setCtr_self ..
  · rfl

theorem State.ctr_raising_ne (s : State) (k l : SlotIx) (i j : TillIx) (h : (l, j) ≠ (k, i)) : (s.raising k i).ctr l j = s.ctr l j := by
  unfold State.raising
  split
  · rw [State.ctr_kick3]
    exact s.ctr_setCtr_ne _ h
  · rfl

theorem State.raising_frame (s : State) (k : SlotIx) (i : TillIx) :
    s.raising k i = { s with counters := (s.raising k i).counters, mgmt := (s.raising k i).mgmt } := by
  unfold State.raising
  split
  · rw [State.kick3_frame]
    rfl
  · rfl

/-- The raise of an entry whose write can begin is in it, with its target recorded (R50, R51). -/
theorem State.raising_begins (s : State) (k : SlotIx) (i : TillIx) (wants : (s.ctr k i).wantsRaise = true) (hf : s.counters.inFlight = none)
    (he : s.erasing = false) (hw : s.counters.eraseWanted = false) (ha : k ∉ s.counters.activations) :
    ∃ w, (s.raising k i).counters.inFlight = some w ∧ (k, i) ∈ w.raises ∧ (w.contents[k])[i] = min ((s.ctr k i).k + 256) 1048576 := by
  obtain ⟨t, ht⟩ : ∃ t : State, t = s.requestRaise k i := ⟨_, rfl⟩
  have pending : t.counters.pending = s.counters.pending ++ [(k, i)] := by rw [ht]; rfl
  have acts : t.counters.activations = s.counters.activations := by rw [ht]; rfl
  have erase : t.counters.eraseWanted = false := by rw [ht]; exact hw
  have entry : t.ctr k i = { s.ctr k i with raise := some (min ((s.ctr k i).k + 256) 1048576) } := by
    rw [ht]; exact s.ctr_setCtr_self ..
  have asks : ¬ t.counters.quiet = true := fun h => by
    have := ((CounterTable.quiet_iff _).1 h).1
    rw [pending] at this
    exact List.append_ne_nil_of_right_ne_nil _ (List.cons_ne_nil _ _) this
  have begun : s.raising k i = t.writing3 := by
    rw [State.raising, if_pos wants, ← ht, t.kick3_free (by rw [ht]; exact hf) (by rw [ht]; exact he), if_neg asks]
  rw [begun]
  refine ⟨t.nextWrite3, rfl, ?_, ?_⟩
  · rw [State.nextWrite3, erase, pending, acts]
    exact List.mem_filter.2 ⟨List.mem_append_right _ (List.mem_singleton.2 rfl), by simpa using ha⟩
  · have read := t.sector3_read t.counters.activations k i
    rw [acts, if_neg (by simpa using ha), ← acts, entry] at read
    exact read

/-- The state a reservation's events and refusals are made in. -/
def State.reserved (s : State) (k : SlotIx) (i : TillIx) : State :=
  ((s.advanced k i).raising k i).counterEvents k i ((s.ctr k i).c + 1)

theorem State.counterEvents_frame (s : State) (k : SlotIx) (i : TillIx) (c : Nat) :
    s.counterEvents k i c = { s with events := (s.counterEvents k i c).events } := by
  unfold State.counterEvents
  split
  · rfl
  · split <;> rfl

theorem State.ctr_reserved (s : State) (k l : SlotIx) (i j : TillIx) :
    (s.reserved k i).ctr l j = ((s.advanced k i).raising k i).ctr l j := by
  rw [State.reserved, State.counterEvents_frame]
  rfl

theorem State.reserve_eq (s : State) (k : SlotIx) (i : TillIx) :
    s.reserve k i = if (s.ctr k i).c + 1 = Config.spent then (s.reserved k i).refuseIfBarred i else s.reserved k i := by
  have next : ((s.advanced k i).raising k i).ctr k i = ({ s.ctr k i with c := (s.ctr k i).c + 1 } : CounterEntry).afterRaise := by
    rw [State.ctr_raising, State.ctr_advanced]
  unfold State.reserve
  extract_lets e a r n
  have hr : r = (s.advanced k i).raising k i := rfl
  have hc : (r.ctr k i).c = (s.ctr k i).c + 1 := by rw [hr, next, CounterEntry.afterRaise_c]
  have hn : n = s.reserved k i := by
    have : n = r.counterEvents k i (r.ctr k i).c := rfl
    rw [this, hc, hr, State.reserved]
  have same : (n.ctr k i).c = (s.ctr k i).c + 1 := by rw [hn, s.ctr_reserved, next, CounterEntry.afterRaise_c]
  rw [same, hn]

/-! ### What a reservation counts and refuses (R55, R112) -/

/-- The events a reservation raises: COUNTER-LOW at the line, COUNTER-EXHAUSTED at the end. -/
theorem State.count_reserved (s : State) (k : SlotIx) (i : TillIx) :
    (s.reserved k i).count .counterLow =
        (if (s.ctr k i).c + 1 = 1044480 then min (s.count .counterLow + 1) 65535 else s.count .counterLow)
      ∧ (s.reserved k i).count .counterExhausted =
        (if (s.ctr k i).c + 1 = 1048576 then min (s.count .counterExhausted + 1) 65535 else s.count .counterExhausted) := by
  obtain ⟨r, hr⟩ : ∃ r : State, r = (s.advanced k i).raising k i := ⟨_, rfl⟩
  obtain ⟨c, hc⟩ : ∃ c : Nat, c = (s.ctr k i).c + 1 := ⟨_, rfl⟩
  have events : r.events = s.events := hr ▸ (congrArg State.events (State.raising_frame _ k i) :)
  rw [State.reserved, ← hr, ← hc, ← State.count_congr events .counterLow, ← State.count_congr events .counterExhausted]
  unfold State.counterEvents
  by_cases low : c = Config.counterLowMark
  · have other : ¬ c = 1048576 := by rw [low]; decide
    rw [if_pos low, if_pos (show c = 1044480 from low), if_neg other]
    exact ⟨r.count_raise_self .., r.count_raise_ne _ _ _ (by decide)⟩
  · rw [if_neg low, if_neg (show ¬ c = 1044480 from low)]
    by_cases spent : c = Config.spent
    · rw [if_pos spent, if_pos (show c = 1048576 from spent)]
      exact ⟨r.count_raise_ne _ _ _ (by decide), r.count_raise_self ..⟩
    · rw [if_neg spent, if_neg (show ¬ c = 1048576 from spent)]
      exact ⟨rfl, rfl⟩

theorem State.reserved_frame (s : State) (k : SlotIx) (i : TillIx) : s.reserved k i = { s with
    counters := ((s.advanced k i).raising k i).counters, events := (s.reserved k i).events, mgmt := ((s.advanced k i).raising k i).mgmt } := by
  have events : s.reserved k i = { (s.advanced k i).raising k i with events := (s.reserved k i).events } :=
    State.counterEvents_frame ((s.advanced k i).raising k i) k i ((s.ctr k i).c + 1)
  have raised := State.raising_frame (s.advanced k i) k i
  generalize s.reserved k i = u at events ⊢
  generalize (s.advanced k i).raising k i = r at events raised ⊢
  rw [raised] at events
  exact events

theorem State.refuseIfBarred_sameTill (s : State) {i j : TillIx} (h : j ≠ i) : (s.refuseIfBarred i).till j = s.till j := by
  unfold State.refuseIfBarred
  split
  · rfl
  · exact s.refuseQueue_other _ h

/-- What a reservation leaves: the entries, events of class COUNTER and every other till of the state before its refusals. -/
theorem State.reserve_spec (s : State) (k : SlotIx) (i : TillIx) :
    RepliesOnly (s.reserved k i) (s.reserve k i) ∧ SameCounterEvents (s.reserved k i) (s.reserve k i)
      ∧ ∀ j, j ≠ i → (s.reserve k i).till j = s.till j := by
  have tills : ∀ j, (s.reserved k i).till j = s.till j := fun j => by rw [s.reserved_frame]; rfl
  rw [s.reserve_eq]
  split
  · exact ⟨State.refuseIfBarred_repliesOnly _ i, State.refuseIfBarred_sameCounterEvents _ i, fun j hj =>
      ((s.reserved k i).refuseIfBarred_sameTill hj).trans (tills j)⟩
  · exact ⟨RepliesOnly.refl _, SameCounterEvents.refl _, fun j _ => tills j⟩

theorem State.ctr_reserve (s : State) (k l : SlotIx) (i j : TillIx) : (s.reserve k i).ctr l j = ((s.advanced k i).raising k i).ctr l j := by
  obtain ⟨_, _, _, _, frame⟩ := (s.reserve_spec k i).1
  rw [← s.ctr_reserved, frame]
  rfl

/-- A till that is not the last reservation's keeps its queue; one whose entry is spent has it refused (R112). -/
theorem State.till_reserve (s : State) (k : SlotIx) (i : TillIx) (b : Binding) (hb : (s.till i).binding = some b) (hk : b.slot = k)
    (enabled : b.enabled = true) :
    ((s.reserve k i).till i).queue = (if (s.ctr k i).c + 1 = 1048576 then [] else (s.till i).queue)
      ∧ ((s.reserve k i).till i).wrapInFlight = (s.till i).wrapInFlight := by
  have till : (s.reserved k i).till i = s.till i := by rw [s.reserved_frame]; rfl
  rw [s.reserve_eq]
  by_cases spent : (s.ctr k i).c + 1 = Config.spent
  · rw [if_pos spent, if_pos (show (s.ctr k i).c + 1 = 1048576 from spent)]
    have entry : ((s.reserved k i).ctr b.slot i).c = Config.spent := by
      rw [hk, s.ctr_reserved, State.ctr_raising, State.ctr_advanced, CounterEntry.afterRaise_c]
      exact spent
    have exhausted : (s.reserved k i).completionRefusal i = some (.refused .exhausted) := by
      have state : (s.reserved k i).entryState i = .exhausted := by
        simp only [State.entryState, till, hb, entryStateOf, enabled, entry, Bool.not_true, Bool.false_eq_true, if_false, if_true]
      simp only [State.completionRefusal, till, hb, state]
    have refused : (s.reserved k i).refuseIfBarred i = (s.reserved k i).refuseQueue i (.refused .exhausted) := by
      rw [State.refuseIfBarred, exhausted]
    obtain ⟨_, same⟩ := (s.reserved k i).refuseQueue_self i (.refused .exhausted)
    rw [refused, same, till]
    exact ⟨rfl, rfl⟩
  · rw [if_neg spent, if_neg (show ¬ (s.ctr k i).c + 1 = 1048576 from spent), till]
    exact ⟨rfl, rfl⟩

/-! ### Eligibility (R113) -/

theorem State.entryState_enabled (s : State) (i : TillIx) (b : Binding) (hb : (s.till i).binding = some b) :
    s.entryState i = .enabled ↔ b.enabled = true ∧ (s.ctr b.slot i).c ≠ 1048576 ∧ (s.ctr b.slot i).failed = false := by
  have spent : Config.spent = 1048576 := rfl
  unfold State.entryState entryStateOf
  rw [hb, spent]
  dsimp only
  cases b.enabled
  · simp
  · by_cases hc : (s.ctr b.slot i).c = 1048576 <;> cases hf : (s.ctr b.slot i).failed <;> simp [hc]

theorem State.eligible_iff (s : State) (i : TillIx) : s.eligible i = true ↔
    s.opState = .serving ∧ ∃ b, (s.till i).binding = some b ∧ b.enabled = true ∧ (s.ctr b.slot i).c ≠ 1048576
      ∧ (s.ctr b.slot i).failed = false ∧ (s.till i).queue ≠ [] ∧ (s.till i).wrapInFlight = false
      ∧ (s.ctr b.slot i).c < (s.ctr b.slot i).k ∧ (s.slot b.slot).state = .active ∧ s.covered b = false := by
  unfold State.eligible
  cases hb : (s.till i).binding with
  | none => simp
  | some b =>
    have enabled := s.entryState_enabled i b hb
    simp only [Bool.and_eq_true, beq_iff_eq, decide_eq_true_eq, Bool.not_eq_true', enabled, List.isEmpty_eq_false_iff, Option.some.injEq,
      exists_eq_left', and_assoc]

/-! ### The arbiter's choice (R117) -/

/-- The first of the numbers below a size that has a property. -/
theorem find?_ofNat_range (n : Nat) [NeZero n] (ok : Fin n → Bool) (c : Fin n) :
    ((List.range n).map (Fin.ofNat n)).find? ok = some c ↔ ok c = true ∧ ∀ d < c, ok d = false := by
  rw [List.find?_map, Option.map_eq_some_iff]
  constructor
  · rintro ⟨m, found, rfl⟩
    obtain ⟨holds, inRange, first⟩ := List.find?_range_eq_some.1 found
    have small : m < n := List.mem_range.1 inRange
    have same : (Fin.ofNat n m).val = m := Nat.mod_eq_of_lt small
    refine ⟨holds, fun d hd => ?_⟩
    have below := first d.val (by rw [← same]; exact hd)
    simpa using below
  · rintro ⟨holds, first⟩
    refine ⟨c.val, List.find?_range_eq_some.2 ⟨?_, List.mem_range.2 c.isLt, fun d hd => ?_⟩, Fin.ext (Nat.mod_eq_of_lt c.isLt)⟩
    · rw [Function.comp_apply, show Fin.ofNat n c.val = c from Fin.ext (Nat.mod_eq_of_lt c.isLt)]
      exact holds
    · have small : (Fin.ofNat n d).val = d := Nat.mod_eq_of_lt (hd.trans c.isLt)
      have below := first (Fin.ofNat n d) (Fin.lt_def.2 (small.symm ▸ hd))
      rw [Function.comp_apply, below]
      rfl

/-- The till found is eligible for the search, and none that is lies nearer to the pointer. -/
theorem searchFrom_nearest (p i : TillIx) (ok : TillIx → Bool) (h : searchFrom p ok = some i) :
    ok i = true ∧ ∀ j, ok j = true → (i - p).val ≤ (j - p).val := by
  refine ⟨searchFrom_some h, fun j hj => ?_⟩
  rw [searchFrom, List.find?_map, Option.map_eq_some_iff] at h
  obtain ⟨d, found, rfl⟩ := h
  obtain ⟨-, first⟩ := (find?_ofNat_range 128 (ok ∘ fun d => p + d) d).1 found
  rw [add_sub_cancel_left]
  refine Nat.le_of_not_lt fun nearer => ?_
  have missed := first (j - p) nearer
  rw [Function.comp_apply, add_sub_cancel, hj] at missed
  cases missed

theorem searchFrom_none (p : TillIx) (ok : TillIx → Bool) : searchFrom p ok = none ↔ ∀ j, ok j = false := by
  rw [searchFrom, List.find?_eq_none]
  constructor
  · intro h j
    have missed := h (p + (j - p)) (List.mem_map.2 ⟨j - p, mem_allTills _, rfl⟩)
    rw [add_sub_cancel] at missed
    simpa using missed
  · intro h j _
    simp [h j]

theorem State.isClass_of_binding (s : State) (i : TillIx) (x : TillClass) (b : Binding) (hb : (s.till i).binding = some b) :
    s.isClass i x = ((s.profile b.profile).cls == x) := by
  simp only [State.isClass, hb]

/-- An eligible till is of one class (R116). -/
theorem State.eligible_class (s : State) (i : TillIx) (h : s.eligible i = true) :
    s.isClass i .kiosk = true ∨ s.isClass i .attended = true := by
  obtain ⟨-, b, hb, -⟩ := (s.eligible_iff i).1 h
  rw [s.isClass_of_binding i _ b hb, s.isClass_of_binding i _ b hb]
  cases (s.profile b.profile).cls
  · exact .inr rfl
  · exact .inl rfl

/-- The search of one class. -/
def State.searchClass (s : State) (p : TillIx) (x : TillClass) : Option TillIx := searchFrom p (fun i => s.isClass i x && s.eligible i)

theorem State.searchClass_some (s : State) (p i : TillIx) (x : TillClass) (h : s.searchClass p x = some i) :
    s.eligible i = true ∧ s.isClass i x = true ∧ ∀ j, s.eligible j = true → s.isClass j x = true → (i - p).val ≤ (j - p).val := by
  obtain ⟨found, nearest⟩ := searchFrom_nearest p i _ h
  obtain ⟨cls, eligible⟩ := Bool.and_eq_true_iff.1 found
  exact ⟨eligible, cls, fun j he hc => nearest j (Bool.and_eq_true_iff.2 ⟨hc, he⟩)⟩

theorem State.searchClass_none (s : State) (p : TillIx) (x : TillClass) :
    s.searchClass p x = none ↔ ∀ j, s.eligible j = true → s.isClass j x = false := by
  rw [State.searchClass, searchFrom_none]
  exact forall_congr' fun j => by cases s.eligible j <;> simp

/-- The arbiter's choice between the two classes (R117). -/
theorem State.chooseTill_eq (s : State) : s.chooseTill =
    match s.searchClass s.arbiter.kiosk .kiosk, s.searchClass s.arbiter.attended .attended with
    | some k, some a => if s.settings.store.share ≤ s.arbiter.g then some (k, .kiosk) else some (a, .attended)
    | some k, none => some (k, .kiosk)
    | none, some a => some (a, .attended)
    | none, none => none := rfl

/-- The pointer of a class. -/
def Arbiter.pointer (a : Arbiter) (x : TillClass) : TillIx := match x with | .kiosk => a.kiosk | .attended => a.attended

/-- The class is chosen by the share and by whether the other has an eligible till, and the till by its nearness to the class's pointer. -/
theorem State.chooseTill_some (s : State) (i : TillIx) (x : TillClass) (h : s.chooseTill = some (i, x)) :
    s.searchClass (s.arbiter.pointer x) x = some i
      ∧ (x = .kiosk → s.settings.store.share ≤ s.arbiter.g ∨ ∀ j, s.eligible j = true → s.isClass j .attended = false)
      ∧ (x = .attended → s.arbiter.g < s.settings.store.share ∨ ∀ j, s.eligible j = true → s.isClass j .kiosk = false) := by
  rw [s.chooseTill_eq] at h
  split at h
  · rename_i k a hk ha
    split at h <;> cases h
    · exact ⟨hk, fun _ => .inl ‹_›, nofun⟩
    · exact ⟨ha, nofun, fun _ => .inl (Nat.lt_of_not_le ‹_›)⟩
  · rename_i k hk ha
    cases h
    exact ⟨hk, fun _ => .inr ((s.searchClass_none _ _).1 ha), nofun⟩
  · rename_i a hk ha
    cases h
    exact ⟨ha, nofun, fun _ => .inr ((s.searchClass_none _ _).1 hk)⟩
  · cases h

theorem State.chooseTill_none (s : State) : s.chooseTill = none ↔ ∀ i, s.eligible i = false := by
  constructor
  · intro h i
    by_contra eligible
    rw [Bool.not_eq_false] at eligible
    rw [s.chooseTill_eq] at h
    split at h
    · split at h <;> cases h
    · cases h
    · cases h
    · rename_i hk ha
      have kiosk := (s.searchClass_none _ _).1 hk i eligible
      have attended := (s.searchClass_none _ _).1 ha i eligible
      rcases s.eligible_class i eligible with cls | cls
      · rw [kiosk] at cls; cases cls
      · rw [attended] at cls; cases cls
  · intro h
    have none : ∀ p x, s.searchClass p x = none := fun p x => (s.searchClass_none p x).2 fun j hj => by rw [h j] at hj; cases hj
    rw [s.chooseTill_eq, none, none]

/-! ### The grant (R94, R118) -/

/-- The IDLE context of the lowest number. -/
theorem State.findIdle (s : State) (c : CtxIx) (h : (s.ctx c).phase = .idle) (first : ∀ d < c, (s.ctx d).phase ≠ .idle) :
    allCtxs.find? (fun c => (s.ctx c).phase == .idle) = some c := by
  have all : allCtxs = (List.range 4).map (Fin.ofNat 4) := rfl
  rw [all]
  exact (find?_ofNat_range 4 _ c).2 ⟨beq_iff_eq.2 h, fun d hd => beq_false_of_ne (first d hd)⟩

/-- The wrap a grant begins. -/
def State.grantedWrap (s : State) (i : TillIx) (b : Binding) (m : TillMsg) : Wrap :=
  { till := i, msg := some m, profileIx := b.profile, profile := s.profile b.profile, map := s.fieldMap b.profile, slot := b.slot,
    counter := (s.ctr b.slot i).c, gen := 0, ksid := 0, dataKey := none, authKey := none, fp := none, entries := [], wrapped := [],
    place := false, inHand := none, formerTill := false }

/-- The state of a grant before its reservation is taken. -/
def State.granting (s : State) (c : CtxIx) (i : TillIx) (x : TillClass) (b : Binding) (m : TillMsg) (rest : List TillMsg) : State :=
  { (s.setCtx c { phase := .reserved, wrap := some (s.grantedWrap i b m) }).setTill i { s.till i with queue := rest, wrapInFlight := true } with
    arbiter := s.arbiter.after s.settings.store.share i x }

section

variable (s : State) (c : CtxIx) (i : TillIx) (x : TillClass) (b : Binding) (m : TillMsg) (rest : List TillMsg)

theorem State.till_granting (j : TillIx) : (s.granting c i x b m rest).till j =
    if j = i then { s.till i with queue := rest, wrapInFlight := true } else s.till j := by
  have tills : (s.granting c i x b m rest).tills = (s.setTill i { s.till i with queue := rest, wrapInFlight := true }).tills := rfl
  rw [State.till, tills, ← State.till]
  exact s.till_setTill ..

theorem State.ctx_granting (d : CtxIx) : (s.granting c i x b m rest).ctx d =
    if d = c then { phase := .reserved, wrap := some (s.grantedWrap i b m) } else s.ctx d := by
  have ctxs : (s.granting c i x b m rest).ctxs = (s.setCtx c { phase := .reserved, wrap := some (s.grantedWrap i b m) }).ctxs := rfl
  rw [State.ctx, ctxs, ← State.ctx]
  exact s.ctx_setCtx ..

theorem State.counters_granting : (s.granting c i x b m rest).counters = s.counters := rfl

theorem State.arbiter_granting : (s.granting c i x b m rest).arbiter = s.arbiter.after s.settings.store.share i x := rfl

end

theorem State.grantTo_eq (s : State) (c : CtxIx) (i : TillIx) (x : TillClass) (b : Binding) (m : TillMsg) (rest : List TillMsg)
    (hb : (s.till i).binding = some b) (hq : (s.till i).queue = m :: rest) :
    s.grantTo c i x = (s.granting c i x b m rest).reserve b.slot i := by
  simp only [State.grantTo, hb, hq]
  rfl

theorem State.grantOnce_rests (s : State) (h : (∀ i, s.eligible i = false) ∨ ∀ c, (s.ctx c).phase ≠ .idle) : s.grantOnce = s := by
  rcases h with h | h
  · have none : s.chooseTill = none := s.chooseTill_none.2 h
    unfold State.grantOnce
    rw [none]
    split
    · contradiction
    · rfl
  · have none : allCtxs.find? (fun c => (s.ctx c).phase == .idle) = none :=
      List.find?_eq_none.2 fun c _ => by simpa using h c
    unfold State.grantOnce
    rw [none]

/-- A reservation leaves the contexts and the arbiter. -/
theorem State.reserve_frame (s : State) (k : SlotIx) (i : TillIx) : s.reserve k i = { s with
    counters := (s.reserve k i).counters, events := (s.reserve k i).events, mgmt := (s.reserve k i).mgmt, tills := (s.reserve k i).tills
    lane := (s.reserve k i).lane, ipId := (s.reserve k i).ipId } := by
  obtain ⟨_, _, _, _, frame⟩ := (s.reserve_spec k i).1
  rw [frame, s.reserved_frame]

/-- Settles O51: the reservation, eligibility, the choice, and the grant. -/
theorem grantTakesTheChosenTill : Obligations.GrantTakesTheChosenTill := by
  refine ⟨fun s k i => ?_, State.eligible_iff, fun s i x h => ?_, State.chooseTill_none, State.grantOnce_rests,
    fun s c i x b m rest idle first chosen hb hq => ?_⟩
  · intro e t near
    have entry : (s.advanced k i).ctr k i = { e with c := e.c + 1 } := s.ctr_advanced k i
    have wants : ((s.advanced k i).ctr k i).wantsRaise = true ↔ near := by
      rw [entry, CounterEntry.wantsRaise_iff]
    obtain ⟨replies, events, -⟩ := s.reserve_spec k i
    obtain ⟨low, exhausted⟩ := s.count_reserved k i
    have counters : t.counters = ((s.advanced k i).raising k i).counters := by
      obtain ⟨_, _, _, _, frame⟩ := replies
      rw [show t = _ from frame, s.reserved_frame]
    refine ⟨?_, fun l j h => ?_, ?_, ?_, fun hn hf he hw ha => ?_, fun hn => ?_, s.reserve_frame k i⟩
    · rw [s.ctr_reserve, State.ctr_raising, CounterEntry.afterRaise, entry]
      by_cases hn : near
      · rw [if_pos (by rw [← entry]; exact wants.2 hn), if_pos hn]
      · rw [if_neg (by rw [← entry]; exact mt wants.1 hn), if_neg hn]
    · rw [s.ctr_reserve, State.ctr_raising_ne _ _ _ _ _ h]
      exact s.ctr_setCtr_ne _ h
    · rw [events .counterLow rfl, low]
    · rw [events .counterExhausted rfl, exhausted]
    · rw [counters]
      obtain ⟨w, begun, carries, records⟩ := (s.advanced k i).raising_begins k i (wants.2 hn) hf he hw ha
      exact ⟨w, begun, carries, by rw [records, entry]⟩
    · rw [counters, State.raising, if_neg (mt wants.1 hn)]
      exact ⟨rfl, rfl⟩
  · obtain ⟨found, kiosk, attended⟩ := s.chooseTill_some i x h
    obtain ⟨eligible, cls, nearest⟩ := s.searchClass_some _ i x found
    exact ⟨eligible, cls, nearest, kiosk, attended⟩
  · intro t e
    obtain ⟨g, hg⟩ : ∃ g : State, g = s.granting c i x b m rest := ⟨_, rfl⟩
    have granted : t = g.reserve b.slot i := by
      have once : t = s.grantTo c i x := by
        show s.grantOnce = _
        simp only [State.grantOnce, s.findIdle c idle first, chosen]
      rw [once, s.grantTo_eq c i x b m rest hb hq, hg]
    have enabled : b.enabled = true := by
      obtain ⟨-, b', hb', enabled, -⟩ := (s.eligible_iff i).1 (s.chooseTill_eligible i x chosen).2
      rw [hb] at hb'
      cases hb'
      exact enabled
    have till : ∀ j, g.till j = if j = i then { s.till i with queue := rest, wrapInFlight := true } else s.till j := fun j => by
      rw [hg, s.till_granting]
    have entry : g.ctr b.slot i = e := by rw [hg, State.ctr, State.counters_granting]; rfl
    have frame := g.reserve_frame b.slot i
    obtain ⟨queue, flag⟩ := g.till_reserve b.slot i b (by rw [till, if_pos rfl]; exact hb) rfl enabled
    have others := (g.reserve_spec b.slot i).2.2
    have next : ((g.reserve b.slot i).ctr b.slot i).c = (g.ctr b.slot i).c + 1 := by
      rw [g.ctr_reserve, State.ctr_raising, CounterEntry.afterRaise_c, State.ctr_advanced]
    have ctxs : (g.reserve b.slot i).ctxs = g.ctxs := (congrArg State.ctxs frame :)
    have ctx : ∀ d, (g.reserve b.slot i).ctx d = g.ctx d := fun d => by rw [State.ctx, ctxs, State.ctx]
    rw [granted]
    refine ⟨?_, fun d hd => ?_, ?_, ?_, fun j hj => ?_, ?_, ?_⟩
    · rw [ctx, hg, s.ctx_granting, if_pos rfl]
      rfl
    · rw [ctx, hg, s.ctx_granting, if_neg hd]
    · rw [flag, till, if_pos rfl]
    · rw [queue, till, if_pos rfl, entry]
    · rw [others j hj, till, if_neg hj]
    · rw [next, entry]
    · have arbiter : (g.reserve b.slot i).arbiter = g.arbiter := (congrArg State.arbiter frame :)
      rw [arbiter, hg, State.arbiter_granting]
      cases x <;> rfl

end Sys2Proof.Machine
end

section
/-! PROOFS. A till's messages refused, and the wrap that loses its reservation (R43, R45, R46, R56, R57, R106, R112). -/

namespace Sys2Proof.Machine

/-! ### Messages of one till refused (R46) -/

/-- So many messages of a till have been refused: only its queue and its refused count change, and the count of the refusals. -/
def RefusesMessages (i : TillIx) (n : Nat) (s u : State) : Prop :=
  RepliesOnly s u ∧ u.count .reservationLost = s.count .reservationLost ∧ (∀ j, j ≠ i → u.till j = s.till j)
    ∧ (∃ queue refused, u.till i = { s.till i with queue := queue, refused := refused })
    ∧ (s.count .localRefused ≤ 65535 → u.count .localRefused = min (s.count .localRefused + n) 65535)
    ∧ ((s.till i).refused ≤ 65535 → (u.till i).refused = min ((s.till i).refused + n) 65535)

namespace RefusesMessages

variable {i : TillIx} {n m : Nat} {s t u : State}

theorem trans (h : RefusesMessages i n s t) (h' : RefusesMessages i m t u) : RefusesMessages i (n + m) s u := by
  obtain ⟨only, lost, others, ⟨q, r, till⟩, count, refused⟩ := h
  obtain ⟨only', lost', others', ⟨q', r', till'⟩, count', refused'⟩ := h'
  refine ⟨only.trans only', lost'.trans lost, fun j hj => (others' j hj).trans (others j hj), ⟨q', r', by rw [till', till]⟩, fun h => ?_,
    fun h => ?_⟩
  · rw [count' (by rw [count h]; exact Nat.min_le_right _ _), count h]
    omega
  · rw [refused' (by rw [refused h]; exact Nat.min_le_right _ _), refused h]
    omega

/-- A queue set aside refuses nothing yet. -/
theorem setQueue (s : State) (i : TillIx) (queue : List TillMsg) : RefusesMessages i 0 s (s.setTill i { s.till i with queue := queue }) :=
  ⟨s.setTill_repliesOnly .., rfl, fun _ hj => s.till_setTill_ne _ hj, ⟨queue, (s.till i).refused, s.till_setTill_self ..⟩,
    fun h => (Nat.min_eq_left h).symm, fun h => by rw [s.till_setTill_self]; exact (Nat.min_eq_left h).symm⟩

theorem refl (s : State) (i : TillIx) : RefusesMessages i 0 s s :=
  ⟨.refl s, rfl, fun _ _ => rfl, ⟨_, _, rfl⟩, fun h => (Nat.min_eq_left h).symm, fun h => (Nat.min_eq_left h).symm⟩

theorem reply (s : State) (i : TillIx) (x : TillMsg) (r : RefuseReason) : RefusesMessages i 1 s (s.replyTo i x (.refused r)) := by
  have till : (s.replyTo i x (.refused r)).till i = { s.till i with refused := saturate (s.till i).refused } :=
    (s.till_localReply i i x.number x.reference x.path (.refused r)).trans (if_pos ⟨rfl, rfl⟩)
  refine ⟨s.replyTo_repliesOnly i x _, s.count_localReply _ _ _ _ _ (by exact nofun) (by decide) (by decide),
    fun j hj => s.till_localReply_ne _ _ _ _ hj, ⟨_, _, till⟩, fun _ => s.count_localReply_self .., fun _ => by rw [till]; rfl⟩

theorem replies (i : TillIx) (r : RefuseReason) (l : List TillMsg) (s : State) :
    RefusesMessages i l.length s (l.foldl (fun t x => t.replyTo i x (.refused r)) s) := by
  induction l generalizing s with
  | nil => exact refl s i
  | cons x l ih =>
    rw [List.foldl_cons, List.length_cons, Nat.add_comm]
    exact (reply s i x r).trans (ih _)

theorem refuseQueue (s : State) (i : TillIx) (r : RefuseReason) :
    RefusesMessages i (s.till i).queue.length s (s.refuseQueue i (.refused r)) := by
  have all := (setQueue s i []).trans (replies i r (s.till i).queue _)
  rw [Nat.zero_add] at all
  exact all

/-- What completion would answer stays the same (R33). -/
theorem completionRefusal (h : RefusesMessages i n s u) : u.completionRefusal i = s.completionRefusal i := by
  obtain ⟨⟨_, _, _, _, frame⟩, -, -, ⟨_, _, till⟩, -⟩ := h
  have binding : (u.till i).binding = (s.till i).binding := by rw [till]
  have ctr : ∀ k, u.ctr k i = s.ctr k i := fun k => by rw [frame]; rfl
  have slot : ∀ k, u.slot k = s.slot k := fun k => by rw [frame]; rfl
  unfold State.completionRefusal
  rw [binding, State.entryState_congr binding ctr]
  split
  · rfl
  · rw [slot]

end RefusesMessages

/-- What completion would answer is always a refusal. -/
theorem State.completionRefusal_refused (s : State) (i : TillIx) (x : LocalReply) (h : s.completionRefusal i = some x) :
    ∃ r, x = .refused r := by
  unfold State.completionRefusal at h
  split at h
  · exact ⟨_, (Option.some.inj h).symm⟩
  · split at h
    · exact ⟨_, (Option.some.inj h).symm⟩
    · exact ⟨_, (Option.some.inj h).symm⟩
    · exact ⟨_, (Option.some.inj h).symm⟩
    · exact ⟨_, (Option.some.inj h).symm⟩
    · split at h
      · exact ⟨_, (Option.some.inj h).symm⟩
      · exact ⟨_, (Option.some.inj h).symm⟩
      · cases h

theorem State.refuseIfBarred_free (s : State) (i : TillIx) (h : s.completionRefusal i = none) : s.refuseIfBarred i = s := by
  rw [State.refuseIfBarred, h]

/-- A barred till's queue is refused, and left empty (R112). -/
theorem State.refuseIfBarred_barred (s : State) (i : TillIx) (h : (s.completionRefusal i).isSome = true) :
    RefusesMessages i (s.till i).queue.length s (s.refuseIfBarred i) ∧ ((s.refuseIfBarred i).till i).queue = [] := by
  obtain ⟨x, hx⟩ := Option.isSome_iff_exists.1 h
  obtain ⟨r, rfl⟩ := s.completionRefusal_refused i x hx
  have refused : s.refuseIfBarred i = s.refuseQueue i (.refused r) := by rw [State.refuseIfBarred, hx]
  rw [refused]
  exact ⟨.refuseQueue s i r, s.queue_refuseQueue i i _ (.inl rfl)⟩

/-! ### The wrap that loses its reservation (R56, R106) -/

/-- The contexts that have the till's wrap, one excepted, have reached its outcome. -/
def State.othersSettled (s : State) (i : TillIx) (c : CtxIx) : Prop :=
  ∀ d v, d ≠ c → (s.ctx d).wrap = some v → v.till = i → (s.ctx d).phase = .holding

theorem State.openWrapIn_holding (s : State) (i : TillIx) (c : CtxIx)
    (h : ∀ w, (s.ctx c).wrap = some w → w.till = i → (s.ctx c).phase = .holding) : s.openWrapIn i c = none := by
  unfold State.openWrapIn
  cases hw : (s.ctx c).wrap with
  | none => rfl
  | some w =>
    refine if_neg fun ⟨ht, hp⟩ => ?_
    rw [h w hw ht] at hp
    cases hp

theorem State.openWrap_settled (s : State) (i : TillIx) (h : ∀ c w, (s.ctx c).wrap = some w → w.till = i → (s.ctx c).phase = .holding) :
    s.openWrap i = none := by
  rw [s.openWrap_eq, List.findSome?_eq_none_iff]
  exact fun c _ => s.openWrapIn_holding i c (h c)

theorem State.openWrap_inFlight (s : State) (i : TillIx) (c : CtxIx) (w : Wrap) (hw : (s.ctx c).wrap = some w) (ht : w.till = i)
    (idle : (s.ctx c).phase ≠ .idle) (holding : (s.ctx c).phase ≠ .holding) (others : s.othersSettled i c) : s.openWrap i = some (c, w) := by
  have unsettled : (s.ctx c).phase.unsettled = true := by
    cases hp : (s.ctx c).phase with
    | idle => exact absurd hp idle
    | holding => exact absurd hp holding
    | _ => rfl
  rw [s.openWrap_eq]
  refine findSome?_of_unique _ c _ (by simp [State.openWrapIn, hw, ht, unsettled]) (fun d hd => ?_) _ (mem_allCtxs c)
  exact s.openWrapIn_holding i d fun v => others d v hd

/-- The state once the till's wrap has lost its reservation, no other context waiting for a place. -/
def State.lost (s : State) (i : TillIx) (c : CtxIx) (w : Wrap) : State :=
  (s.abandon c).raise .reservationLost (till := some i) (slot := some w.slot)

theorem State.loseReservation_settled (s : State) (i : TillIx) (h : s.openWrap i = none) : s.loseReservation i = (s, none) := by
  rw [State.loseReservation, h]

theorem State.loseReservation_lost (s : State) (i : TillIx) (c : CtxIx) (w : Wrap) (h : s.openWrap i = some (c, w))
    (alone : ∀ d ∈ s.placeWait, d = c) : s.loseReservation i = (s.lost i c w, w.msg) := by
  have places : (s.lost i c w).placeWait = [] := by
    rw [State.lost, State.raise_placeWait, s.abandon_frame]
    exact List.filter_eq_nil_iff.2 fun d hd => by simp [alone d hd]
  rw [State.loseReservation, h]
  exact congrArg (·, w.msg) (State.servePlaces_none _ (.inl places))

/-- The till of a wrap that ends (R38, R93; log 19). -/
theorem State.till_ctxToIdle (s : State) (c : CtxIx) (w : Wrap) (hw : (s.ctx c).wrap = some w) (j : TillIx) :
    (s.ctxToIdle c).till j = if j = w.till ∧ w.formerTill = false then { s.till j with wrapInFlight := false } else s.till j := by
  have idle : (s.ctxToIdle c).till j =
      (if w.formerTill then s else s.setTill w.till { s.till w.till with wrapInFlight := false }).till j := by
    simp only [State.ctxToIdle, hw, State.till_setCtx]
  rw [idle]
  by_cases former : w.formerTill = true
  · rw [if_pos former, if_neg (by simp [former])]
  · rw [if_neg former, State.till_setTill]
    by_cases hj : j = w.till
    · subst hj
      rw [if_pos rfl, if_pos ⟨rfl, by simpa using former⟩]
    · rw [if_neg hj, if_neg fun h => hj h.1]

/-- The flag of a till whose wrap has lost its reservation (R106; log 19). -/
def Wrap.flagAfter (w : Wrap) (flag : Bool) : Bool := if w.formerTill then flag else false

/-- What the lost reservation leaves, no other context waiting for a place. -/
def Abandoned (c : CtxIx) (s u : State) : Prop :=
  u.ctx c = { phase := .idle, wrap := none } ∧ (∀ d, d ≠ c → u.ctx d = s.ctx d)
    ∧ u.count .reservationLost = min (s.count .reservationLost + 1) 65535
    ∧ u.waitOrder = s.waitOrder.filter (fun x => x.1 != .ctx c)
    ∧ u.holding = { s.holding with ops := s.holding.ops.map (StoreOp.disown c) }
    ∧ u = { s with tills := u.tills, events := u.events, lane := u.lane, ipId := u.ipId, ctxs := u.ctxs, waitOrder := u.waitOrder
                   placeWait := [], holding := u.holding }

section

variable (s : State) (i : TillIx) (c : CtxIx) (w : Wrap)

theorem State.till_lost (hw : (s.ctx c).wrap = some w) (ht : w.till = i) (j : TillIx) :
    (s.lost i c w).till j = if j = i then { s.till i with wrapInFlight := w.flagAfter (s.till i).wrapInFlight } else s.till j := by
  have abandoned : (s.lost i c w).till j = (s.abandon c).till j := rfl
  have idle : (s.abandon c).till j = if j = w.till ∧ w.formerTill = false then { s.till j with wrapInFlight := false } else s.till j :=
    State.till_ctxToIdle { s.leaveQueue (.ctx c) with
      placeWait := s.placeWait.filter (fun j => j != c)
      holding := { s.holding with ops := s.holding.ops.map (StoreOp.disown c) } } c w hw j
  rw [abandoned, idle, ht]
  unfold Wrap.flagAfter
  by_cases hj : j = i
  · subst hj
    cases w.formerTill <;> simp
  · rw [if_neg fun h => hj h.1, if_neg hj]

theorem State.lost_abandoned (alone : ∀ d ∈ s.placeWait, d = c) : Abandoned c s (s.lost i c w) := by
  have places : s.placeWait.filter (fun j => j != c) = [] := List.filter_eq_nil_iff.2 fun d hd => by simp [alone d hd]
  have frame := s.abandon_frame c
  have events : (s.abandon c).events = s.events := s.events_abandon c
  rw [places] at frame
  refine ⟨(s.abandon_ctx c c).trans (if_pos rfl), fun d hd => (s.abandon_ctx c d).trans (if_neg hd), ?_, ?_, ?_, ?_⟩
  · exact ((s.abandon c).count_raise_self ..).trans (by rw [State.count_congr events]; rfl)
  · exact (congrArg State.waitOrder frame :)
  · exact (congrArg State.holding frame :)
  · rw [State.lost]
    generalize s.abandon c = a at frame ⊢
    rw [frame]
    rfl

theorem State.count_lost (e : EventCode) (h : e ≠ .reservationLost) : (s.lost i c w).count e = s.count e :=
  ((s.abandon c).count_raise_ne _ _ _ h).trans (State.count_congr (s.events_abandon c) e)

end

/-- Messages refused afterwards leave the rest of an abandonment. -/
theorem Abandoned.refused {c : CtxIx} {i : TillIx} {n : Nat} {s t u : State} (h : Abandoned c s t) (h' : RefusesMessages i n t u) :
    Abandoned c s u := by
  obtain ⟨gone, others, count, wait, holding, frame⟩ := h
  obtain ⟨⟨_, _, _, _, only⟩, lost, -⟩ := h'
  have ctx : ∀ d, u.ctx d = t.ctx d := fun d => by rw [only]; rfl
  refine ⟨(ctx c).trans gone, fun d hd => (ctx d).trans (others d hd), lost.trans count, ?_, ?_, ?_⟩
  · rw [only]; exact wait
  · rw [only]; exact holding
  · rw [only, frame]

/-- The abandonment of a state that differs in its tills alone. -/
theorem Abandoned.of_tills {c : CtxIx} {s d u : State} (h : Abandoned c d u) (tills : d = { s with tills := d.tills }) : Abandoned c s u := by
  obtain ⟨gone, others, count, wait, holding, frame⟩ := h
  rw [tills] at others count wait holding frame
  exact ⟨gone, others, count, wait, holding, frame⟩

/-! ### A till whose messages are all refused TILL-DISABLED (R43, R45) -/

/-- The message in hand and the Pending Queue refused. -/
def State.dropMessages (s : State) (i : TillIx) : State :=
  (match (s.loseReservation i).2 with
    | none => (s.loseReservation i).1
    | some m => (s.loseReservation i).1.replyTo i m (.refused .tillDisabled)).refuseQueue i (.refused .tillDisabled)

section

variable (s : State) (i : TillIx)

theorem State.dropMessages_settled (h : ∀ c w, (s.ctx c).wrap = some w → w.till = i → (s.ctx c).phase = .holding) :
    RefusesMessages i (s.till i).queue.length s (s.dropMessages i) ∧ ((s.dropMessages i).till i).queue = [] := by
  have rests : s.dropMessages i = s.refuseQueue i (.refused .tillDisabled) := by
    rw [State.dropMessages, s.loseReservation_settled i (s.openWrap_settled i h)]
  rw [rests]
  exact ⟨.refuseQueue s i _, s.queue_refuseQueue i i _ (.inl rfl)⟩

theorem State.dropMessages_inFlight (c : CtxIx) (w : Wrap) (m : TillMsg) (hw : (s.ctx c).wrap = some w) (ht : w.till = i) (hm : w.msg = some m)
    (idle : (s.ctx c).phase ≠ .idle) (holding : (s.ctx c).phase ≠ .holding) (others : s.othersSettled i c)
    (alone : ∀ d ∈ s.placeWait, d = c) :
    RefusesMessages i (1 + (s.till i).queue.length) (s.lost i c w) (s.dropMessages i) ∧ ((s.dropMessages i).till i).queue = [] := by
  have lost := s.loseReservation_lost i c w (s.openWrap_inFlight i c w hw ht idle holding others) alone
  have queue : (((s.lost i c w).replyTo i m (.refused .tillDisabled)).till i).queue = (s.till i).queue := by
    obtain ⟨_, same⟩ := (s.lost i c w).replyTo_sameTill i i m (.refused .tillDisabled)
    rw [same, s.till_lost i c w hw ht, if_pos rfl]
  have drops : s.dropMessages i = ((s.lost i c w).replyTo i m (.refused .tillDisabled)).refuseQueue i (.refused .tillDisabled) := by
    rw [State.dropMessages, lost, hm]
  rw [drops, ← queue]
  exact ⟨(RefusesMessages.reply _ i m _).trans (.refuseQueue _ i _), State.queue_refuseQueue _ i i _ (.inl rfl)⟩

end

theorem State.disableEntry_eq (s : State) (i : TillIx) (b : Binding) :
    s.disableEntry i b = (s.setTill i { s.till i with binding := some { b with enabled := false } }).dropMessages i := rfl

/-- A till whose messages are refused, its entry replaced first. -/
theorem RefusesMessages.till_of_empty {i : TillIx} {n : Nat} {s u : State} (h : RefusesMessages i n s u) (empty : (u.till i).queue = []) :
    u.till i = { s.till i with queue := [], refused := (u.till i).refused } := by
  obtain ⟨-, -, -, ⟨queue, refused, till⟩, -⟩ := h
  rw [till] at empty ⊢
  rw [show queue = [] from empty]

end Sys2Proof.Machine
end

section
/-! PROOFS. ENABLE-TILL and DISABLE-TILL (R44, R45, R51, R56, R106); it settles O56. -/

namespace Sys2Proof.Machine

theorem tillOf_val (i : TillIx) : tillOf i.val = some i := dif_pos i.isLt

theorem tillOf_absent (n : Nat) (h : 128 ≤ n) : tillOf n = none := dif_neg (Nat.not_lt.2 h)

/-! ### The job of a retry, and the writes it waits for (R44, R68, R174) -/

/-- The command joins those not yet answered, and a sector 1 write is asked for: its job is the last, whatever it waits for there. -/
theorem State.askAnswer_spec (s : State) (j : Job) :
    let u := (s.addJob j).request1
    (∃ x, u.mgmt.jobs.getLast? = some x ∧ x.number = j.number ∧ x.status = j.status ∧ x.results = j.results ∧ x.s3 = j.s3)
      ∧ u = { s with writer1 := u.writer1, mgmt := u.mgmt } := by
  intro u
  refine ⟨?_, by rw [show u = _ from State.request1_frame _]; rfl⟩
  rcases (s.addJob j).request1_mgmt with h | h
  · rw [show u.mgmt = _ from h]
    exact ⟨j, List.getLast?_concat .., rfl, rfl, rfl, rfl⟩
  · rw [show u.mgmt = _ from h]
    refine ⟨j.begun1, ?_, rfl, rfl, rfl, rfl⟩
    show ((s.mgmt.jobs ++ [j]).map Job.begun1).getLast? = _
    rw [List.map_append]
    exact List.getLast?_concat ..

/-- The entry with its retry raise asked for, where none is asked for yet (R44). -/
def State.retryAsked (s : State) (k : SlotIx) (i : TillIx) : State := if (s.ctr k i).raise.isNone then s.requestRaise k i else s

/-- The job of a retry. -/
def State.retryJob (s : State) (t : Taken) (k : SlotIx) (i : TillIx) : Job :=
  { t.job .ok (.till i) with s3 := if s.raiseCarried k i then .inFlight else .queued }

theorem State.retryRaise_eq (s : State) (t : Taken) (k : SlotIx) (i : TillIx) :
    s.retryRaise t k i = (((s.retryAsked k i).addJob ((s.retryAsked k i).retryJob t k i)).request1).kick3 := rfl

theorem State.raiseCarried_idle (s : State) (k : SlotIx) (i : TillIx) (h : s.counters.inFlight = none) : s.raiseCarried k i = false := by
  rw [State.raiseCarried, h]

theorem State.raiseCarried_iff (s : State) (k : SlotIx) (i : TillIx) (w : Write3) (h : s.counters.inFlight = some w) :
    s.raiseCarried k i = true ↔ (k, i) ∉ s.counters.pending ∧ ((k, i) ∈ w.raises ∨ k ∈ w.activations) := by
  rw [State.raiseCarried, h]
  simp

/-! ### Retries (R44, R51, R60) -/

/-- A retry that finds no sector 3 write in flight begins its own, which carries it. -/
theorem State.retryRaise_begins (s : State) (t : Taken) (k : SlotIx) (i : TillIx) (unasked : (s.ctr k i).raise = none)
    (hf : s.counters.inFlight = none) (ha : s.counters.activations = []) (hw : s.counters.eraseWanted = false) (he : s.erasing = false) :
    let u := s.retryRaise t k i
    u.tills = s.tills ∧ u.ctr k i = { s.ctr k i with raise := some (min ((s.ctr k i).k + 256) 1048576) }
      ∧ (∃ w, u.counters.inFlight = some w ∧ (k, i) ∈ w.raises)
      ∧ (∃ j, u.mgmt.jobs.getLast? = some j ∧ j.number = t.number ∧ j.s3 = .inFlight ∧ j.status = .ok)
      ∧ u = { s with counters := u.counters, writer1 := u.writer1, mgmt := u.mgmt } := by
  intro u
  obtain ⟨a, ea⟩ : ∃ a : State, a = s.retryAsked k i := ⟨_, rfl⟩
  have asked : a = s.requestRaise k i := by rw [ea, State.retryAsked, unasked]; rfl
  have counters : a.counters.pending = s.counters.pending ++ [(k, i)] ∧ a.counters.activations = [] ∧ a.counters.eraseWanted = false
      ∧ a.counters.inFlight = none := by
    rw [asked]; exact ⟨rfl, ha, hw, hf⟩
  have entry : a.ctr k i = { s.ctr k i with raise := some (min ((s.ctr k i).k + 256) 1048576) } := by
    rw [asked]; exact s.ctr_setCtr_self ..
  have frame : a = { s with counters := a.counters } := by rw [asked]; rfl
  obtain ⟨pending, acts, erase, idle⟩ := counters
  have waits : (a.retryJob t k i).s3 = .queued := by rw [State.retryJob, a.raiseCarried_idle k i idle]; rfl
  obtain ⟨⟨x, last, number, status, -, s3⟩, answered⟩ := a.askAnswer_spec (a.retryJob t k i)
  obtain ⟨r, hr⟩ : ∃ r : State, r = (a.addJob (a.retryJob t k i)).request1 := ⟨_, rfl⟩
  rw [← hr] at last answered
  have hu : u = r.kick3 := by rw [show u = _ from s.retryRaise_eq t k i, ← ea, ← hr]
  have same : r.counters = a.counters := by rw [answered]
  have busy : ¬ r.counters.quiet = true := fun h => by
    have none := ((CounterTable.quiet_iff _).1 h).1
    rw [same, pending] at none
    exact List.append_ne_nil_of_right_ne_nil _ (List.cons_ne_nil _ _) none
  have free : r.erasing = false := by rw [answered, frame]; exact he
  have begun : u = r.writing3 := by rw [hu, r.kick3_free (by rw [same]; exact idle) free, if_neg busy]
  have ctr : u.ctr k i = r.ctr k i := by rw [hu, State.ctr_kick3]
  refine ⟨?_, ?_, ?_, ?_, ?_⟩
  · rw [begun, State.writing3, answered, frame]
  · rw [ctr, State.ctr, same, ← State.ctr, entry]
  · rw [begun]
    refine ⟨r.nextWrite3, rfl, ?_⟩
    rw [State.nextWrite3, same, erase, pending, acts]
    exact List.mem_filter.2 ⟨List.mem_append_right _ (List.mem_singleton.2 rfl), rfl⟩
  · refine ⟨x.begun3, ?_, number, ?_, status⟩
    · rw [begun]
      show (r.mgmt.jobs.map Job.begun3).getLast? = _
      rw [List.getLast?_map, last]
      rfl
    · rw [Job.begun3, s3, waits]
      rfl
  · rw [begun, State.writing3, answered, frame]

/-- A retry that finds a sector 3 write in flight waits for it, where it carries the raise, and for the next otherwise. -/
theorem State.retryRaise_waits (s : State) (t : Taken) (k : SlotIx) (i : TillIx) (w : Write3) (hf : s.counters.inFlight = some w) :
    let u := s.retryRaise t k i
    let asked := (s.ctr k i).raise.isSome = true
    let carried := asked ∧ (k, i) ∉ s.counters.pending ∧ ((k, i) ∈ w.raises ∨ k ∈ w.activations)
    u.counters = (s.retryAsked k i).counters
      ∧ (∃ j, u.mgmt.jobs.getLast? = some j ∧ j.number = t.number ∧ j.status = .ok ∧ j.results = .till i
          ∧ (carried → j.s3 = .inFlight) ∧ (¬ carried → j.s3 = .queued))
      ∧ u = { s with counters := u.counters, writer1 := u.writer1, mgmt := u.mgmt } := by
  intro u asked carried
  obtain ⟨a, ea⟩ : ∃ a : State, a = s.retryAsked k i := ⟨_, rfl⟩
  have frame : a = { s with counters := a.counters } := by
    rw [ea, State.retryAsked]
    split <;> rfl
  have inFlight : a.counters.inFlight = some w := by
    rw [ea, State.retryAsked]
    split <;> exact hf
  have carries : a.raiseCarried k i = true ↔ carried := by
    rw [a.raiseCarried_iff k i w inFlight]
    by_cases h : (s.ctr k i).raise.isNone = true
    · have pending : (k, i) ∈ a.counters.pending := by
        rw [ea, State.retryAsked, if_pos h]
        exact List.mem_append_right _ (List.mem_singleton.2 rfl)
      exact iff_of_false (fun no => no.1 pending) fun yes => by
        rw [Option.isNone_iff_eq_none] at h
        have := yes.1
        simp only [asked, h] at this
        cases this
    · have same : a = s := by rw [ea, State.retryAsked, if_neg h]
      have isAsked : asked := by
        rw [Option.isNone_iff_eq_none, ← ne_eq, Option.ne_none_iff_isSome] at h
        exact h
      rw [same]
      exact ⟨fun h => ⟨isAsked, h⟩, And.right⟩
  obtain ⟨⟨x, last, number, status, results, s3⟩, answered⟩ := a.askAnswer_spec (a.retryJob t k i)
  obtain ⟨r, hr⟩ : ∃ r : State, r = (a.addJob (a.retryJob t k i)).request1 := ⟨_, rfl⟩
  rw [← hr] at last answered
  have same : r.counters = a.counters := by rw [answered]
  have hu : u = r := by
    rw [show u = _ from s.retryRaise_eq t k i, ← ea, ← hr]
    exact r.kick3_busy (.inl (by rw [same, inFlight]; rfl))
  rw [hu, ← ea]
  refine ⟨same, ⟨x, last, number, status, results, fun h => ?_, fun h => ?_⟩, ?_⟩
  · rw [s3, State.retryJob, carries.2 h]; rfl
  · rw [s3, State.retryJob, Bool.eq_false_of_not_eq_true (mt carries.1 h)]; rfl
  · rw [answered, frame]

/-! ### The rows (R44, R45) -/

section

variable (s : State) (t : Taken) (taken : s.mgmt.taken = some t)
include taken

theorem State.enableTill_absent (n : Nat) (cmd : t.cmd = .enableTill n)
    (h : 128 ≤ n ∨ ∃ i : TillIx, i.val = n ∧ (s.till i).binding = none) :
    exec (.enableTill n) s = .next (s.untaken.answer t .range (.bytes [])) := by
  simp only [exec, execEnableTill, s.carry_taken t _ _ taken cmd]
  rcases h with absent | ⟨i, rfl, vacant⟩
  · rw [tillOf_absent n absent]
    rfl
  · rw [tillOf_val]
    simp only [State.till_untaken, vacant]
    rfl

theorem State.enableTill_answers (i : TillIx) (b : Binding) (cmd : t.cmd = .enableTill i.val) (hb : (s.till i).binding = some b)
    (sound : (s.ctr b.slot i).failed = false) : exec (.enableTill i.val) s =
      .next ((s.untaken.setTill i { s.till i with binding := some { b with enabled := true } }).answer t .ok (.till i)).settle := by
  simp only [exec, execEnableTill, s.carry_taken t _ _ taken cmd, tillOf_val, State.till_untaken, hb]
  exact congrArg (fun u : State => Host.Outcome.next u.settle) (if_neg (Bool.eq_false_iff.1 sound))

theorem State.enableTill_retries (i : TillIx) (b : Binding) (cmd : t.cmd = .enableTill i.val) (hb : (s.till i).binding = some b)
    (failed : (s.ctr b.slot i).failed = true) : exec (.enableTill i.val) s =
      .next ((s.untaken.setTill i { s.till i with binding := some { b with enabled := true } }).retryRaise t b.slot i).settle := by
  simp only [exec, execEnableTill, s.carry_taken t _ _ taken cmd, tillOf_val, State.till_untaken, hb]
  exact congrArg (fun u : State => Host.Outcome.next u.settle) (if_pos failed)

theorem State.disableTill_absent (n : Nat) (cmd : t.cmd = .disableTill n)
    (h : 128 ≤ n ∨ ∃ i : TillIx, i.val = n ∧ (s.till i).binding = none) :
    exec (.disableTill n) s = .next (s.untaken.answer t .range (.bytes [])) := by
  simp only [exec, execDisableTill, s.carry_taken t _ _ taken cmd]
  rcases h with absent | ⟨i, rfl, vacant⟩
  · rw [tillOf_absent n absent]
    rfl
  · rw [tillOf_val]
    simp only [State.till_untaken, vacant]
    rfl

theorem State.disableTill_bound (i : TillIx) (b : Binding) (cmd : t.cmd = .disableTill i.val) (hb : (s.till i).binding = some b) :
    exec (.disableTill i.val) s = .next ((s.untaken.disableEntry i b).answer t .ok (.till i)).settle := by
  simp only [exec, execDisableTill, s.carry_taken t _ _ taken cmd, tillOf_val, State.till_untaken, hb]

end

/-- An abandoned context that has no operation of the Holding Store under way disowns none (R106). -/
theorem disown_others (c : CtxIx) (ops : List StoreOp) (writes : ∀ k r, .write k (.ctx c) r ∉ ops) (frees : ∀ k, .free k (.ctx c) ∉ ops) :
    ops.map (StoreOp.disown c) = ops := by
  have same : ∀ o ∈ ops, o.disown c = o := by
    rintro (⟨n, r, h⟩ | ⟨n, r⟩) ho
    · have other : r ≠ .ctx c := by rintro rfl; exact writes n h ho
      rw [StoreOp.disown, if_neg other]
    · have other : r ≠ .ctx c := by rintro rfl; exact frees n ho
      rw [StoreOp.disown, if_neg other]
  exact (List.map_congr_left same).trans (List.map_id' ops)

/-- Settles O56: ENABLE-TILL by the failure mark and the write in flight, DISABLE-TILL by the till's wrap. -/
theorem enableAndDisableTill : Obligations.EnableAndDisableTill := by
  intro s t n taken
  refine ⟨fun cmd => ⟨fun h => s.enableTill_absent t taken n cmd (.inl h), ?_⟩,
    fun cmd => ⟨fun h => s.disableTill_absent t taken n cmd (.inl h), ?_⟩⟩
  · rintro i rfl
    refine ⟨fun vacant => s.enableTill_absent t taken _ cmd (.inr ⟨i, rfl, vacant⟩), fun b hb => ?_⟩
    intro e
    have entry : ∀ k j, e.ctr k j = s.ctr k j := fun _ _ => rfl
    refine ⟨s.enableTill_answers t taken i b cmd hb, fun failed unasked hf ha hw he => ?_, fun w failed hf => ?_⟩
    · obtain ⟨tills, ctr, begun, job, frame⟩ := e.retryRaise_begins t b.slot i unasked hf ha hw he
      refine ⟨_, s.enableTill_retries t taken i b cmd hb failed, tills, by rw [ctr, entry], by rw [ctr]; exact failed, begun, job, ?_⟩
      rw [tills]
      exact frame
    · intro asked carried
      obtain ⟨counters, job, frame⟩ := e.retryRaise_waits t b.slot i w hf
      have tills : (e.retryRaise t b.slot i).tills = e.tills := by rw [frame]
      refine ⟨_, s.enableTill_retries t taken i b cmd hb failed, tills, fun h => ?_, fun h => ?_, job, ?_⟩
      · have rests : e.retryAsked b.slot i = e := if_neg (by rw [entry]; simpa using Option.ne_none_iff_isSome.2 h)
        rw [counters, rests]
        rfl
      · have asks : e.retryAsked b.slot i = e.requestRaise b.slot i := if_pos (by rw [entry]; simpa [asked] using h)
        have ctr : ∀ l j, (e.retryRaise t b.slot i).ctr l j = (e.requestRaise b.slot i).ctr l j := fun l j => by
          rw [State.ctr, counters, asks, State.ctr]
        rw [ctr, counters, asks]
        exact ⟨hf, rfl, rfl, rfl, e.ctr_setCtr_self .., fun l j hne => (ctr l j).trans (e.ctr_setCtr_ne _ hne)⟩
      · rw [tills]
        exact frame
  · rintro i rfl
    refine ⟨fun vacant => s.disableTill_absent t taken _ cmd (.inr ⟨i, rfl, vacant⟩), fun b hb => ?_⟩
    intro disabled
    have runs := s.disableTill_bound t taken i b cmd hb
    obtain ⟨d, hd⟩ : ∃ d : State, d = s.untaken.setTill i { s.till i with binding := some { b with enabled := false } } := ⟨_, rfl⟩
    have drops : s.untaken.disableEntry i b = d.dropMessages i := by rw [hd]; exact s.untaken.disableEntry_eq i b
    have till : d.till i = { s.till i with binding := some { b with enabled := false } } := by rw [hd]; exact State.till_setTill_self ..
    have others : ∀ j, j ≠ i → d.till j = s.till j := fun j hj => by rw [hd]; exact State.till_setTill_ne _ _ hj
    have frame : d = { s.untaken with tills := d.tills } := by rw [hd]; rfl
    have ctx : ∀ c, d.ctx c = s.ctx c := fun c => by rw [hd]; rfl
    have count : ∀ e, d.count e = s.count e := fun e => by rw [hd]; rfl
    have places : d.placeWait = s.placeWait := by rw [hd]; rfl
    rw [drops] at runs
    refine ⟨fun settled => ⟨_, runs, ?_⟩, fun c w m hw ht hm idle holding unique alone => ⟨_, runs, ?_⟩⟩
    · obtain ⟨refuses, empty⟩ := d.dropMessages_settled i (by simpa only [ctx] using settled)
      have after := refuses.till_of_empty empty
      obtain ⟨⟨_, _, _, _, only⟩, -, rest, -, localRefused, refused⟩ := refuses
      rw [till] at after refused localRefused
      rw [count] at localRefused
      refine ⟨⟨after, refused, fun j hj => (rest j hj).trans (others j hj)⟩, localRefused, ?_⟩
      rw [only, frame]
    · obtain ⟨refuses, empty⟩ := d.dropMessages_inFlight i c w m (by rw [ctx]; exact hw) ht hm (by rw [ctx]; exact idle)
        (by rw [ctx]; exact holding) (fun e v he => by rw [ctx]; exact unique e v he) (by rw [places]; exact alone)
      have abandoned := ((d.lost_abandoned i c w (by rw [places]; exact alone)).refused refuses).of_tills (s := s.untaken) frame
      have after := refuses.till_of_empty empty
      have lostTill := d.till_lost i c w (by rw [ctx]; exact hw) ht
      obtain ⟨-, -, rest, -, localRefused, refused⟩ := refuses
      obtain ⟨gone, ctxs, lost, wait, held, whole⟩ := abandoned
      rw [lostTill, if_pos rfl, till] at after refused
      rw [till, d.count_lost _ _ _ _ (by decide), count] at localRefused
      refine ⟨⟨after, refused, fun j hj => ?_⟩, gone, ctxs, wait, fun writes frees => ?_, lost, localRefused, whole⟩
      · rw [rest j hj, lostTill, if_neg hj, others j hj]
      · rw [held, show s.untaken.holding = s.holding from rfl, disown_others c _ writes frees]

end Sys2Proof.Machine
end

section
/-! PROOFS. WRITE-TILL (R40 to R43, R56, R57, R112, R119); it settles O55. -/

namespace Sys2Proof.Machine

/-! ### The operands and the checks (R40) -/

theorem profOf_val (p : ProfIx) : profOf p.val = some p := dif_pos p.isLt

theorem slotOf_val (k : SlotIx) : slotOf k.val = some k := dif_pos k.isLt

theorem profOf_absent (n : Nat) (h : 8 ≤ n) : profOf n = none := dif_neg (Nat.not_lt.2 h)

theorem slotOf_absent (n : Nat) (h : 16 ≤ n) : slotOf n = none := dif_neg (Nat.not_lt.2 h)

theorem State.macFits_iff (s : State) (mac : Mac) :
    s.macFits mac = true ↔ mac ≠ 0 ∧ mac.getLsbD 40 = false ∧ s.identity.map (·.mac) ≠ some mac := by
  simp [State.macFits, isGroup, and_assoc]

/-- The entry has the address or the number. -/
def State.clashes (s : State) (mac : Mac) (number : Nat) (j : TillIx) : Prop :=
  ∃ b, (s.till j).binding = some b ∧ (b.mac = mac ∨ b.number = number)

section

variable (s : State) (i : TillIx) (mac : Mac) (number : Nat)

theorem State.conflict_test (j : TillIx) :
    (j != i && (match (s.till j).binding with | none => false | some b => b.mac == mac || b.number == number)) = true
      ↔ j ≠ i ∧ s.clashes mac number j := by
  unfold State.clashes
  cases (s.till j).binding <;> simp

/-- Check 3 names the lowest index of another entry that has the address or the number (R40). -/
theorem State.conflict_lowest (j : TillIx) (hj : j ≠ i) (clash : s.clashes mac number j)
    (first : ∀ d < j, d ≠ i → ¬ s.clashes mac number d) : s.conflict i mac number = some j := by
  refine (find?_ofNat_range 128 _ j).2 ⟨(s.conflict_test i mac number j).2 ⟨hj, clash⟩, fun d hd => ?_⟩
  exact Bool.eq_false_iff.2 fun h => ((s.conflict_test i mac number d).1 h).elim (first d hd)

theorem State.conflict_free (free : ∀ j, j ≠ i → ¬ s.clashes mac number j) : s.conflict i mac number = none :=
  List.find?_eq_none.2 fun j _ h => ((s.conflict_test i mac number j).1 h).elim (free j)

end

section

variable (s : State) (t : Taken) (taken : s.mgmt.taken = some t) (mac : Mac) (number : Nat)
include taken

theorem State.writeTill_absent (index profile slot : Nat) (cmd : t.cmd = .writeTill index mac number profile slot)
    (h : 128 ≤ index ∨ 8 ≤ profile ∨ 16 ≤ slot ∨ 9999 < number) :
    exec (.writeTill index mac number profile slot) s = .next (s.untaken.answer t .range (.bytes [])) := by
  simp only [exec, execWriteTill, s.carry_taken t _ _ taken cmd]
  split
  case h_1 i p k hi hp hk =>
    rcases h with h | h | h | h
    · rw [tillOf_absent index h] at hi; cases hi
    · rw [profOf_absent profile h] at hp; cases hp
    · rw [slotOf_absent slot h] at hk; cases hk
    · rw [if_pos h]; rfl
  case h_2 => rfl

variable (i : TillIx) (p : ProfIx) (k : SlotIx) (cmd : t.cmd = .writeTill i.val mac number p.val k.val) (low : number ≤ 9999)
include cmd low

theorem State.writeTill_unfit (hn : number ≠ 0) (unfit : s.macFits mac = false) :
    exec (.writeTill i.val mac number p.val k.val) s = .next (s.untaken.answer t .range (.bytes [])) := by
  simp only [exec, execWriteTill, s.carry_taken t _ _ taken cmd, tillOf_val, profOf_val, slotOf_val]
  have unfit' : s.untaken.macFits mac = false := unfit
  rw [if_neg (Nat.not_lt.2 low), if_pos ⟨hn, by rw [unfit']; rfl⟩]
  rfl

theorem State.writeTill_clashes (hn : number ≠ 0) (fits : s.macFits mac = true) (j : TillIx) (h : s.conflict i mac number = some j) :
    exec (.writeTill i.val mac number p.val k.val) s = .next (s.untaken.answer t .addressInUse (.bytes (be 1 j.val))) := by
  simp only [exec, execWriteTill, s.carry_taken t _ _ taken cmd, tillOf_val, profOf_val, slotOf_val]
  have fits' : s.untaken.macFits mac = true := fits
  have conflict : s.untaken.conflict i mac number = some j := h
  rw [if_neg (Nat.not_lt.2 low), if_neg fun h => by rw [fits'] at h; exact Bool.false_ne_true h.2, if_neg hn, conflict]

theorem State.writeTill_writes (h : number = 0 ∨ s.macFits mac = true ∧ s.conflict i mac number = none) :
    exec (.writeTill i.val mac number p.val k.val) s =
      .next ((s.untaken.writeEntry i mac number p k).answer t .ok (.till i)).settle := by
  simp only [exec, execWriteTill, s.carry_taken t _ _ taken cmd, tillOf_val, profOf_val, slotOf_val]
  have checked : ¬ (number ≠ 0 ∧ (!s.untaken.macFits mac) = true) := by
    rintro ⟨hn, unfit⟩
    have fits : s.untaken.macFits mac = true := (h.resolve_left hn).1
    rw [fits] at unfit
    cases unfit
  have free : (if number = 0 then none else s.untaken.conflict i mac number) = none := by
    split
    next => rfl
    next hn => exact (h.resolve_left hn).2
  rw [if_neg (Nat.not_lt.2 low), if_neg checked, free]

end

/-! ### A new till (R41; log 19) -/

theorem State.ctx_createTill (s : State) (i : TillIx) (b : Binding) (d : CtxIx) : (s.createTill i b).ctx d = (s.ctx d).leftBehind i :=
  Vector.getElem_map ..

theorem State.till_createTill (s : State) (i : TillIx) (b : Binding) (j : TillIx) :
    (s.createTill i b).till j = if j = i then { vacantTill with binding := some b } else s.till j :=
  State.till_setTill ..

/-! ### A message returned to its queue (R57, R112; log 61) -/

section

variable (s : State) (i : TillIx)

theorem State.displaceTail_short (h : (s.till i).queue.length < 3) : s.displaceTail i = s := by
  unfold State.displaceTail
  split
  next hq =>
    rw [hq] at h
    exact absurd h (by simp)
  next => rfl

theorem State.displaceTail_full (x y z : TillMsg) (more : List TillMsg) (h : (s.till i).queue = x :: y :: z :: more) :
    RefusesMessages i 1 s (s.displaceTail i) ∧ ((s.displaceTail i).till i).queue = [x, y] := by
  obtain ⟨d, hd⟩ : ∃ d : State, d = s.setTill i { s.till i with queue := [x, y] } := ⟨_, rfl⟩
  have displaces : s.displaceTail i = d.replyTo i z (.refused .busy) := by
    rw [State.displaceTail, h, hd]
  rw [displaces]
  have set : RefusesMessages i 0 s d := by rw [hd]; exact .setQueue s i _
  have queue : (d.till i).queue = [x, y] := by rw [hd, State.till_setTill_self]
  obtain ⟨_, same⟩ := d.replyTo_sameTill i i z (.refused .busy)
  exact ⟨(Nat.zero_add 1) ▸ set.trans (.reply d i z .busy), by rw [same, ← queue]⟩

theorem State.displaceTail_refuses : ∃ n, RefusesMessages i n s (s.displaceTail i) := by
  match hq : (s.till i).queue with
  | x :: y :: z :: more => exact ⟨1, (s.displaceTail_full i x y z more hq).1⟩
  | [_, _] => exact ⟨0, by rw [s.displaceTail_short i (by simp [hq])]; exact .refl s i⟩
  | [_] => exact ⟨0, by rw [s.displaceTail_short i (by simp [hq])]; exact .refl s i⟩
  | [] => exact ⟨0, by rw [s.displaceTail_short i (by simp [hq])]; exact .refl s i⟩

variable (m : TillMsg)

/-- The message returned, and the queue of a till that stands barred refused. -/
def State.returned : State := (s.returnMessage i m).refuseIfBarred i

theorem State.requeued_refuses : RefusesMessages i 0 s (s.requeued i m) := .setQueue s i _

theorem State.queue_requeued : ((s.requeued i m).till i).queue = m :: (s.till i).queue := by rw [State.requeued, State.till_setTill_self]

theorem State.returned_barred (h : (s.completionRefusal i).isSome = true) :
    RefusesMessages i (1 + (s.till i).queue.length) s (s.returned i m) ∧ ((s.returned i m).till i).queue = [] := by
  have requeued := s.requeued_refuses i m
  have barred : ((s.requeued i m).completionRefusal i).isSome = true := by rw [requeued.completionRefusal]; exact h
  have returned : s.returned i m = (s.requeued i m).refuseIfBarred i := congrArg (State.refuseIfBarred · i) (if_pos barred)
  obtain ⟨refuses, empty⟩ := (s.requeued i m).refuseIfBarred_barred i barred
  have all := requeued.trans refuses
  rw [s.queue_requeued, List.length_cons, Nat.zero_add, Nat.add_comm] at all
  rw [returned]
  exact ⟨all, empty⟩

variable (free : s.completionRefusal i = none)
include free

theorem State.returned_free : s.returned i m = (s.requeued i m).displaceTail i := by
  have unbarred : (s.requeued i m).completionRefusal i = none := by rw [(s.requeued_refuses i m).completionRefusal]; exact free
  obtain ⟨n, refuses⟩ := (s.requeued i m).displaceTail_refuses i
  have displaced : s.returnMessage i m = (s.requeued i m).displaceTail i := if_neg fun h => by
    have some : ((s.requeued i m).completionRefusal i).isSome = true := h
    rw [unbarred] at some
    cases some
  rw [State.returned, displaced]
  exact State.refuseIfBarred_free _ i (refuses.completionRefusal.trans unbarred)

theorem State.returned_short (h : (s.till i).queue.length < 2) :
    RefusesMessages i 0 s (s.returned i m) ∧ ((s.returned i m).till i).queue = m :: (s.till i).queue := by
  have short : (s.requeued i m).displaceTail i = s.requeued i m :=
    State.displaceTail_short _ i (by rw [s.queue_requeued, List.length_cons]; omega)
  rw [s.returned_free i m free, short]
  exact ⟨s.requeued_refuses i m, s.queue_requeued i m⟩

theorem State.returned_full (x y : TillMsg) (h : (s.till i).queue = [x, y]) :
    RefusesMessages i 1 s (s.returned i m) ∧ ((s.returned i m).till i).queue = [m, x] := by
  obtain ⟨refuses, queue⟩ := (s.requeued i m).displaceTail_full i m x y [] (by rw [s.queue_requeued, h])
  rw [s.returned_free i m free]
  exact ⟨(Nat.zero_add 1) ▸ (s.requeued_refuses i m).trans refuses, queue⟩

omit free in
theorem State.returned_refuses : ∃ n, RefusesMessages i n s (s.returned i m) := by
  cases h : s.completionRefusal i with
  | some x => exact ⟨_, (s.returned_barred i m (by rw [h]; rfl)).1⟩
  | none =>
    obtain ⟨n, refuses⟩ := (s.requeued i m).displaceTail_refuses i
    rw [s.returned_free i m h]
    exact ⟨0 + n, (s.requeued_refuses i m).trans refuses⟩

end

/-! ### The entry rewritten and emptied (R42, R43, R46) -/

/-- What messages refused leave of an entry whose binding and record were replaced first, and what they count. -/
def Replaced (s u : State) (i : TillIx) (b : Option Binding) (r : Option AssemblyRecord) (flag : Bool) (n : Nat) : Prop :=
  (∀ j, j ≠ i → u.till j = s.till j)
    ∧ ((u.till i).binding = b ∧ (u.till i).record = r ∧ (u.till i).wrapped = (s.till i).wrapped ∧ (u.till i).stoodIn = (s.till i).stoodIn
        ∧ (u.till i).wrapInFlight = flag)
    ∧ (s.count .localRefused ≤ 65535 → u.count .localRefused = min (s.count .localRefused + n) 65535)
    ∧ ((s.till i).refused ≤ 65535 → (u.till i).refused = min ((s.till i).refused + n) 65535)

/-- The state with an entry's binding and record replaced. -/
def State.rebound (s : State) (i : TillIx) (b : Option Binding) (r : Option AssemblyRecord) : State :=
  s.setTill i { s.till i with binding := b, record := r }

section

variable (s : State) (i : TillIx) (b : Option Binding) (r : Option AssemblyRecord)

theorem State.till_rebound : (s.rebound i b r).till i = { s.till i with binding := b, record := r } := s.till_setTill_self ..

theorem State.till_rebound_ne (j : TillIx) (hj : j ≠ i) : (s.rebound i b r).till j = s.till j := s.till_setTill_ne _ hj

theorem State.rebound_replaced {n : Nat} {u : State} (h : RefusesMessages i n (s.rebound i b r) u) :
    Replaced s u i b r (s.till i).wrapInFlight n := by
  obtain ⟨-, -, others, ⟨queue, refused, till⟩, counted, counts⟩ := h
  rw [s.till_rebound] at till counts
  exact ⟨fun j hj => (others j hj).trans (s.till_rebound_ne i b r j hj), by rw [till]; exact ⟨rfl, rfl, rfl, rfl, rfl⟩, counted, counts⟩

theorem State.rebound_lost_replaced (c : CtxIx) (w : Wrap) (hw : (s.ctx c).wrap = some w) (ht : w.till = i) {n : Nat} {u : State}
    (h : RefusesMessages i n ((s.rebound i b r).lost i c w) u) : Replaced s u i b r (w.flagAfter (s.till i).wrapInFlight) n := by
  obtain ⟨-, -, others, ⟨queue, refused, till⟩, counted, counts⟩ := h
  have lost := (s.rebound i b r).till_lost i c w hw ht
  rw [lost, if_pos rfl, s.till_rebound] at till counts
  rw [State.count_lost _ _ _ _ _ (by decide)] at counted
  refine ⟨fun j hj => ?_, by rw [till]; exact ⟨rfl, rfl, rfl, rfl, rfl⟩, counted, counts⟩
  rw [others j hj, lost, if_neg hj, s.till_rebound_ne i b r j hj]

theorem State.rebound_lost_abandoned (c : CtxIx) (w : Wrap) (alone : ∀ d ∈ s.placeWait, d = c) {n : Nat} {u : State}
    (h : RefusesMessages i n ((s.rebound i b r).lost i c w) u) : Abandoned c s u :=
  (((s.rebound i b r).lost_abandoned i c w alone).refused h).of_tills rfl

theorem State.rebound_frame {n : Nat} {u : State} (h : RefusesMessages i n (s.rebound i b r) u) :
    u = { s with tills := u.tills, events := u.events, lane := u.lane, ipId := u.ipId } := by
  rw [h.1.eq]
  rfl

theorem State.emptyTill_rebound : s.emptyTill i = (s.rebound i none none).dropMessages i := rfl

/-- The till's wrap loses its reservation, and its message goes back (R56, R57). -/
def State.recalled (s : State) (i : TillIx) : State :=
  match (s.loseReservation i).2 with
  | none => (s.loseReservation i).1
  | some m => (s.loseReservation i).1.returnMessage i m

theorem State.recalled_settled (h : ∀ c w, (s.ctx c).wrap = some w → w.till = i → (s.ctx c).phase = .holding) : s.recalled i = s := by
  rw [State.recalled, s.loseReservation_settled i (s.openWrap_settled i h)]

/-- The record a rewriting leaves (R42). -/
def keptRecord (old new : Binding) (r : Option AssemblyRecord) : Option AssemblyRecord :=
  if old.mac ≠ new.mac ∨ old.number ≠ new.number then none else r

theorem State.rewriteTill_eq (old new : Binding) : s.rewriteTill i old new =
    (if (old.mac ≠ new.mac ∨ old.number ≠ new.number) ∨ old.slot ≠ new.slot then
        (s.rebound i (some new) (keptRecord old new (s.till i).record)).recalled i
      else s.rebound i (some new) (keptRecord old new (s.till i).record)).refuseIfBarred i := rfl

/-- A rewriting that loses no reservation. -/
theorem State.rewriteTill_settled (old new : Binding)
    (h : (∀ c w, (s.ctx c).wrap = some w → w.till = i → (s.ctx c).phase = .holding)
      ∨ (old.mac = new.mac ∧ old.number = new.number) ∧ old.slot = new.slot) :
    s.rewriteTill i old new = (s.rebound i (some new) (keptRecord old new (s.till i).record)).refuseIfBarred i := by
  rw [s.rewriteTill_eq i old new]
  split
  next moved =>
    rcases h with settled | ⟨⟨mac, number⟩, slot⟩
    · rw [State.recalled_settled (s.rebound i _ _) i settled]
    · exact absurd moved (by simp [mac, number, slot])
  next => rfl

/-- A rewriting that takes its reservation from a wrap in flight. -/
theorem State.rewriteTill_inFlight (old new : Binding) (moved : ¬ ((old.mac = new.mac ∧ old.number = new.number) ∧ old.slot = new.slot))
    (c : CtxIx) (w : Wrap) (m : TillMsg) (hw : (s.ctx c).wrap = some w) (ht : w.till = i) (hm : w.msg = some m)
    (idle : (s.ctx c).phase ≠ .idle) (holding : (s.ctx c).phase ≠ .holding) (others : s.othersSettled i c)
    (alone : ∀ d ∈ s.placeWait, d = c) :
    s.rewriteTill i old new =
      ((s.rebound i (some new) (keptRecord old new (s.till i).record)).lost i c w).returned i m := by
  obtain ⟨d, hd⟩ : ∃ d : State, d = s.rebound i (some new) (keptRecord old new (s.till i).record) := ⟨_, rfl⟩
  have ctx : ∀ e, d.ctx e = s.ctx e := fun e => by rw [hd]; rfl
  have places : d.placeWait = s.placeWait := by rw [hd]; rfl
  have found : d.openWrap i = some (c, w) := d.openWrap_inFlight i c w (by rw [ctx]; exact hw) ht (by rw [ctx]; exact idle)
    (by rw [ctx]; exact holding) fun e v he => by rw [ctx]; exact others e v he
  have lost := d.loseReservation_lost i c w found (by rw [places]; exact alone)
  have recalled : d.recalled i = (d.lost i c w).returnMessage i m := by rw [State.recalled, lost, hm]
  rw [s.rewriteTill_eq i old new, ← hd, if_pos (by tauto), recalled]
  rfl

/-- Where the reservation stays, the queue is refused where the till stands barred, and nothing more (R42, R112). -/
theorem State.rewriteTill_rests (old new : Binding)
    (h : (∀ c w, (s.ctx c).wrap = some w → w.till = i → (s.ctx c).phase = .holding)
      ∨ (old.mac = new.mac ∧ old.number = new.number) ∧ old.slot = new.slot) :
    let d := s.rebound i (some new) (keptRecord old new (s.till i).record)
    let u := s.rewriteTill i old new
    (∃ n, RefusesMessages i n d u)
      ∧ ((u.completionRefusal i).isSome = true → RefusesMessages i (s.till i).queue.length d u ∧ (u.till i).queue = [])
      ∧ (u.completionRefusal i = none → u = d) := by
  intro d u
  have stays : u = d.refuseIfBarred i := s.rewriteTill_settled i old new h
  rw [stays]
  cases barred : d.completionRefusal i with
  | some x =>
    obtain ⟨refuses, empty⟩ := d.refuseIfBarred_barred i (by rw [barred]; rfl)
    rw [s.till_rebound] at refuses
    refine ⟨⟨_, refuses⟩, fun _ => ⟨refuses, empty⟩, fun free => ?_⟩
    rw [refuses.completionRefusal, barred] at free
    cases free
  | none =>
    rw [d.refuseIfBarred_free i barred]
    refine ⟨⟨0, .refl d i⟩, fun some => ?_, fun _ => rfl⟩
    rw [barred] at some
    cases some

/-- Where the reservation is lost, the message returns, and is refused with the queue where the till stands barred (R57, R112; log 61). -/
theorem State.rewriteTill_returns (old new : Binding) (moved : ¬ ((old.mac = new.mac ∧ old.number = new.number) ∧ old.slot = new.slot))
    (c : CtxIx) (w : Wrap) (m : TillMsg) (hw : (s.ctx c).wrap = some w) (ht : w.till = i) (hm : w.msg = some m)
    (idle : (s.ctx c).phase ≠ .idle) (holding : (s.ctx c).phase ≠ .holding) (others : s.othersSettled i c)
    (alone : ∀ d ∈ s.placeWait, d = c) :
    let l := (s.rebound i (some new) (keptRecord old new (s.till i).record)).lost i c w
    let u := s.rewriteTill i old new
    (∃ n, RefusesMessages i n l u)
      ∧ ((u.completionRefusal i).isSome = true → RefusesMessages i (1 + (s.till i).queue.length) l u ∧ (u.till i).queue = [])
      ∧ (u.completionRefusal i = none →
          ((s.till i).queue.length < 2 → RefusesMessages i 0 l u ∧ (u.till i).queue = m :: (s.till i).queue)
            ∧ ∀ x y, (s.till i).queue = [x, y] → RefusesMessages i 1 l u ∧ (u.till i).queue = [m, x]) := by
  intro l u
  have goes : u = l.returned i m := s.rewriteTill_inFlight i old new moved c w m hw ht hm idle holding others alone
  have queue : (l.till i).queue = (s.till i).queue := by
    rw [show l.till i = _ from State.till_lost (s.rebound i _ _) i c w hw ht i, if_pos rfl, s.till_rebound]
  obtain ⟨n, refuses⟩ := l.returned_refuses i m
  have answers := refuses.completionRefusal
  rw [goes, ← queue]
  refine ⟨⟨n, refuses⟩, fun barred => l.returned_barred i m (by rw [← answers]; exact barred), fun free => ?_⟩
  have unbarred : l.completionRefusal i = none := by rw [← answers]; exact free
  exact ⟨l.returned_short i m unbarred, l.returned_full i m unbarred⟩

end

theorem keptRecord_eq (old new : Binding) (r : Option AssemblyRecord) :
    keptRecord old new r = if old.mac = new.mac ∧ old.number = new.number then r else none := by
  unfold keptRecord
  by_cases same : old.mac = new.mac ∧ old.number = new.number
  · rw [if_pos same, if_neg (by tauto)]
  · rw [if_neg same, if_pos (by tauto)]

/-- Settles O55: WRITE-TILL by its checks, then by the entry found and the wrap in flight. -/
theorem writeTillCreatesRewritesEmpties : Obligations.WriteTillCreatesRewritesEmpties := by
  intro s t index mac number profile slot taken cmd outcome refused counted
  refine ⟨s.writeTill_absent t taken mac number index profile slot cmd, ?_⟩
  rintro i p k rfl rfl rfl low
  intro others clash free refusals flagAfter settled inFlight abandoned
  have writes := s.writeTill_writes t taken mac number i p k cmd low
  have till : ∀ j, s.untaken.till j = s.till j := fun _ => rfl
  refine ⟨fun hn bad => ?_, fun hn zeros single own => ?_, fun hn vacant => ?_, fun old hn hb => ?_⟩
  · refine s.writeTill_unfit t taken mac number i p k cmd low hn (Bool.eq_false_iff.2 fun fits => ?_)
    obtain ⟨zeros, single, own⟩ := (s.macFits_iff mac).1 fits
    rcases bad with h | h | h
    · exact zeros h
    · rw [h] at single; cases single
    · exact own h
  · have fits := (s.macFits_iff mac).2 ⟨zeros, single, own⟩
    refine ⟨fun j hj hc first => ?_, fun unique vacant => ?_, fun old unique hb => ?_⟩
    · exact s.writeTill_clashes t taken mac number i p k cmd low hn fits j (s.conflict_lowest i mac number j hj hc first)
    · have runs := writes (.inr ⟨fits, s.conflict_free i mac number unique⟩)
      rw [State.writeEntry, till, vacant] at runs
      refine ⟨_, runs.trans (by rw [if_neg hn]), fun j hj => ?_, ?_, fun d => ?_, rfl⟩
      · rw [State.till_createTill, if_neg hj, till]
      · rw [State.till_createTill, if_pos rfl]
        rfl
      · rw [State.ctx_createTill]
        exact ⟨rfl, rfl⟩
    · have runs := writes (.inr ⟨fits, s.conflict_free i mac number unique⟩)
      obtain ⟨new, hnew⟩ : ∃ b : Binding, b = { enabled := old.enabled, mac := mac, number := number, profile := p, slot := k } := ⟨_, rfl⟩
      have newMac : new.mac = mac := by rw [hnew]
      have newNumber : new.number = number := by rw [hnew]
      have newSlot : new.slot = k := by rw [hnew]
      simp only [State.writeEntry, till, hb, if_neg hn, ← hnew] at runs
      have record := keptRecord_eq old new (s.till i).record
      rw [newMac, newNumber] at record
      intro same rewritten
      refine ⟨fun rests => ?_, fun c w m moved ⟨hw, ht, idle, holding, alone, unique⟩ hm => ?_⟩
      · obtain ⟨⟨n, refuses⟩, barred, free⟩ := s.untaken.rewriteTill_rests i old new (by rw [newMac, newNumber, newSlot]; exact rests)
        obtain ⟨rest, ⟨binding, kept, wrapped, stoodIn, flag⟩, -⟩ := s.untaken.rebound_replaced i _ _ refuses
        refine ⟨_, ⟨runs, rest, by rw [binding, hnew], kept.trans record, wrapped, stoodIn⟩, flag, fun h => ?_, fun h => ?_,
          s.untaken.rebound_frame i _ _ refuses⟩
        · obtain ⟨all, empty⟩ := barred h
          obtain ⟨-, -, counts⟩ := s.untaken.rebound_replaced i _ _ all
          exact ⟨empty, counts⟩
        · rw [free h, State.till_rebound]
          exact ⟨rfl, rfl, rfl⟩
      · obtain ⟨⟨n, refuses⟩, barred, free⟩ := s.untaken.rewriteTill_returns i old new (by rw [newMac, newNumber, newSlot]; exact moved)
          c w m hw ht hm idle holding unique alone
        obtain ⟨gone, ctxs, lost, wait, -, whole⟩ := s.untaken.rebound_lost_abandoned i _ _ c w alone refuses
        have replaced := fun n => s.untaken.rebound_lost_replaced i (some new) (keptRecord old new (s.till i).record) c w hw ht (n := n)
          (u := s.untaken.rewriteTill i old new)
        obtain ⟨rest, ⟨binding, kept, wrapped, stoodIn, flag⟩, -⟩ := replaced n refuses
        refine ⟨_, ⟨runs, rest, by rw [binding, hnew], kept.trans record, wrapped, stoodIn⟩, ⟨gone, ctxs, lost, wait, whole⟩, flag,
          fun h => ?_, fun h => ⟨fun short => ?_, fun x y full => ?_⟩⟩
        · obtain ⟨all, empty⟩ := barred h
          obtain ⟨-, -, counts⟩ := replaced _ all
          exact ⟨empty, counts⟩
        · obtain ⟨all, queue⟩ := (free h).1 short
          obtain ⟨-, -, counts⟩ := replaced _ all
          exact ⟨queue, counts⟩
        · obtain ⟨all, queue⟩ := (free h).2 x y full
          obtain ⟨-, -, counts⟩ := replaced _ all
          exact ⟨queue, counts⟩
  · have runs := writes (.inl hn)
    rw [State.writeEntry, till, vacant] at runs
    exact runs.trans (by rw [if_pos hn])
  · have runs := writes (.inl hn)
    simp only [State.writeEntry, till, hb, if_pos hn, State.emptyTill_rebound] at runs
    obtain ⟨d, hd⟩ : ∃ d : State, d = s.untaken.rebound i none none := ⟨_, rfl⟩
    have dtill : (d.till i).queue = (s.till i).queue := by rw [hd, State.till_rebound]; rfl
    have ctx : ∀ e, d.ctx e = s.ctx e := fun e => by rw [hd]; rfl
    have places : d.placeWait = s.placeWait := by rw [hd]; rfl
    refine ⟨fun rests => ?_, ?_⟩
    · obtain ⟨refuses, empty⟩ := d.dropMessages_settled i (by simpa only [ctx] using rests)
      rw [dtill] at refuses
      rw [hd] at refuses empty
      obtain ⟨rest, ⟨binding, record, wrapped, stoodIn, flag⟩, counts⟩ := s.untaken.rebound_replaced i none none refuses
      exact ⟨_, ⟨runs, rest, binding, record, empty, wrapped, stoodIn⟩, counts, flag, s.untaken.rebound_frame i none none refuses⟩
    · rintro c w m ⟨hw, ht, idle, holding, alone, unique⟩ hm
      obtain ⟨refuses, empty⟩ := d.dropMessages_inFlight i c w m (by rw [ctx]; exact hw) ht hm (by rw [ctx]; exact idle)
        (by rw [ctx]; exact holding) (fun e v he => by rw [ctx]; exact unique e v he) (by rw [places]; exact alone)
      rw [dtill] at refuses
      rw [hd] at refuses empty
      obtain ⟨rest, ⟨binding, record, wrapped, stoodIn, flag⟩, counts⟩ := s.untaken.rebound_lost_replaced i none none c w hw ht refuses
      obtain ⟨gone, ctxs, lost, wait, -, whole⟩ := s.untaken.rebound_lost_abandoned i none none c w alone refuses
      exact ⟨_, ⟨runs, rest, binding, record, empty, wrapped, stoodIn⟩, ⟨gone, ctxs, lost, wait, whole⟩, counts, flag⟩

end Sys2Proof.Machine
end

section
/-! PROOFS. The reading commands and what they report (R170, R174, R181, R195); it settles O54. -/

namespace Sys2Proof.Machine

/-! ### The write of an accepted number (R174) -/

theorem State.answer_begins (s : State) (t : Taken) (x : Status) (r : Results) (he : s.erasing = false) (hw : s.writer1.eraseWanted = false)
    (hf : s.writer1.inFlight = none) :
    s.answer t x r = (s.addJob (t.job x r)).writing1 (some s.sector1) := by
  have free := State.kick1_free { s.addJob (t.job x r) with writer1 := { s.writer1 with wanted := true } } hf he
  exact free.trans ((if_neg (by simp [hw])).trans (if_pos rfl))

theorem State.answer_queues (s : State) (t : Taken) (x : Status) (r : Results) (hf : s.writer1.inFlight.isSome = true) :
    s.answer t x r = { s.addJob (t.job x r) with writer1 := { s.writer1 with wanted := true } } :=
  State.kick1_busy _ (.inl hf)

/-! ### What READ-EVENTS clears (R195, R196) -/

theorem Events.latched_clear (v : Events) (classes : BitVec 8) (k : EventClass) :
    (v.clear classes).latched.getLsbD k.bit = (v.latched.getLsbD k.bit && !classes.getLsbD k.bit) := by
  have small : k.bit < 8 := by cases k <;> decide
  simp [Events.clear, small]

/-! ### The pieces of the reports (R181; logs 16, 30) -/

theorem State.waitingBytes_eq (s : State) : s.waitingBytes =
    be 1 (((s.mgmt.jobs.find? Job.isWaiting).map (·.code)).getD 0) ++ be 4 (((s.mgmt.jobs.find? Job.isWaiting).map (·.number)).getD 0) := by
  unfold State.waitingBytes
  cases s.mgmt.jobs.find? Job.isWaiting <;> rfl

theorem State.usableFp_isSome (s : State) :
    s.usableFp.isSome = (match s.keys.fp with | none => false | some r => !r.failed) := by
  unfold State.usableFp
  cases s.keys.fp with
  | none => rfl
  | some r => cases hr : r.failed <;> simp [hr]

theorem ctxBytes_eq (x : Ctx) : ctxBytes x = be 1 x.phase.code ++ (match x.wrap with
    | none => be 1 0 ++ be 4 0 ++ be 4 0
    | some w => be 1 w.till.val ++ be 4 ((w.msg.map (·.reference)).getD ((w.inHand.map (·.reference)).getD 0)) ++ be 4 w.counter) := by
  unfold ctxBytes
  cases x.wrap <;> simp only [List.append_assoc]

/-! ### The groups of READ-STATUS (R181) -/

def State.partBytes (s : State) : Bytes :=
  be 1 s.opState.code ++ be 1 s.settings.store.policy.code ++ beVec 8 s.serial ++ be 4 s.mgmt.last ++ s.waitingBytes

def State.linkGroup (s : State) : Bytes :=
  be 1 s.link.state.code ++ be 1 s.link.run ++ be 1 (if s.link.physicalUp then 1 else 2) ++ flag s.link.settleTimer.isSome
    ++ flag s.link.settled ++ be 4 s.link.probeCount ++ be 1 s.link.awaited.length ++ linkBytes s.settings.link

def State.drainGroup (s : State) : Bytes :=
  be 1 s.drain.state.code ++ be 1 s.settings.store.mode.code ++ flag s.settings.suspended ++ be 1 s.settings.store.window
    ++ be 1 s.settings.store.ackTimeout ++ flag s.drain.summary.isSome
    ++ flag ((s.drain.summary.map (·.unread)).getD false) ++ flag ((s.drain.summary.map (·.overwritten)).getD false)

def State.storeGroup (s : State) : Bytes :=
  be 2 (Config.holdingSlots - s.holding.lines.length - s.holding.bad.length)
    ++ be 2 (s.holding.lines.length - (s.holding.lines.filter (·.held)).length) ++ be 2 (s.holding.lines.filter (·.held)).length
    ++ be 2 s.holding.bad.length ++ be 2 s.holding.drainingCount ++ be 4 s.holding.last ++ be 4 s.holding.next

def State.standInGroup (s : State) : Bytes :=
  be 6 s.standIn.storeTotal ++ be 6 s.settings.storeLimit ++ be 2 s.standIn.cards.length

def State.outstandingGroup (s : State) : Bytes :=
  be 2 s.outstanding.length ++ be 2 s.takenPlaces ++ be 2 s.placeWait.length ++ be 4 s.earliestDeadline

def State.arbiterGroup (s : State) : Bytes :=
  be 1 s.arbiter.g ++ be 1 s.settings.store.share ++ be 1 s.arbiter.attended.val ++ be 1 s.arbiter.kiosk.val

def State.slotBytes (s : State) (k : SlotIx) : Bytes :=
  be 1 (s.slot k).state.code ++ be 2 (s.slot k).floor ++ flag (s.slot k).busy ++ recordBytes (s.slot k).previous
    ++ recordBytes (s.slot k).current ++ recordBytes (s.slot k).staged

def State.fingerprintGroup (s : State) : Bytes := recordBytes s.keys.fp ++ be 2 s.keys.fpFloor ++ flag s.usableFp.isSome

def State.settingsGroup (s : State) : Bytes :=
  be 2 s.settings.store.asmTimeout ++ portBytes s.settings.store.ports ++ beVec 4 s.settings.store.ownIp
    ++ gatewayBytes s.settings.store.drainGw ++ gatewayBytes s.settings.store.probeGw ++ beVec 1 s.settings.store.enabled

theorem State.statusBytes_groups (s : State) : s.statusBytes =
    s.partBytes ++ s.linkGroup ++ s.drainGroup ++ s.storeGroup ++ s.standInGroup ++ s.outstandingGroup ++ s.arbiterGroup
      ++ allCtxs.flatMap (fun i => ctxBytes (s.ctx i)) ++ allSlots.flatMap (fun k => s.slotBytes k) ++ s.fingerprintGroup
      ++ allProfiles.flatMap (fun i => profileBytes (s.profile i)) ++ s.settingsGroup := by
  unfold State.statusBytes State.partBytes State.linkGroup State.drainGroup State.storeGroup State.standInGroup State.outstandingGroup
    State.arbiterGroup State.slotBytes State.fingerprintGroup State.settingsGroup
  simp only [List.append_assoc]

/-- Settles O54: the sector 1 write of the number, the rows, and the reports piece by piece. -/
theorem readingCommandsAnswer : Obligations.ReadingCommandsAnswer := by
  refine ⟨fun s t x r he hw => ?_, fun s t taken cmd => ?_, fun s t n taken cmd => ?_, fun s t first count taken cmd => ?_,
    fun s t clear taken cmd => ?_, fun s t taken cmd => ?_, fun s => ?_⟩
  · intro u job
    refine ⟨fun hf => ?_, fun hf => ?_, s.answer_frame t x r⟩
    · rw [show u = _ from s.answer_begins t x r he hw hf]
      refine ⟨rfl, rfl, ?_⟩
      show ((s.mgmt.jobs ++ [t.job x r]).map Job.begun1).getLast? = _
      rw [List.map_append]
      exact List.getLast?_concat ..
    · rw [show u = _ from s.answer_queues t x r hf]
      exact ⟨rfl, rfl⟩
  · simp only [exec, execReadStatus, s.carry_taken t _ _ taken cmd]
  · refine ⟨?_, fun absent => ?_⟩
    · rintro i rfl
      simp only [exec, execReadTill, s.carry_taken t _ _ taken cmd, tillOf_val]
    · simp only [exec, execReadTill, s.carry_taken t _ _ taken cmd, tillOf_absent n absent]
      rfl
  · simp only [exec, execReadCounters, s.carry_taken t _ _ taken cmd]
    refine ⟨fun low high => by rw [if_pos ⟨low, high⟩], fun outside => ?_⟩
    rw [if_neg (by omega)]
    rfl
  · refine ⟨{ s.untaken with events := s.events.clear clear }, ?_, s.events.latched_clear clear, rfl, rfl, rfl⟩
    simp only [exec, execReadEvents, s.carry_taken t _ _ taken cmd]
    rfl
  · refine ⟨{ s.untaken with drain := { s.drain with summary := s.drain.summary.map fun y => { y with unread := false } } }, ?_,
      fun h => ?_, fun x h => ?_⟩
    · simp only [exec, execReadDrainSummary, s.carry_taken t _ _ taken cmd]
      rfl
    · rw [h, Option.map_none, ← h]
      rfl
    · rw [h]
      rfl
  · intro bit gateway record drainCode x h waiting part link drain held store standIn earliest out arbiter phase context slot fp profile
      settings location till
    refine ⟨?_, fun i => ?_, ?_, rfl, fun y => rfl⟩
    · have records : ∀ r, recordBytes r = record r := fun r => by cases r <;> rfl
      have contexts : ∀ i, ctxBytes (s.ctx i) = context i := fun i => ctxBytes_eq (s.ctx i)
      have profiles : ∀ i, profileBytes (s.profile i) = profile i := fun i => rfl
      have slots : ∀ k, s.slotBytes k = slot k := fun k => by simp only [State.slotBytes, records]; rfl
      have parts : s.partBytes = part := by rw [State.partBytes, s.waitingBytes_eq, ← List.append_assoc]; rfl
      have links : s.linkGroup = link := by simp only [State.linkGroup, linkBytes, link, List.append_assoc]; rfl
      have drains : s.drainGroup = drain := rfl
      have stores : s.storeGroup = store := rfl
      have fingerprint : s.fingerprintGroup = fp := by rw [State.fingerprintGroup, records, s.usableFp_isSome]; rfl
      have rest : s.settingsGroup = settings := by simp only [State.settingsGroup, portBytes, settings, List.append_assoc]; rfl
      have whole := s.statusBytes_groups
      simp only [contexts, slots, profiles, parts, links, drains, stores, fingerprint, rest] at whole
      exact whole
    · show s.tillBytes i = _
      simp only [till, State.tillBytes]
      cases (s.till i).binding with
      | none =>
        simp only [List.append_assoc]
        rfl
      | some b =>
        simp only [Option.map_some, Option.getD_some, Option.some_beq_some, beq_true, List.append_assoc]
        rfl
    · have locations : ∀ l, locationBytes l = location l := fun l => by
        cases l with
        | none => rfl
        | some y => cases y <;> rfl
      simp only [State.eventBytes, faultBytes, locations]
      cases s.events.fault with
      | none => rfl
      | some f =>
        have tills : (f.till.map (·.val)).getD 255 = (match f.till with | none => 255 | some i => i.val) := by cases f.till <;> rfl
        have slots : (f.slot.map (·.val)).getD 255 = (match f.slot with | none => 255 | some k => k.val) := by cases f.slot <;> rfl
        simp only [tills, slots]
        rfl

end Sys2Proof.Machine
end

section
/-! PROOFS. Derivation blocks and transaction keys (R71, R80): the bytes of a block, and that one key record gives no two of its uses the same key; it
settles O36. -/

namespace Sys2Proof.Machine

/-! ### The bytes of a derivation block (R80) -/

/-- The bytes R80 lays out in a derivation block. -/
def derivationBytes (purpose half gen : Nat) (till : TillIx) (counter ksid : Nat) : Bytes :=
  be 1 purpose ++ be 1 half ++ be 2 gen ++ be 1 till.val ++ be 4 counter ++ be 4 ksid ++ [0, 0, 0]

theorem derivationBlock_bytes (purpose half gen : Nat) (till : TillIx) (counter ksid : Nat) :
    beVec 16 (derivationBlock purpose half gen till counter ksid) = derivationBytes purpose half gen till counter ksid := by
  have length : (derivationBytes purpose half gen till counter ksid).length = 16 := by simp [derivationBytes]
  calc beVec 16 (derivationBlock purpose half gen till counter ksid)
      = be 16 (beNat (derivationBytes purpose half gen till counter ksid)) := beVec_ofNat 16 128 _ rfl
    _ = _ := by rw [← length]; exact be_beNat _

/-- An integer that fits its bytes is read from them, and so is given by them. -/
theorem be_inj {w m n : Nat} (hm : m < 256 ^ w) (hn : n < 256 ^ w) (h : be w m = be w n) : m = n := by
  have := congrArg beNat h
  rwa [beNat_be, beNat_be, Nat.mod_eq_of_lt hm, Nat.mod_eq_of_lt hn] at this

/-- Purpose, till and counter value stand in the bytes of a block. -/
theorem derivationBytes_inj {p q half gen c d ksid : Nat} {i j : TillIx} (hp : p < 256) (hq : q < 256) (hc : c < 4294967296)
    (hd : d < 4294967296) (h : derivationBytes p half gen i c ksid = derivationBytes q half gen j d ksid) : p = q ∧ i = j ∧ c = d := by
  unfold derivationBytes at h
  obtain ⟨h, -⟩ := List.append_inj h (by simp)
  obtain ⟨h, -⟩ := List.append_inj h (by simp)
  obtain ⟨h, counters⟩ := List.append_inj h (by simp)
  obtain ⟨h, tills⟩ := List.append_inj h (by simp)
  obtain ⟨h, -⟩ := List.append_inj h (by simp)
  obtain ⟨purposes, -⟩ := List.append_inj h (by simp)
  exact ⟨be_inj hp hq purposes, Fin.ext (be_inj (by omega) (by omega) tills), be_inj hc hd counters⟩

/-! ### Transaction keys (R71, R80) -/

/-- Equal transaction keys of one record have equal first blocks, since the cipher is a permutation (R71; log 1). -/
theorem derivationBlock_of_deriveKey {p q : Nat} {r : KeyRecord} {i j : TillIx} {c d : Nat} (h : deriveKey p r i c = deriveKey q r j d) :
    derivationBlock p 1 r.gen i c r.ksid = derivationBlock q 1 r.gen j d r.ksid := by
  have first := congrArg (fun k : Key => k.extractLsb' 128 128) h
  simp only [deriveKey, BitVec.extractLsb'_append_eq_left, cipher] at first
  exact (Config.cipherOf r.base).injective first

/-- Settles O36: a transaction key gives its first block back, and the block its purpose, till and counter value. -/
theorem derivationBlocksNeverRepeat : Obligations.DerivationBlocksNeverRepeat := by
  refine ⟨fun purpose half gen till counter ksid _ _ _ _ _ => derivationBlock_bytes purpose half gen till counter ksid,
    fun _ _ _ _ => rfl, fun r p q i j c d hp hq hc hd _ _ h => ?_⟩
  have bytes := congrArg (beVec 16) (derivationBlock_of_deriveKey h)
  rw [derivationBlock_bytes, derivationBlock_bytes] at bytes
  exact derivationBytes_inj hp hq hc hd bytes

end Sys2Proof.Machine
end

section
/-! PROOFS. Sequence numbers (R156, R161, R162, R185, R190): a step that does not keep the store's marks with its index. FULL-ERASE takes the
store while a record write is in flight, and the write is cut short with its record and its commit mark whole; the format it begins (R190) is
set back to waiting when a DECOMMISSION is carried out before the erases end and finds an operation in the queue (R162, R185). The index then
stands for the records again, and the mark has no HELD line. -/

namespace Sys2Proof.Machine

/-- A record of a sequence number. -/
def recordOf (q : Nat) : HeldRecord :=
  { head := { seq := q, till := 0, number := 1, reference := q, kind := .sale, weight := 0, fp := none, forwardedOnce := false },
    message := [], checkPasses := true }

/-- FULL-ERASE is in progress: the write of record 2 to slot 1 was in flight and was cut short with its record, its mark and the header
written (R158, R190). The free of record 1, whose requester has been abandoned (R106), has been asked for since, and DECOMMISSION is taken. -/
def eraseTaken : State :=
  { State.reset with
    opState := .lockdown, startup := .over
    pending := [.decommission 1]
    mgmt := { resetMgmt with taken := some { cmd := .decommission 1, number := 1, code := 21, src := 1, vlan := none } }
    factory := { State.reset.factory with op := some .erase }
    holding :=
      { nv := [{ slot := 0, contents := some (recordOf 1), commit := some 1, headPasses := true },
               { slot := 1, contents := some (recordOf 2), commit := some 2, headPasses := true }]
        header := { passes := true, last := 2, bad := [] }
        lines := [{ slot := 0, held := true, head := (recordOf 1).head, draining := false, freeing := true, deadline := none,
                    noticed := false },
                  { slot := 1, held := false, head := (recordOf 2).head, draining := false, freeing := false, deadline := none,
                    noticed := false }]
        bad := [], last := 1, next := 3, claimed := [], ops := [.free 0 .nobody], format := .running } }

theorem eraseTaken_holdingSound : eraseTaken.holdingSound := by
  refine ⟨by decide, by decide, rfl, by decide, fun o ho => ?_, fun h => absurd rfl h, nofun⟩
  cases List.mem_singleton.1 ho
  exact ⟨_, List.mem_cons_self, rfl, rfl, rfl⟩

/-- The marks are their records' sequence numbers, distinct and below the next; while the format runs, the index does not stand for them. -/
theorem eraseTaken_sequencesSound : eraseTaken.sequencesSound := by
  refine ⟨by decide, by decide, by decide, fun x hx q hq => ?_, fun h => absurd rfl h.2.2, fun _ _ => by decide, nofun⟩
  rcases List.mem_cons.1 hx with rfl | hx
  · cases hq
    exact ⟨by decide, fun r hr => by cases hr; rfl⟩
  · cases List.mem_singleton.1 hx
    cases hq
    exact ⟨by decide, fun r hr => by cases hr; rfl⟩

/-- DECOMMISSION is carried out at once, and the format waits for the free: the index stands for the records again. -/
theorem eraseTaken_step : ∃ t, step eraseTaken = .next t ∧ t.startup = .over ∧ t.opState = .lockdown ∧ t.holding.format = .waiting
    ∧ t.holding.bad = [] ∧ t.holding.nv = eraseTaken.holding.nv ∧ t.holding.lines = eraseTaken.holding.lines :=
  ⟨_, rfl, by decide +kernel⟩

/-- Refutes O25: the second clause fails. After the step the format waits and the mark of record 2 stands in slot 1, which is not BAD, while
the slot's line is WRITING and not HELD. -/
theorem not_stepKeepsPairsPreviousRecordsAndSequences : ¬ Obligations.StepKeepsPairsPreviousRecordsAndSequences := by
  rintro ⟨-, keeps⟩
  obtain ⟨t, next, startup, opState, format, bad, nv, lines⟩ := eraseTaken_step
  have sound : t.sequencesSound := keeps eraseTaken t eraseTaken_holdingSound eraseTaken_sequencesSound nofun next
  obtain ⟨-, -, -, -, indexed, -⟩ := sound
  have stands : t.indexed := ⟨by rw [startup]; rfl, by rw [opState]; decide, by rw [format]; decide⟩
  obtain ⟨l, hl, slot, held, -⟩ := (indexed stands).2 { slot := 1, contents := some (recordOf 2), commit := some 2, headPasses := true }
    (by rw [nv]; exact List.mem_cons_of_mem _ List.mem_cons_self) 2 rfl (by rw [bad]; exact List.not_mem_nil)
  rw [lines] at hl
  have none_held : ∀ l ∈ eraseTaken.holding.lines, l.slot = 1 → l.held = false := by decide
  exact absurd held (by rw [none_held l hl slot]; decide)

end Sys2Proof.Machine
end

section
/-! PROOFS. DERIVING (R80 to R85, R95, R191, R192): the outcomes of a context's derivation; it settles O38. -/

namespace Sys2Proof.Machine

/-! ### Requests of sector 2 (R68) -/

/-- The state once a sector 2 write is asked for, with what it is to carry. -/
def State.asking2 (s : State) (adds : List KeyAddition) : State :=
  { s with writer2 := { s.writer2 with waiting := s.writer2.waiting ++ adds, wanted := true } }

theorem State.request2_eq (s : State) (adds : List KeyAddition) : s.request2 adds = (s.asking2 adds).kick2 := rfl

/-- A request that finds a write in flight waits. -/
theorem State.request2_busy (s : State) (adds : List KeyAddition) (h : s.writer2.inFlight.isSome = true) : s.request2 adds = s.asking2 adds :=
  (s.asking2 adds).kick2_busy (.inl h)

/-- A request finds a write in flight or begins one, unless FULL-ERASE has the store. -/
theorem State.request2_inFlight (s : State) (adds : List KeyAddition) (h : s.erasing = false) :
    (s.request2 adds).writer2.inFlight.isSome = true := by
  by_cases busy : s.writer2.inFlight.isSome = true
  · rw [s.request2_busy adds busy]
    exact busy
  · have free : (s.asking2 adds).writer2.inFlight = none := Option.not_isSome_iff_eq_none.1 busy
    rw [s.request2_eq, (s.asking2 adds).kick2_free free h]
    split
    · rfl
    · rfl

/-! ### Queues that are refused while they are empty -/

theorem State.setTill_same (s : State) (i : TillIx) : s.setTill i (s.till i) = s := by
  simp [State.setTill, State.till]

theorem State.refuseQueue_empty (s : State) (i : TillIx) (x : LocalReply) (h : (s.till i).queue = []) : s.refuseQueue i x = s := by
  have same : { s.till i with queue := [] } = s.till i := by rw [← h]
  unfold State.refuseQueue
  rw [h, same, s.setTill_same]
  rfl

theorem refuseQueues_empty (l : List TillIx) (x : LocalReply) (s : State) (h : ∀ i ∈ l, (s.till i).queue = []) :
    l.foldl (fun s i => s.refuseQueue i x) s = s := by
  induction l with
  | nil => rfl
  | cons i l ih =>
    rw [List.foldl_cons, s.refuseQueue_empty i x (h i List.mem_cons_self)]
    exact ih fun j hj => h j (List.mem_cons_of_mem _ hj)

/-- Refusals leave the tills they do not name. -/
theorem till_refuseQueues_other (l : List TillIx) (x : LocalReply) (s : State) (j : TillIx) (h : j ∉ l) :
    (l.foldl (fun s i => s.refuseQueue i x) s).till j = s.till j := by
  induction l generalizing s with
  | nil => rfl
  | cons i l ih =>
    obtain ⟨hi, hl⟩ := not_or.1 (mt List.mem_cons.2 h)
    rw [List.foldl_cons, ih _ hl, s.refuseQueue_other x hi]

theorem State.mem_boundTills (s : State) (k : SlotIx) (j : TillIx) : j ∈ s.boundTills k ↔ ∃ b, (s.till j).binding = some b ∧ b.slot = k := by
  simp [State.boundTills, mem_allTills]

/-! ### A slot faulted (R84) -/

theorem State.slot_faultSlot (s : State) (k : SlotIx) (gen : Nat) (till : TillIx) (l : SlotIx) :
    (s.faultSlot k gen till).slot l = if l = k then (s.slot k).faulted gen else s.slot l := by
  rw [State.slot, s.faultSlot_frame k gen till]
  exact s.slot_setSlot k l _

/-- KEY-CHECK-FAIL is counted and enters an empty Fault Record. -/
theorem State.faulting_events (s : State) (k : SlotIx) (gen : Nat) (till : TillIx) :
    (s.faulting k gen till).count .keyCheckFail = min (s.count .keyCheckFail + 1) 65535
      ∧ (s.events.fault = none → (s.faulting k gen till).events.fault =
          some { code := .keyCheckFail, till := some till, slot := some k, location := none, further := 0 }) := by
  refine ⟨State.count_raise_self .., fun h => ?_⟩
  have empty : (s.setSlot k ((s.slot k).faulted gen)).events.fault = none := h
  rw [State.faulting, State.raise, Events.after, empty]
  rfl

/-- A slot whose tills have nothing queued is faulted without a reply. -/
theorem State.faultSlot_unqueued (s : State) (k : SlotIx) (gen : Nat) (till : TillIx)
    (h : ∀ j b, (s.till j).binding = some b → b.slot = k → (s.till j).queue = []) :
    s.faultSlot k gen till = (s.faulting k gen till).request2 [] := by
  rw [State.faultSlot_eq, refuseQueues_empty]
  intro j hj
  obtain ⟨b, hb, hk⟩ := (State.mem_boundTills _ k j).1 hj
  exact h j b hb hk

/-! ### The fingerprint key faulted (R85) -/

theorem State.faultFp_frame (s : State) (till : TillIx) :
    let u := s.faultFp till
    u = { s with keys := { s.keys with fp := u.keys.fp }, events := (s.raise .keyCheckFail (till := some till)).events
                 writer2 := u.writer2, mgmt := u.mgmt } := by
  intro u
  have hu : u = _ := State.request2_frame _ _
  rw [hu]
  rfl

theorem State.faultFp_usable (s : State) (till : TillIx) : (s.faultFp till).usableFp = none := by
  have fp : (s.faultFp till).keys.fp = s.keys.fp.map (fun r : KeyRecord => { r with failed := true }) :=
    congrArg (fun t : State => t.keys.fp) (State.request2_frame _ _)
  rw [State.usableFp, fp]
  cases s.keys.fp <;> rfl

/-! ### A context goes IDLE -/

/-- What a context that goes IDLE leaves of a till: all but its wrap in flight flag (R38). -/
theorem State.till_ctxToIdle_same (s : State) (c : CtxIx) (j : TillIx) : ∃ b, (s.ctxToIdle c).till j = { s.till j with wrapInFlight := b } := by
  cases hw : (s.ctx c).wrap with
  | none => exact ⟨_, by simp only [State.ctxToIdle, hw]; rfl⟩
  | some w =>
    rw [s.till_ctxToIdle c w hw]
    split
    · exact ⟨_, rfl⟩
    · exact ⟨_, rfl⟩

/-! ### A context in RESERVED derives (R95) -/

/-- What a context carries once its keys are derived (R80, R95). -/
def Wrap.derived (w : Wrap) (r : KeyRecord) (f : Option Fingerprint) : Wrap :=
  { w with gen := r.gen, ksid := r.ksid, dataKey := some (deriveKey 1 r w.till w.counter), authKey := some (deriveKey 2 r w.till w.counter),
           fp := f }

theorem execDeriving_elsewhere (s : State) (i : CtxIx) (h : (s.ctx i).phase ≠ .reserved) : exec (.derivingKeys i) s = .next s := by
  have none_ : s.inPhase i .reserved = none := by
    unfold State.inPhase
    split
    · rfl
    · exact if_neg h
  change execDeriving i s = _
  rw [execDeriving, none_]

/-- What a derivation makes of the state, by what the check of the slot's record finds (R83, R95). -/
def State.derivation (s : State) (i : CtxIx) (w : Wrap) (m : TillMsg) (r : KeyRecord) : CheckResult → State
  | .passes => s.deriveKeys i w m r
  | .marked => s.endWrap i w m (.refused .keyFault)
  | .fails => s.deriveFails i w m r

theorem execDeriving_reserved {s : State} {i : CtxIx} {w : Wrap} {m : TillMsg} {r : KeyRecord} {x : CheckResult}
    (hx : s.ctx i = { phase := .reserved, wrap := some w }) (hm : w.msg = some m) (hr : (s.slot w.slot).current = some r)
    (check : s.checkRecord w.slot.val r = x) : exec (.derivingKeys i) s = .next (s.derivation i w m r x).settle := by
  have reserved : s.inPhase i .reserved = some (w, m) := by simp [State.inPhase, hx, hm]
  change execDeriving i s = _
  simp only [execDeriving, reserved, hr, check]
  cases x <;> rfl

/-! #### The fingerprint (R82, R85) -/

/-- No card number, or no usable fingerprint key: there is no fingerprint. -/
theorem State.deriveKeys_without (s : State) (i : CtxIx) (w : Wrap) (m : TillMsg) (r : KeyRecord) (h : m.card = none ∨ s.usableFp = none) :
    s.deriveKeys i w m r = s.setCtx i { phase := .derivingKeys, wrap := some (w.derived r none) } := by
  have taken : s.takeFingerprint w m = (s, none, false) := by
    unfold State.takeFingerprint
    split
    · rename_i card f hc hf
      rw [hc, hf] at h
      exact absurd h (by simp)
    · rfl
  rw [State.deriveKeys, taken]
  rfl

/-- The fingerprint key passes its check. -/
theorem State.deriveKeys_intact (s : State) (i : CtxIx) (w : Wrap) (m : TillMsg) (r : KeyRecord) {card : Bytes} {f : KeyRecord}
    (hc : m.card = some card) (hf : s.usableFp = some f) (h : s.recordIntact 255 f = true) :
    s.deriveKeys i w m r = s.setCtx i { phase := .derivingKeys
                                        wrap := some (w.derived r (some { value := Config.cmac f.base card, gen := f.gen })) } := by
  have taken : s.takeFingerprint w m = (s, some { value := Config.cmac f.base card, gen := f.gen }, false) := by
    rw [State.takeFingerprint, hc, hf]
    exact if_pos h
  rw [State.deriveKeys, taken]
  rfl

/-- The context's keys are taken, the fingerprint key marked. -/
def State.unprinted (s : State) (i : CtxIx) (w : Wrap) (r : KeyRecord) : State :=
  (s.faultFp w.till).setCtx i { phase := .derivingKeys, wrap := some (w.derived r none) }

/-- The fingerprint key fails its check now, which is contained last. -/
theorem State.deriveKeys_fails (s : State) (i : CtxIx) (w : Wrap) (m : TillMsg) (r : KeyRecord) {card : Bytes} {f : KeyRecord}
    (hc : m.card = some card) (hf : s.usableFp = some f) (h : s.recordIntact 255 f = false) :
    s.deriveKeys i w m r = (s.unprinted i w r).contain := by
  have taken : s.takeFingerprint w m = (s.faultFp w.till, none, true) := by
    rw [State.takeFingerprint, hc, hf]
    exact if_neg (by rw [h]; exact Bool.false_ne_true)
  rw [State.deriveKeys, taken]
  rfl

theorem State.unprinted_frame (s : State) (i : CtxIx) (w : Wrap) (r : KeyRecord) :
    let u := s.unprinted i w r
    u = { s with ctxs := u.ctxs, keys := { s.keys with fp := u.keys.fp }, events := (s.raise .keyCheckFail (till := some w.till)).events
                 writer2 := u.writer2, mgmt := u.mgmt } := by
  intro u
  have frame := s.faultFp_frame w.till
  have hu : u = (s.faultFp w.till).setCtx i { phase := .derivingKeys, wrap := some (w.derived r none) } := rfl
  rw [frame] at hu
  rw [hu]
  rfl

theorem State.unprinted_fault (s : State) (i : CtxIx) (w : Wrap) (r : KeyRecord) (h : s.events.fault = none) :
    (s.unprinted i w r).events.fault =
      some { code := .keyCheckFail, till := some w.till, slot := none, location := none, further := 0 } := by
  rw [s.unprinted_frame i w r]
  change (Events.after s.events _ _ _ _).fault = _
  rw [Events.after, h]
  rfl

theorem State.unprinted_count (s : State) (i : CtxIx) (w : Wrap) (r : KeyRecord) :
    (s.unprinted i w r).count .keyCheckFail = min (s.count .keyCheckFail + 1) 65535 := by
  have events : (s.unprinted i w r).events = (s.raise .keyCheckFail (till := some w.till)).events :=
    (congrArg State.events (s.unprinted_frame i w r) :)
  rw [State.count_congr events]
  exact s.count_raise_self ..

/-- Under STRICT the failing fingerprint key sends a SERVING part to LOCKDOWN, its contexts' wraps abandoned (R191, R192). -/
theorem State.unprinted_contained (s : State) (i : CtxIx) (w : Wrap) (r : KeyRecord) (policy : s.settings.store.policy = .strict)
    (serving : s.opState = .serving) :
    let u := (s.unprinted i w r).contain
    u.usableFp = none ∧ u.opState = .lockdown
      ∧ (∀ j, u.ctx j = { phase := .idle, wrap := none }) ∧ (∀ j, (u.till j).queue = []) ∧ u.drain.state = .idle
      ∧ u.count .keyCheckFail = min (s.count .keyCheckFail + 1) 65535
      ∧ (s.events.fault = none → u.events.fault =
          some { code := .keyCheckFail, till := some w.till, slot := none, location := none, further := 0 })
      ∧ u.keys.slots = s.keys.slots ∧ u.counters = s.counters ∧ u.outstanding = s.outstanding ∧ u.standIn = s.standIn
      ∧ u.settings = s.settings ∧ u.store = s.store ∧ u.link = s.link ∧ u.uplink = s.uplink := by
  intro u
  obtain ⟨t, ht⟩ : ∃ t : State, t = s.unprinted i w r := ⟨_, rfl⟩
  have frame : t = _ := ht.trans (s.unprinted_frame i w r)
  have usable : t.usableFp = none := by rw [ht]; exact s.faultFp_usable w.till
  have strict : t.settings.store.policy = .strict := by rw [frame]; exact policy
  have stillServing : t.opState = .serving := by rw [frame]; exact serving
  have hu : u = t.enterLockdown := by rw [← t.contain_serving strict stillServing, ht]
  obtain ⟨lockdown, ctxs, queues⟩ := t.enterLockdown_spec
  obtain ⟨fault, count⟩ := t.enterLockdown_sameFaults
  have counted := count .keyCheckFail (by decide)
  obtain ⟨_, _, _, _, _, _, _, _, _, _, _, only⟩ := t.enterLockdown_lockdownOnly
  have keys : u.keys = t.keys := by rw [hu, only]
  refine ⟨by rw [State.usableFp, keys]; exact usable, by rw [hu, lockdown], fun j => by rw [hu, ctxs]; rfl, fun j => by rw [hu, queues],
    by rw [hu]; exact t.enterLockdown_drain, by rw [hu, counted, ht, s.unprinted_count], fun h => by rw [hu, fault, ht, s.unprinted_fault i w r h],
    ?_⟩
  rw [hu, only, frame]
  exact ⟨rfl, rfl, rfl, rfl, rfl, rfl, rfl, rfl⟩

/-! #### The slot's record fails (R83, R84) -/

theorem State.deriveFails_lenient (s : State) (i : CtxIx) (w : Wrap) (m : TillMsg) (r : KeyRecord) (h : s.settings.store.policy = .lenient) :
    s.deriveFails i w m r = ((s.faultSlot w.slot r.gen w.till).replyTo w.till m (.refused .keyFault)).ctxToIdle i := by
  have policy : (s.faultSlot w.slot r.gen w.till).settings.store.policy = .lenient := by rw [s.faultSlot_frame]; exact h
  simp only [State.deriveFails, policy]
  rfl

theorem State.deriveFails_strict (s : State) (i : CtxIx) (w : Wrap) (m : TillMsg) (r : KeyRecord) (h : s.settings.store.policy = .strict) :
    s.deriveFails i w m r = (s.faultSlot w.slot r.gen w.till).contain := by
  have policy : (s.faultSlot w.slot r.gen w.till).settings.store.policy = .strict := by rw [s.faultSlot_frame]; exact h
  simp only [State.deriveFails, policy]

/-- What a failing record leaves, under either policy (R84, R191). -/
theorem State.deriveFails_faults (s : State) (i : CtxIx) (w : Wrap) (m : TillMsg) (r : KeyRecord)
    (policy : s.settings.store.policy = .lenient ∨ s.opState = .serving) :
    let u := s.deriveFails i w m r
    (u.slot w.slot).state = .faulted ∧ u.count .keyCheckFail = min (s.count .keyCheckFail + 1) 65535
      ∧ u.ctx i = { phase := .idle, wrap := none }
      ∧ (∀ j b, (s.till j).binding = some b → b.slot = w.slot → (u.till j).queue = [])
      ∧ u.opState = (if s.settings.store.policy = .strict then .lockdown else s.opState)
      ∧ u.settings = s.settings ∧ u.store = s.store ∧ u.counters = s.counters ∧ u.outstanding = s.outstanding
      ∧ u.standIn = s.standIn ∧ u.link = s.link ∧ u.uplink = s.uplink := by
  intro u
  obtain ⟨v, hv⟩ : ∃ v : State, v = s.faultSlot w.slot r.gen w.till := ⟨_, rfl⟩
  have frame : v = _ := hv.trans (s.faultSlot_frame w.slot r.gen w.till)
  have slot : (v.slot w.slot).state = .faulted := by rw [hv, s.slot_faultSlot, if_pos rfl]; rfl
  have queues : ∀ j b, (s.till j).binding = some b → b.slot = w.slot → (v.till j).queue = [] := fun j b hb hk => by
    rw [hv]; exact s.queue_faultSlot _ _ _ j b hb hk
  have counted : v.count .keyCheckFail = min (s.count .keyCheckFail + 1) 65535 := by
    rw [hv, (s.faultSlot_sameFaults w.slot r.gen w.till).2 _ (by decide)]
    exact (s.faulting_events w.slot r.gen w.till).1
  cases hp : s.settings.store.policy with
  | lenient =>
    obtain ⟨t, ht⟩ : ∃ t : State, t = v.replyTo w.till m (.refused .keyFault) := ⟨_, rfl⟩
    have hu : u = t.ctxToIdle i := by rw [ht, hv]; exact s.deriveFails_lenient i w m r hp
    have replied := ht.trans (v.replyTo_repliesOnly w.till m (.refused .keyFault)).eq
    have same := (v.replyTo_sameFaults w.till m (.refused .keyFault)).2 .keyCheckFail (by decide)
    have events : u.events = t.events := hu ▸ (congrArg State.events (t.ctxToIdle_frame i) :)
    have keys : u.keys = v.keys := by rw [hu, State.ctxToIdle_frame, replied]
    refine ⟨by rw [State.slot, keys]; exact slot, by rw [State.count_congr events, ht, same, counted], by rw [hu, State.ctx_ctxToIdle, if_pos rfl]; rfl,
      fun j b hb hk => ?_, ?_⟩
    · obtain ⟨_, idle⟩ := t.till_ctxToIdle_same i j
      obtain ⟨_, counts⟩ := v.replyTo_sameTill w.till j m (.refused .keyFault)
      rw [hu, idle, ht, counts]
      exact queues j b hb hk
    · rw [hu, State.ctxToIdle_frame, replied, frame, if_neg (by decide)]
      exact ⟨rfl, rfl, rfl, rfl, rfl, rfl, rfl, rfl⟩
  | strict =>
    have serving : s.opState = .serving := policy.resolve_left (by rw [hp]; decide)
    have strict : v.settings.store.policy = .strict := by rw [frame]; exact hp
    have stillServing : v.opState = .serving := by rw [frame]; exact serving
    have hu : u = v.enterLockdown := by rw [← v.contain_serving strict stillServing, hv]; exact s.deriveFails_strict i w m r hp
    obtain ⟨lockdown, ctxs, emptied⟩ := v.enterLockdown_spec
    have same := v.enterLockdown_sameFaults.2 .keyCheckFail (by decide)
    obtain ⟨_, _, _, _, _, _, _, _, _, _, _, only⟩ := v.enterLockdown_lockdownOnly
    refine ⟨?_, by rw [hu, same, counted], by rw [hu, ctxs]; rfl, fun j _ _ _ => by rw [hu, emptied], by rw [hu, lockdown, if_pos rfl], ?_⟩
    · have keys : u.keys = v.keys := by rw [hu, only]
      rw [State.slot, keys]
      exact slot
    · rw [hu, only, frame]
      exact ⟨rfl, rfl, rfl, rfl, rfl, rfl, rfl⟩

theorem KeySlot.faulted_current {x : KeySlot} {r : KeyRecord} (h : x.current = some r) : x.faulted r.gen = { x with
    current := some { r with failed := true }, state := .faulted
    previous := x.previous.map (fun y => if y.gen = r.gen then { y with failed := true } else y) } := by
  rw [KeySlot.faulted, markGen_marks r.gen x.current r h rfl]
  rfl

/-- A reply of KEY-FAULT, and the context's return to IDLE, where the Lane port is open (R11, R46). -/
theorem State.keyFault_reply (v : State) (i : CtxIx) (j : TillIx) (m : TillMsg) (open_ : v.laneOpen) :
    let u := (v.replyTo j m (.refused .keyFault)).ctxToIdle i
    u.lane.priority = v.lane.priority ++ [TxFrame.mk (replyFrame m.path v.ipId
        (be 1 1 ++ be 1 5 ++ be 2 m.number ++ be 4 m.reference ++ be 1 23)) false]
      ∧ u.count .localRefused = min (v.count .localRefused + 1) 65535 ∧ (u.till j).refused = min ((v.till j).refused + 1) 65535 := by
  intro u
  obtain ⟨t, ht⟩ : ∃ t : State, t = v.replyTo j m (.refused .keyFault) := ⟨_, rfl⟩
  have hu : u = t.ctxToIdle i := by rw [ht]
  have lane : u.lane = t.lane := hu ▸ (congrArg State.lane (t.ctxToIdle_frame i) :)
  have events : u.events = t.events := hu ▸ (congrArg State.events (t.ctxToIdle_frame i) :)
  refine ⟨?_, ?_, ?_⟩
  · rw [lane, ht]
    exact v.localReply_open j m.number m.reference m.path (.refused .keyFault) open_
  · rw [State.count_congr events, ht]
    exact v.count_localReply_self j m.number m.reference m.path (.refused .keyFault)
  · obtain ⟨_, idle⟩ := t.till_ctxToIdle_same i j
    have refused : t.till j = { v.till j with refused := saturate (v.till j).refused } := by
      rw [ht]
      exact (v.till_localReply j j m.number m.reference m.path (.refused .keyFault)).trans (if_pos ⟨rfl, rfl⟩)
    rw [hu, idle, refused]
    rfl

/-- Under LENIENT: the slot FAULTED, its tills' queues refused, its sector 2 write asked for, and the message answered after them (R84). -/
theorem State.deriveFails_answers (s : State) (i : CtxIx) (w : Wrap) (m : TillMsg) (r : KeyRecord) (hr : (s.slot w.slot).current = some r) :
    let v := s.faultSlot w.slot r.gen w.till
    let u := (v.replyTo w.till m (.refused .keyFault)).ctxToIdle i
    v.slot w.slot = { s.slot w.slot with
        current := some { r with failed := true }, state := .faulted
        previous := (s.slot w.slot).previous.map (fun x => if x.gen = r.gen then { x with failed := true } else x) }
      ∧ (∀ k, k ≠ w.slot → v.slot k = s.slot k) ∧ v.keys.fp = s.keys.fp ∧ v.keys.fpFloor = s.keys.fpFloor
      ∧ (∀ j b, (s.till j).binding = some b → b.slot = w.slot → (v.till j).queue = [])
      ∧ (∀ j, (∀ b, (s.till j).binding = some b → b.slot ≠ w.slot) → v.till j = s.till j)
      ∧ (s.erasing = false → v.writer2.inFlight.isSome = true)
      ∧ (s.writer2.inFlight.isSome = true → v.writer2.wanted = true)
      ∧ v = { s with keys := v.keys, tills := v.tills, events := v.events, lane := v.lane, ipId := v.ipId
                     writer2 := v.writer2, mgmt := v.mgmt }
      ∧ (s.events.fault = none → u.events.fault =
          some { code := .keyCheckFail, till := some w.till, slot := some w.slot, location := none, further := 0 })
      ∧ ((∀ j b, (s.till j).binding = some b → b.slot = w.slot → (s.till j).queue = []) → s.laneOpen →
          u.lane.priority = s.lane.priority ++ [TxFrame.mk (replyFrame m.path s.ipId
              (be 1 1 ++ be 1 5 ++ be 2 m.number ++ be 4 m.reference ++ be 1 23)) false]
            ∧ u.count .localRefused = min (s.count .localRefused + 1) 65535
            ∧ (u.till w.till).refused = min ((s.till w.till).refused + 1) 65535) := by
  intro v u
  obtain ⟨t, ht⟩ : ∃ t : State, t = ((s.faulting w.slot r.gen w.till).boundTills w.slot).foldl
      (fun s i => s.refuseQueue i (.refused .keyFault)) (s.faulting w.slot r.gen w.till) := ⟨_, rfl⟩
  have hv : v = t.request2 [] := by rw [ht]; exact s.faultSlot_eq w.slot r.gen w.till
  have refusals : t = _ := ht.trans (refuseQueues_repliesOnly _ _ _).eq
  have frame : v = _ := s.faultSlot_frame w.slot r.gen w.till
  have keys : v.keys = (s.setSlot w.slot ((s.slot w.slot).faulted r.gen)).keys := (congrArg State.keys frame :)
  have tills : v.tills = t.tills := hv ▸ (congrArg State.tills (t.request2_frame []) :)
  have writer : t.writer2 = s.writer2 := (congrArg State.writer2 refusals :)
  have factory : t.factory = s.factory := (congrArg State.factory refusals :)
  refine ⟨by rw [s.slot_faultSlot, if_pos rfl, KeySlot.faulted_current hr], fun k hk => by rw [s.slot_faultSlot, if_neg hk], by rw [keys]; rfl,
    by rw [keys]; rfl, fun j b hb hk => s.queue_faultSlot _ _ _ j b hb hk, fun j hj => ?_, fun free => ?_, fun busy => ?_, ?_, fun h => ?_,
    fun unqueued open_ => ?_⟩
  · rw [State.till, tills, ht]
    refine till_refuseQueues_other _ _ (s.faulting w.slot r.gen w.till) j fun bound => ?_
    obtain ⟨b, hb, hk⟩ := (State.mem_boundTills _ _ _).1 bound
    exact hj b hb hk
  · rw [hv]
    exact t.request2_inFlight [] (by rw [State.erasing, factory]; exact free)
  · rw [hv, t.request2_busy [] (by rw [writer]; exact busy)]
    rfl
  · rw [frame]
  · have idle : u.events = (v.replyTo w.till m (.refused .keyFault)).events := (congrArg State.events (State.ctxToIdle_frame _ i) :)
    rw [idle, (v.replyTo_sameFaults w.till m (.refused .keyFault)).1, (s.faultSlot_sameFaults w.slot r.gen w.till).1]
    exact (s.faulting_events w.slot r.gen w.till).2 h
  · have silent : v = (s.faulting w.slot r.gen w.till).request2 [] := s.faultSlot_unqueued w.slot r.gen w.till unqueued
    rw [State.request2_frame] at silent
    have port : v.lane = s.lane ∧ v.ipId = s.ipId ∧ v.tills = s.tills := by rw [silent]; exact ⟨rfl, rfl, rfl⟩
    have events : v.events = (s.faulting w.slot r.gen w.till).events := by rw [silent]
    obtain ⟨lane, ipId, same⟩ := port
    obtain ⟨frames, count, refused⟩ := v.keyFault_reply i w.till m (by rw [State.laneOpen, lane]; exact open_)
    have uncounted : v.count .localRefused = s.count .localRefused := by
      rw [State.count_congr events]
      exact State.count_raise_ne _ _ _ _ (by decide)
    exact ⟨by rw [frames, lane, ipId], by rw [count, uncounted], by rw [refused, State.till, same]; rfl⟩

/-- Settles O38: each outcome of the check of the slot's record, and of the fingerprint key's behind it. -/
theorem derivingTakesKeysOrFaults : Obligations.DerivingTakesKeysOrFaults := by
  refine ⟨execDeriving_elsewhere, fun s i w m r hx hm hr => ?_⟩
  have runs : ∀ {x}, s.checkRecord w.slot.val r = x → exec (.derivingKeys i) s = .next (s.derivation i w m r x).settle :=
    execDeriving_reserved hx hm hr
  refine ⟨fun passes without => ?_, fun card f passes hc hf intact => ?_, fun card f passes hc hf fails policy => ?_,
    fun card f passes hc hf fails policy serving => ?_, fun marked => ?_, fun fails policy => ?_, fun fails policy => ?_⟩
  · rw [runs passes, State.derivation, s.deriveKeys_without i w m r without]
    rfl
  · rw [runs passes, State.derivation, s.deriveKeys_intact i w m r hc hf intact]
    rfl
  · have frame := s.unprinted_frame i w r
    refine ⟨s.unprinted i w r, ?_, State.ctx_setCtx_self .., s.faultFp_usable w.till, s.unprinted_count i w r, ?_⟩
    · rw [runs passes, State.derivation, s.deriveKeys_fails i w m r hc hf fails, State.contain_lenient _ (by rw [frame]; exact policy)]
    · rw [frame]
  · refine ⟨(s.unprinted i w r).contain, ?_, s.unprinted_contained i w r policy serving⟩
    rw [runs passes, State.derivation, s.deriveKeys_fails i w m r hc hf fails]
  · rw [runs marked, State.derivation, State.endWrap]
  · exact ⟨_, runs fails, s.deriveFails_faults i w m r policy⟩
  · refine ⟨s.faultSlot w.slot r.gen w.till, _, ?_, rfl, s.deriveFails_answers i w m r hr⟩
    rw [runs fails, State.derivation, s.deriveFails_lenient i w m r policy]

end Sys2Proof.Machine
end

section
/-! PROOFS. The ends of sector 1 and 2 writes (R64, R68, R69, R72, R73, R75, R76, R84): what a write's additions make of the Key Table and of the
counter columns, and what the next write records; it settles O47. -/

namespace Sys2Proof.Machine

/-! ### An addition made (R72, R73, R75) -/

/-- Only what an addition touches differs between two states. -/
def AddsOnly (s t : State) : Prop :=
  ∃ keys counters events mgmt, t = { s with keys := keys, counters := counters, events := events, mgmt := mgmt }

theorem AddsOnly.refl (s : State) : AddsOnly s s := ⟨_, _, _, _, rfl⟩

theorem AddsOnly.trans {s t u : State} : AddsOnly s t → AddsOnly t u → AddsOnly s u := by
  rintro ⟨_, _, _, _, rfl⟩ ⟨_, _, _, _, rfl⟩; exact ⟨_, _, _, _, rfl⟩

/-- The state once an activation's fresh column is asked for (R60, R75). -/
def State.columnAsked (s : State) (k : SlotIx) : State :=
  { s.mapJobs (fun j => if j.cmd = some (.activateKey k.val) ∧ j.isWaiting then { j with s3 := .queued } else j) with counters :=
    { s.counters with pending := s.counters.pending.filter (fun p => p.1 != k), activations := s.counters.activations ++ [k] } }

theorem State.requestColumn_eq (s : State) (k : SlotIx) : s.requestColumn k = (s.columnAsked k).kick3 := rfl

theorem State.requestColumn_frame (s : State) (k : SlotIx) :
    s.requestColumn k = { s with counters := (s.requestColumn k).counters, mgmt := (s.requestColumn k).mgmt } := by
  rw [s.requestColumn_eq, State.kick3_frame]
  rfl

theorem State.addition_addsOnly (s : State) (a : KeyAddition) : AddsOnly s (s.addition false a) := by
  cases a with
  | load k r => exact ⟨_, _, _, _, rfl⟩
  | loadFp r => exact ⟨_, _, _, _, rfl⟩
  | activate k =>
    change AddsOnly s ((s.setSlot k (s.switched k)).requestColumn k)
    rw [State.requestColumn_frame]
    exact ⟨_, _, _, _, rfl⟩

theorem additions_addsOnly (l : List KeyAddition) (s : State) : AddsOnly s (l.foldl (State.addition false) s) :=
  foldl_rel AddsOnly AddsOnly.refl (fun _ _ _ => AddsOnly.trans) _ State.addition_addsOnly l s

/-! ### Slots -/

/-- A slot with the changes of an addition for it; `named` says of a generation whether an Outstanding entry names it (R65). -/
def KeySlot.withAddition (named : Nat → Bool) (x : KeySlot) : KeyAddition → KeySlot
  | .load _ r => { x with staged := some r, busy := false }
  | .loadFp _ => x
  | .activate _ =>
    { x with previous := x.current.filter (fun r => named r.gen), current := x.staged, staged := none, state := x.state.switched
             floor := (x.staged.map (·.gen)).getD x.floor }

theorem State.slot_addition (s : State) (a : KeyAddition) (k : SlotIx) :
    (s.addition false a).slot k = if a.slot? = some k then (s.slot k).withAddition (s.named k) a else s.slot k := by
  have here : ∀ (j : SlotIx) (f : SlotIx → KeySlot), (s.setSlot j (f j)).slot k = if some j = some k then f k else s.slot k := fun j f => by
    rw [State.slot_setSlot]
    by_cases h : k = j
    · subst h; rw [if_pos rfl, if_pos rfl]
    · rw [if_neg h, if_neg fun e => h (Option.some.inj e).symm]
  cases a with
  | load j r => exact here j fun j => { s.slot j with staged := some r, busy := false }
  | loadFp r => rfl
  | activate j =>
    have column : (s.addition false (.activate j)).keys = (s.setSlot j (s.switched j)).keys :=
      (congrArg State.keys (State.requestColumn_frame (s.setSlot j (s.switched j)) j) :)
    rw [State.slot, column]
    exact here j s.switched

theorem State.named_addition (s : State) (a : KeyAddition) (k : SlotIx) : (s.addition false a).named k = s.named k := by
  obtain ⟨_, _, _, _, h⟩ := s.addition_addsOnly a
  rw [h]
  rfl

theorem slot_additions_other (l : List KeyAddition) (s : State) (k : SlotIx) (h : k ∉ l.filterMap KeyAddition.slot?) :
    (l.foldl (State.addition false) s).slot k = s.slot k :=
  foldl_miss (State.addition false) (·.slot k) (·.slot? = some k) (fun t a ha => (t.slot_addition a k).trans (if_neg ha)) l s
    fun a ha e => h (List.mem_filterMap.2 ⟨a, ha, e⟩)

/-- Of additions for different slots, the one for a slot is the only one it takes. -/
theorem slot_additions (l : List KeyAddition) (s : State) (k : SlotIx) (a : KeyAddition) (ha : a ∈ l) (hk : a.slot? = some k)
    (hn : (l.filterMap KeyAddition.slot?).Nodup) :
    (l.foldl (State.addition false) s).slot k = (s.slot k).withAddition (s.named k) a := by
  induction l generalizing s with
  | nil => cases ha
  | cons b l ih =>
    rw [List.foldl_cons]
    rcases List.mem_cons.1 ha with rfl | hl
    · rw [List.filterMap_cons_some hk, List.nodup_cons] at hn
      rw [slot_additions_other l _ k hn.1, s.slot_addition, if_pos hk]
    · have hb : b.slot? ≠ some k := fun e => by
        rw [List.filterMap_cons_some e, List.nodup_cons] at hn
        exact hn.1 (List.mem_filterMap.2 ⟨a, hl, hk⟩)
      have rest : (l.filterMap KeyAddition.slot?).Nodup := by
        cases e : b.slot? with
        | none => rwa [List.filterMap_cons_none e] at hn
        | some j => rw [List.filterMap_cons_some e, List.nodup_cons] at hn; exact hn.2
      rw [ih _ hl rest, s.slot_addition, if_neg hb, s.named_addition]

/-! ### The fingerprint key (R73) -/

theorem State.fp_addition_other (s : State) (a : KeyAddition) (h : ∀ r, a ≠ .loadFp r) :
    ((s.addition false a).keys.fp, (s.addition false a).keys.fpFloor) = (s.keys.fp, s.keys.fpFloor) := by
  cases a with
  | load k r => rfl
  | loadFp r => exact absurd rfl (h r)
  | activate k =>
    have column : (s.addition false (.activate k)).keys = (s.setSlot k (s.switched k)).keys :=
      (congrArg State.keys (State.requestColumn_frame (s.setSlot k (s.switched k)) k) :)
    rw [column]
    rfl

theorem fp_additions_other (l : List KeyAddition) (s : State) (h : ∀ r, .loadFp r ∉ l) :
    ((l.foldl (State.addition false) s).keys.fp, (l.foldl (State.addition false) s).keys.fpFloor) = (s.keys.fp, s.keys.fpFloor) :=
  foldl_miss (State.addition false) (fun t => (t.keys.fp, t.keys.fpFloor)) (fun a => ∃ r, a = .loadFp r)
    (fun t a ha => t.fp_addition_other a fun r e => ha ⟨r, e⟩) l s fun _ ha ⟨r, e⟩ => h r (e ▸ ha)

/-- The fingerprint key record that every load of one in the write is. -/
theorem fp_additions (l : List KeyAddition) (s : State) (r : KeyRecord) (one : ∀ q, .loadFp q ∈ l → q = r)
    (h : .loadFp r ∈ l ∨ (s.keys.fp, s.keys.fpFloor) = (some r, r.gen)) :
    ((l.foldl (State.addition false) s).keys.fp, (l.foldl (State.addition false) s).keys.fpFloor) = (some r, r.gen) := by
  induction l generalizing s with
  | nil => exact h.resolve_left nofun
  | cons a l ih =>
    refine ih _ (fun q hq => one q (List.mem_cons_of_mem _ hq)) ?_
    by_cases loads : ∃ q, a = .loadFp q
    · obtain ⟨q, rfl⟩ := loads
      cases one q List.mem_cons_self
      exact .inr rfl
    · rw [s.fp_addition_other a fun q e => loads ⟨q, e⟩]
      exact h.imp_left fun hl => (List.mem_cons.1 hl).resolve_left fun e => loads ⟨r, e.symm⟩

/-! ### KEY-LOADED (R72, R73) -/

theorem State.count_addition (s : State) (a : KeyAddition) : (s.addition false a).count .keyLoaded =
    if a.isLoad then min (s.count .keyLoaded + 1) 65535 else s.count .keyLoaded := by
  cases a with
  | load k r => exact State.count_raise_self ..
  | loadFp r => exact State.count_raise_self ..
  | activate k =>
    exact State.count_congr (congrArg State.events (State.requestColumn_frame (s.setSlot k (s.switched k)) k) :) _

theorem count_additions (l : List KeyAddition) (s : State) (h : s.count .keyLoaded ≤ 65535) :
    (l.foldl (State.addition false) s).count .keyLoaded = min (s.count .keyLoaded + (l.filter KeyAddition.isLoad).length) 65535 := by
  induction l generalizing s with
  | nil => exact (Nat.min_eq_left h).symm
  | cons a l ih =>
    have turn := s.count_addition a
    rw [List.foldl_cons, List.filter_cons]
    by_cases load : a.isLoad = true
    · rw [if_pos load] at turn ⊢
      rw [ih _ (turn ▸ Nat.min_le_right _ _), turn, List.length_cons]
      omega
    · rw [if_neg load] at turn ⊢
      rw [ih _ (turn ▸ h), turn]

/-! ### The fresh column (R60, R75) -/

/-- The fresh column of a slot's activation is asked for or in flight, and no erase of sector 3 is asked for. -/
def CounterTable.asks (x : CounterTable) (k : SlotIx) : Prop :=
  x.eraseWanted = false ∧ (k ∈ x.activations ∨ ∃ w, x.inFlight = some w ∧ k ∈ w.activations)

theorem State.kick3_unerased (s : State) (h : s.counters.eraseWanted = false) : s.kick3.counters.eraseWanted = false := by
  by_cases busy : s.counters.inFlight.isSome = true ∨ s.erasing = true
  · rw [s.kick3_busy busy]; exact h
  · rw [not_or, Option.not_isSome_iff_eq_none, Bool.not_eq_true] at busy
    rw [s.kick3_free busy.1 busy.2]
    split
    · exact h
    · rfl

theorem State.kick3_asks (s : State) (k : SlotIx) (h : s.counters.asks k) : s.kick3.counters.asks k := by
  obtain ⟨unerased, asked⟩ := h
  refine ⟨s.kick3_unerased unerased, ?_⟩
  by_cases busy : s.counters.inFlight.isSome = true ∨ s.erasing = true
  · rw [s.kick3_busy busy]; exact asked
  · rw [not_or, Option.not_isSome_iff_eq_none, Bool.not_eq_true] at busy
    rw [s.kick3_free busy.1 busy.2]
    split
    · exact asked
    · refine .inr ⟨_, rfl, ?_⟩
      have here : k ∈ s.counters.activations := asked.resolve_right fun ⟨_, hw, _⟩ => by rw [busy.1] at hw; cases hw
      simpa [State.nextWrite3, unerased] using here

theorem State.addition_asks (s : State) (a : KeyAddition) (k : SlotIx) (unerased : s.counters.eraseWanted = false)
    (h : a = .activate k ∨ s.counters.asks k) : (s.addition false a).counters.asks k := by
  cases a with
  | load j r => exact h.resolve_left nofun
  | loadFp r => exact h.resolve_left nofun
  | activate j =>
    refine ((s.setSlot j (s.switched j)).columnAsked j).kick3_asks k ⟨unerased, ?_⟩
    rcases h with e | ⟨-, asked⟩
    · cases e
      exact .inl (List.mem_append_right _ (List.mem_singleton.2 rfl))
    · exact asked.imp_left (List.mem_append_left _)

theorem State.addition_unerased (s : State) (a : KeyAddition) (h : s.counters.eraseWanted = false) :
    (s.addition false a).counters.eraseWanted = false := by
  cases a with
  | load j r => exact h
  | loadFp r => exact h
  | activate j => exact ((s.setSlot j (s.switched j)).columnAsked j).kick3_unerased h

theorem additions_ask (l : List KeyAddition) (s : State) (k : SlotIx) (unerased : s.counters.eraseWanted = false)
    (h : .activate k ∈ l ∨ s.counters.asks k) : (l.foldl (State.addition false) s).counters.asks k := by
  induction l generalizing s with
  | nil => exact h.resolve_left nofun
  | cons a l ih =>
    refine ih _ (s.addition_unerased a unerased) ?_
    rcases h with h | h
    · rcases List.mem_cons.1 h with e | h
      · exact .inr (s.addition_asks a k unerased (.inl e.symm))
      · exact .inl h
    · exact .inr (s.addition_asks a k unerased (.inr h))

/-- The write of a fresh column begins at once where it can. -/
theorem State.requestColumn_writes (s : State) (k : SlotIx) (free : s.counters.inFlight = none) (unerased : s.counters.eraseWanted = false)
    (erasing : s.erasing = false) :
    ∃ x, (s.requestColumn k).counters.inFlight = some x ∧ k ∈ x.activations ∧ ∀ i : TillIx, (x.contents[k])[i] = 256 := by
  have asked : k ∈ (s.columnAsked k).counters.activations := List.mem_append_right _ (List.mem_singleton.2 rfl)
  have busy : ¬ (s.columnAsked k).counters.quiet = true := fun h => by
    have := ((CounterTable.quiet_iff _).1 h).2.1
    rw [this] at asked
    cases asked
  rw [s.requestColumn_eq, (s.columnAsked k).kick3_free free erasing, if_neg busy]
  refine ⟨_, rfl, ?_, fun i => ?_⟩
  · have same : (s.columnAsked k).counters.eraseWanted = false := unerased
    simpa [State.nextWrite3, same] using asked
  · change (((s.columnAsked k).sector3 (s.columnAsked k).counters.activations)[k])[i] = 256
    rw [State.sector3_read, if_pos (List.contains_iff_mem.2 asked)]
    rfl

/-! ### What the next write records (R68) -/

/-- One new write follows where one is wanted, carrying what has waited. -/
theorem State.end2_writes (s : State) (wanted : s.writer2.wanted = true) (unerased : s.writer2.eraseWanted = false) (free : s.erasing = false) :
    s.end2 = s.freed2.writing2 (some (s.sector2 s.writer2.waiting)) := by
  rw [s.end2_eq, s.freed2.kick2_free rfl free, if_neg (by simp [State.freed2, unerased]), if_pos (by simp [State.freed2, wanted])]
  rfl

/-- A record as sector 2 keeps it. -/
theorem KeySlot.stored_eq (x : KeySlot) : x.stored =
    { current := x.current.map (fun r => { r with failed := false }), staged := x.staged.map (fun r => { r with failed := false }),
      state := x.state, floor := x.floor } := rfl

/-- An activation that waits is recorded as the switch will make it. -/
theorem StoredSlot.withAddition_activate (x : KeySlot) (k : SlotIx) (r : KeyRecord) (h : x.staged = some r) :
    x.stored.withAddition k (.activate k) = { current := some { r with failed := false }, staged := none, floor := r.gen,
                                              state := if x.state = .faulted then .faulted else .active } := by
  rw [StoredSlot.withAddition, if_pos rfl, x.stored_eq, h, SlotState.switched_eq]
  rfl

/-! ### The end of a sector 1 write -/

/-- With nothing more wanted of sector 1, no write follows, and no command waits for one in flight. -/
theorem State.end1_rests (s : State) (hw : s.writer1.wanted = false) (he : s.writer1.eraseWanted = false) : s.end1 = s.freed1 := by
  rw [s.end1_eq]
  by_cases busy : s.erasing = true
  · exact s.freed1.kick1_busy (.inr busy)
  · rw [s.freed1.kick1_free rfl (Bool.eq_false_of_not_eq_true busy), if_neg (by simp [State.freed1, he]), if_neg (by simp [State.freed1, hw])]

theorem State.length_end1 (s : State) : s.end1.mgmt.jobs.length = s.mgmt.jobs.length := by
  rw [s.end1_eq]
  by_cases busy : s.erasing = true
  · rw [s.freed1.kick1_busy (.inr busy)]
    exact List.length_map ..
  · rw [s.freed1.kick1_free rfl (Bool.eq_false_of_not_eq_true busy)]
    split
    · exact (List.length_map ..).trans (List.length_map ..)
    · split
      · exact (List.length_map ..).trans (List.length_map ..)
      · exact List.length_map ..

/-- A sector 1 write that completes. -/
theorem State.settingsComplete_spec (s : State) (c : Sector1) :
    let u := State.end1 { s with store := { s.store with sec1 := .good c } }
    u.store = { s.store with sec1 := .good c } ∧ u.mgmt.jobs.length = s.mgmt.jobs.length
      ∧ (s.writer1.wanted = false → s.writer1.eraseWanted = false →
          u.writer1.inFlight = none ∧ ∀ j ∈ u.mgmt.jobs, j.s1 ≠ .inFlight)
      ∧ u = { s with store := u.store, writer1 := u.writer1, mgmt := u.mgmt } := by
  intro u
  obtain ⟨d, hd⟩ : ∃ d : State, d = { s with store := { s.store with sec1 := .good c } } := ⟨_, rfl⟩
  have hu : u = d.end1 := by rw [hd]
  have frame := d.end1_frame
  rw [← hu] at frame
  refine ⟨by rw [frame, hd], by rw [hu, d.length_end1, hd], fun hw he => ?_, by rw [frame, hd]⟩
  have rests : u = d.freed1 := hu.trans (d.end1_rests (by rw [hd]; exact hw) (by rw [hd]; exact he))
  rw [rests]
  refine ⟨rfl, fun j hj => ?_⟩
  obtain ⟨x, -, rfl⟩ := List.mem_map.1 hj
  exact Wait.ended_not_inFlight _

/-! ### The end of a sector 2 write that installs what it carries -/

/-- The state once a write of this content has put it in sector 2 and its additions are made. -/
def State.installed2 (s : State) (w : Write2) (c : Sector2) : State :=
  w.additions.foldl (State.addition false) { s with store := { s.store with sec2 := .good c } }

theorem State.completeWrite2_live (s : State) (w : Write2) (c : Sector2) (hc : w.contents = some c) (hv : w.void = false)
    (ht : w.thenErase3 = false) : s.completeWrite2 w = s.installed2 w c := by
  simp only [State.completeWrite2, State.installed2, hc, hv, ht, writtenSector, Option.isNone_some, Bool.false_eq_true, if_false]

section

variable {s : State} {w : Write2} {c : Sector2}

/-- The state once the write has ended and the next has begun. -/
def State.ended2 (s : State) (w : Write2) (c : Sector2) : State := (s.installed2 w c).end2

theorem State.installed2_addsOnly (s : State) (w : Write2) (c : Sector2) :
    ∃ keys counters events mgmt, s.installed2 w c = { s with
      store := { s.store with sec2 := .good c }, keys := keys, counters := counters, events := events, mgmt := mgmt } :=
  additions_addsOnly w.additions { s with store := { s.store with sec2 := .good c } }

theorem State.ended2_frame (s : State) (w : Write2) (c : Sector2) : s.ended2 w c = { s with
    store := { s.store with sec2 := .good c }, keys := (s.installed2 w c).keys, counters := (s.installed2 w c).counters
    events := (s.installed2 w c).events, writer2 := (s.ended2 w c).writer2, mgmt := (s.ended2 w c).mgmt } := by
  obtain ⟨_, _, _, _, h⟩ := s.installed2_addsOnly w c
  rw [State.ended2, State.end2_frame, h]

theorem State.slot_ended2 (s : State) (w : Write2) (c : Sector2) (k : SlotIx) : (s.ended2 w c).slot k = (s.installed2 w c).slot k := by
  have keys : (s.ended2 w c).keys = (s.installed2 w c).keys := (congrArg State.keys (s.ended2_frame w c) :)
  rw [State.slot, keys]
  rfl

theorem State.slot_ended2_other (k : SlotIx) (h : k ∉ w.additions.filterMap KeyAddition.slot?) : (s.ended2 w c).slot k = s.slot k :=
  (s.slot_ended2 w c k).trans (slot_additions_other w.additions _ k h)

theorem State.slot_ended2_of (k : SlotIx) (a : KeyAddition) (ha : a ∈ w.additions) (hk : a.slot? = some k)
    (hn : (w.additions.filterMap KeyAddition.slot?).Nodup) : (s.ended2 w c).slot k = (s.slot k).withAddition (s.named k) a :=
  (s.slot_ended2 w c k).trans (slot_additions w.additions _ k a ha hk hn)

theorem State.fp_ended2 (s : State) (w : Write2) (c : Sector2) :
    ((s.ended2 w c).keys.fp, (s.ended2 w c).keys.fpFloor) = ((s.installed2 w c).keys.fp, (s.installed2 w c).keys.fpFloor) := by
  rw [s.ended2_frame w c]

/-- What an activation that the write carried has made of its slot (R75). -/
theorem State.activated2 (k : SlotIx) (ha : .activate k ∈ w.additions) (hn : (w.additions.filterMap KeyAddition.slot?).Nodup) :
    let u := s.ended2 w c
    (u.slot k).current = (s.slot k).staged ∧ (u.slot k).staged = none
      ∧ (u.slot k).state = (if (s.slot k).state = .faulted then .faulted else .active)
      ∧ (∀ r, (s.slot k).staged = some r → (u.slot k).floor = r.gen)
      ∧ (∀ r, (s.slot k).current = some r →
          (u.slot k).previous = if s.outstanding.any (fun e => e.slot == k && e.gen == r.gen) then some r else none)
      ∧ (u.slot k).busy = (s.slot k).busy
      ∧ (s.counters.eraseWanted = false →
          k ∈ u.counters.activations ∨ ∃ x, u.counters.inFlight = some x ∧ k ∈ x.activations)
      ∧ (w.additions = [.activate k] → s.counters.inFlight = none → s.counters.eraseWanted = false → s.erasing = false →
          ∃ x, u.counters.inFlight = some x ∧ k ∈ x.activations ∧ ∀ i : TillIx, (x.contents[k])[i] = 256) := by
  intro u
  have slot : u.slot k = (s.slot k).withAddition (s.named k) (.activate k) := State.slot_ended2_of k _ ha rfl hn
  have counters : u.counters = (s.installed2 w c).counters := (congrArg State.counters (s.ended2_frame w c) :)
  rw [slot, counters]
  refine ⟨rfl, rfl, SlotState.switched_eq _, fun r hr => ?_, fun r hr => ?_, rfl, fun unerased => ?_, fun only free unerased erasing => ?_⟩
  · simp [KeySlot.withAddition, hr]
  · rw [KeySlot.withAddition, hr]
    rfl
  · exact (additions_ask w.additions { s with store := { s.store with sec2 := .good c } } k unerased (.inl ha)).2
  · rw [State.installed2, only]
    exact State.requestColumn_writes _ k free unerased erasing

/-- The one write that follows, where one is wanted (R68). -/
theorem State.next2 (hw : s.writer2.wanted = true) (he : s.writer2.eraseWanted = false) (free : s.erasing = false)
    (hn : (s.writer2.waiting.filterMap KeyAddition.slot?).Nodup) :
    let u := s.ended2 w c
    let kept := fun r : Option KeyRecord => r.map (fun x => { x with failed := false })
    ∃ x next, u.writer2.inFlight = some x ∧ x.contents = some next ∧ x.additions = s.writer2.waiting
      ∧ (∀ k, k ∉ s.writer2.waiting.filterMap KeyAddition.slot? → next.slots[k] =
          { current := kept (u.slot k).current, staged := kept (u.slot k).staged, state := (u.slot k).state
            floor := (u.slot k).floor })
      ∧ (∀ k r, .load k r ∈ s.writer2.waiting → next.slots[k] =
          { current := kept (u.slot k).current, staged := some r, state := (u.slot k).state, floor := (u.slot k).floor })
      ∧ ∀ k r, .activate k ∈ s.writer2.waiting → (u.slot k).staged = some r → next.slots[k] =
          { current := kept (some r), staged := none, floor := r.gen
            state := if (u.slot k).state = .faulted then .faulted else .active } := by
  intro u kept
  obtain ⟨t, ht⟩ : ∃ t : State, t = s.installed2 w c := ⟨_, rfl⟩
  obtain ⟨_, _, _, _, frame⟩ := s.installed2_addsOnly w c
  rw [← ht] at frame
  have writer : t.writer2 = s.writer2 := by rw [frame]
  have writes : u = t.freed2.writing2 (some (t.sector2 s.writer2.waiting)) := by
    rw [← writer, ← t.end2_writes (by rw [writer]; exact hw) (by rw [writer]; exact he) (by rw [frame]; exact free), ht]
    rfl
  have slot : ∀ k, u.slot k = t.slot k := fun k => ht ▸ s.slot_ended2 w c k
  refine ⟨_, t.sector2 s.writer2.waiting, by rw [writes]; rfl, rfl, congrArg Writer2.waiting writer, fun k hk => ?_, fun k r hr => ?_, fun k r hr staged => ?_⟩
  · rw [slot, (t.sector2_slot _ k).1 hk]
    rfl
  · rw [slot, (t.sector2_slot _ k).2 _ hr rfl hn]
    exact if_pos rfl
  · rw [slot] at staged ⊢
    rw [(t.sector2_slot _ k).2 _ hr rfl hn, StoredSlot.withAddition_activate _ k r staged]
    rfl

end

/-- A sector 2 write that fails under LENIENT: NV-WRITE-FAIL, and no addition made (R69). -/
theorem State.keysFail_lenient (s : State) (w : Write2) (hv : w.void = false) (h : s.settings.store.policy = .lenient) :
    let u := ((s.dropAdditions w).contained .nvWriteFail none w.slot? (some (.sector 2))).end2
    u.count .nvWriteFail = min (s.count .nvWriteFail + 1) 65535 ∧ Released w s u
      ∧ (s.events.fault = none → u.events.fault =
          some { code := .nvWriteFail, till := none, slot := w.slot?, location := some (.sector 2), further := 0 })
      ∧ u = { s with keys := u.keys, events := u.events, writer2 := u.writer2, mgmt := u.mgmt } := by
  intro u
  obtain ⟨count, fault, kept, -⟩ := s.keysFail_spec w
  obtain ⟨_, dropped⟩ := s.dropAdditions_frame w
  simp only [State.keptPart, Prod.mk.injEq] at kept
  obtain ⟨-, -, -, keys, -, -⟩ := kept
  have contained := (s.dropAdditions w).contained_lenient .nvWriteFail none w.slot? (some (.sector 2)) (by rw [dropped]; exact h)
  refine ⟨count, s.dropAdditions_released u w hv keys, fault, ?_⟩
  have hu : u = ((s.dropAdditions w).raise .nvWriteFail none w.slot? (some (.sector 2))).end2 := by rw [← contained]
  rw [hu, State.end2_frame, dropped]
  rfl

/-- Settles O47: the ends that find no write, the write of sector 1, the write of sector 2 and what follows it. -/
theorem sectorWriteEndsInstallWhatTheyCarry : Obligations.SectorWriteEndsInstallWhatTheyCarry := by
  unfold Obligations.SectorWriteEndsInstallWhatTheyCarry
  refine ⟨fun s => ⟨fun h => ?_, fun h => ?_⟩, fun s c hw => ⟨?_, fun policy => ?_⟩, fun s w c hw hc hn one hv ht hz => ?_⟩
  · simp only [exec, execSectorWriteComplete, execSectorWriteFail, h, and_self]
  · simp only [exec, execSectorWriteComplete, execSectorWriteFail, h, and_self]
  · exact ⟨_, s.exec_settingsComplete (some c) hw, s.settingsComplete_spec c⟩
  · have fails := s.settingsFail_failedAs
    obtain ⟨count, fault, -, -⟩ := fails
    have contained := s.contained_lenient .nvWriteFail none none (some (.sector 1)) policy
    refine ⟨_, s.exec_settingsFail (some c) hw, count, fun none => fault none policy, ?_⟩
    rw [contained, State.end1_frame]
    rfl
  · intro carries slots
    refine ⟨⟨s.ended2 w c, by rw [s.exec_keysComplete w hw, s.completeWrite2_live w c hc hv ht]; rfl, by rw [s.ended2_frame w c],
      fun k hk => State.slot_ended2_other k hk, fun k r hr => State.slot_ended2_of k _ hr rfl hn, fun r hr => ?_, fun none => ?_, fun h => ?_,
      fun k hk => State.activated2 k hk hn, State.next2, by rw [s.ended2_frame w c]⟩, fun policy => ?_⟩
    · exact Prod.mk.inj ((s.fp_ended2 w c).trans (fp_additions w.additions _ r (fun q hq => one q r hq hr) (.inl hr)))
    · exact Prod.mk.inj ((s.fp_ended2 w c).trans (fp_additions_other w.additions _ none))
    · exact (State.count_congr (congrArg State.events (s.ended2_frame w c) :) _).trans (count_additions w.additions _ h)
    · obtain ⟨count, ⟨released, others, fp, floor⟩, fault, frame⟩ := s.keysFail_lenient w hv policy
      exact ⟨_, s.exec_keysFail w hw hz, count, fp, floor, released, others, fault, frame⟩

end Sys2Proof.Machine
end

section
/-! PROOFS. The waiting command (R74, R75, R114, R178): its job as it is carried out, the quiet condition, and ACTIVATE-KEY carried out. -/

namespace Sys2Proof.Machine

/-! ### The waiting command's job (R178) -/

theorem Job.isWaiting_iff (j : Job) : j.isWaiting = true ↔ ∃ h l, j.role = .waiting h l := by
  unfold Job.isWaiting
  cases j.role <;> simp

/-- One command waits under a hold, its limit running, and no other does. -/
structure State.Awaits (u : State) (before after : List Job) (j : Job) (h : Hold) (limit : Nat) : Prop where
  jobs : u.mgmt.jobs = before ++ j :: after
  role : j.role = .waiting h (some limit)
  others : ∀ x ∈ before ++ after, x.isWaiting = false

/-- The waiting command's job once it is carried out under its hold: answered so, and waiting for what it has asked for. -/
def Job.carried (j : Job) (h : Hold) (x : Status) (r : Results) : Job := { j with status := x, results := r, role := .waiting h none }

/-- The jobs replaced. -/
def State.withJobs (u : State) (jobs : List Job) : State := { u with mgmt := { u.mgmt with jobs := jobs } }

theorem map_unchanged {f : Job → Job} {l : List Job} (h : ∀ x ∈ l, f x = x) : l.map f = l :=
  (List.map_congr_left h).trans (List.map_id l)

section

variable {u : State} {before after : List Job} {j : Job} {h : Hold} {limit : Nat} (a : u.Awaits before after j h limit)
include a

/-- Being carried out changes the waiting command's job and no other. -/
theorem State.Awaits.settleWaiting (x : Status) (r : Results) (f : Job → Job) :
    u.settleWaiting x r f = u.withJobs (before ++ f (j.carried h x r) :: after) := by
  have waits : j.isWaiting = true := j.isWaiting_iff.2 ⟨h, some limit, a.role⟩
  have still : ∀ {l : List Job} (g : Job → Job), (∀ y ∈ l, y.isWaiting = false) → l.map (fun y => if y.isWaiting then g y else y) = l :=
    fun g free => map_unchanged fun y hy => if_neg (by rw [free y hy]; exact Bool.false_ne_true)
  simp only [State.settleWaiting, State.mapWaiting, State.mapJobs, State.withJobs, a.jobs, List.map_append, List.map_cons, waits, if_true,
    still _ fun y hy => a.others y (List.mem_append_left _ hy), still _ fun y hy => a.others y (List.mem_append_right _ hy), a.role,
    Job.carried]

/-- It is the command that the end of a step looks at. -/
theorem State.Awaits.find : u.mgmt.jobs.find? (fun x => x.hold?.isSome) = some j := by
  have passed : ∀ x ∈ before, ¬ x.hold?.isSome = true := fun x hx => by
    have free := a.others x (List.mem_append_left _ hx)
    unfold Job.isWaiting at free
    unfold Job.hold?
    cases e : x.role <;> simp_all
  have hold : j.hold? = some h := by unfold Job.hold?; rw [a.role]
  rw [a.jobs, List.find?_append, List.find?_eq_none.2 passed, Option.none_or, List.find?_cons_of_pos (by rw [hold]; rfl)]

end

/-! ### The quiet condition (R114) -/

theorem State.quiet_slot_iff (u : State) (k : SlotIx) : u.quiet (.slot k) = true ↔ ∀ i w, (u.ctx i).wrap = some w → w.slot ≠ k := by
  simp only [State.quiet, List.all_eq_true, bne_iff_ne]
  constructor
  · intro q i w hw e
    exact q i (mem_allCtxs i) (by rw [hw, ← e]; rfl)
  · intro q i _ e
    obtain ⟨w, hw, hk⟩ := Option.map_eq_some_iff.1 e
    exact q i w hw hk

theorem State.quiet_engine_iff (u : State) : u.quiet .engine = true ↔ ∀ i, (u.ctx i).phase = .idle := by
  simp only [State.quiet, List.all_eq_true, beq_iff_eq]
  exact ⟨fun q i => q i (mem_allCtxs i), fun q i _ => q i⟩

/-- A command under this hold, carried out (R74, R78, R184). -/
def State.carryOut (u : State) : Hold → Option Instr → State
  | .slot k, some (.activateKey _) => u.carryActivate k
  | .slot k, some (.eraseKey _) => u.carryErase k
  | .engine, some (.decommission f) => u.carryDecommission f
  | _, _ => u

section

variable {u : State} {before after : List Job} {j : Job} {h : Hold} {limit : Nat} (a : u.Awaits before after j h limit)
include a

theorem State.Awaits.quietCheck : u.quietCheck = if u.quiet h then u.carryOut h j.cmd else u := by
  have hold : j.hold? = some h := by unfold Job.hold?; rw [a.role]
  simp only [State.quietCheck, a.find, hold]
  rfl

/-- Until its quiet condition is met, the command is not carried out. -/
theorem State.Awaits.settle_waits (q : ¬ u.quiet h = true) : u.settle = u.finish := by
  rw [State.settle, a.quietCheck, if_neg q]

theorem State.Awaits.settle_carries (q : u.quiet h = true) : u.settle = (u.carryOut h j.cmd).finish := by
  rw [State.settle, a.quietCheck, if_pos q]

end

/-! ### Jobs while a write of sector 2 is asked for (R68) -/

/-- No request of sector 2 is outstanding, and one can begin. -/
def State.free2 (s : State) : Prop :=
  s.writer2.inFlight = none ∧ s.writer2.waiting = [] ∧ s.writer2.eraseWanted = false ∧ s.erasing = false

/-- Where nothing is asked of sector 2, the request begins its write at once. -/
theorem State.request2_free (s : State) (adds : List KeyAddition) (h : s.free2) :
    s.request2 adds = (s.asking2 adds).writing2 (some (s.sector2 adds)) := by
  obtain ⟨free, empty, unerased, erasing⟩ := h
  have carried : (s.asking2 adds).writer2.waiting = adds := by rw [State.asking2, empty, List.nil_append]
  rw [s.request2_eq, (s.asking2 adds).kick2_free free erasing, if_neg (by rw [State.asking2, unerased]; exact Bool.false_ne_true),
    if_pos (show (s.asking2 adds).writer2.wanted = true from rfl), carried]
  rfl

/-- A request of sector 2 changes no job but in its wait for that sector, and begins the one that asks. -/
theorem State.request2_jobs (s : State) (adds : List KeyAddition) :
    ∃ f : Job → Job, (s.request2 adds).mgmt = { s.mgmt with jobs := s.mgmt.jobs.map f } ∧ (∀ j, f j = { j with s2 := (f j).s2 })
      ∧ (s.writer2.inFlight.isSome = true → ∀ j, f j = j)
      ∧ (s.free2 → ∀ j, j.s2 = .queued → (f j).s2 = .inFlight) := by
  have queued : ∀ j : Job, j.s2 = .queued → j.begun2.s2 = .inFlight := fun j h => by rw [Job.begun2, h]; rfl
  have kept : ({ s.mgmt with jobs := s.mgmt.jobs.map id } : MgmtUnit) = s.mgmt := by rw [List.map_id]
  by_cases busy : s.writer2.inFlight.isSome = true ∨ s.erasing = true
  · refine ⟨id, ?_, fun _ => rfl, fun _ _ => rfl, fun ⟨free, _, _, erasing⟩ => ?_⟩
    · rw [s.request2_eq, (s.asking2 adds).kick2_busy busy, kept]
      rfl
    · rw [free, erasing] at busy
      simp at busy
  · rw [not_or, Option.not_isSome_iff_eq_none, Bool.not_eq_true] at busy
    obtain ⟨free, erasing⟩ := busy
    refine ⟨Job.begun2, ?_, fun _ => rfl, fun some => ?_, fun _ => queued⟩
    · rw [s.request2_eq, (s.asking2 adds).kick2_free free erasing]
      split
      · rfl
      · rfl
    · rw [free] at some
      cases some

/-! ### ACTIVATE-KEY carried out (R74, R75) -/

/-- The request of sector 2 that the command now waits for. -/
def Job.queued2 (j : Job) : Job := { j with s2 := .queued }

theorem State.carryActivate_faulted (s : State) (k : SlotIx) (h : (s.slot k).state = .faulted) :
    s.carryActivate k = s.settleWaiting .range (.bytes []) id := if_pos h

theorem State.carryActivate_busy (s : State) (k : SlotIx) (h : (s.slot k).state ≠ .faulted) (busy : (s.slot k).busy = true) :
    s.carryActivate k = s.settleWaiting .busy (.bytes []) id := by
  simp [State.carryActivate, h, busy]

theorem State.carryActivate_unstaged (s : State) (k : SlotIx) (h : (s.slot k).state ≠ .faulted) (busy : (s.slot k).busy = false)
    (staged : (s.slot k).staged = none) : s.carryActivate k = s.settleWaiting .noStaged (.bytes []) id := by
  simp [State.carryActivate, h, busy, staged]

theorem State.carryActivate_previous (s : State) (k : SlotIx) (h : (s.slot k).state ≠ .faulted) (busy : (s.slot k).busy = false)
    (staged : (s.slot k).staged.isSome = true) (previous : (s.slot k).previous.isSome = true) :
    s.carryActivate k = s.settleWaiting .previousInUse (.bytes []) id := by
  have some : (s.slot k).staged ≠ none := by simpa [Option.isSome_iff_ne_none] using staged
  simp [State.carryActivate, h, busy, some, previous]

/-- The state once the slot is busy and the command waits for its write. -/
def State.activating (s : State) (k : SlotIx) : State :=
  (s.settleWaiting .ok (.activation k) Job.queued2).setSlot k { s.slot k with busy := true }

theorem State.carryActivate_goes (s : State) (k : SlotIx) (h : (s.slot k).state ≠ .faulted) (busy : (s.slot k).busy = false)
    (staged : (s.slot k).staged.isSome = true) (previous : (s.slot k).previous = none) :
    s.carryActivate k = (s.activating k).request2 [.activate k] := by
  have some : (s.slot k).staged ≠ none := by simpa [Option.isSome_iff_ne_none] using staged
  unfold State.carryActivate
  rw [if_neg h, if_neg (by rw [busy]; exact Bool.false_ne_true), if_neg (by simpa [Option.isNone_iff_eq_none] using some),
    if_neg (by rw [previous]; exact Bool.false_ne_true)]
  rfl

end Sys2Proof.Machine
end

section
/-! PROOFS. Local replies sent one after another, and Outstanding entries that go with their slot's records (R101, R122, R132, R134). -/

namespace Sys2Proof.Machine

/-! ### The frames of replies sent one after another (R134) -/

/-- The frames of replies that are built from an identification count on. -/
def replyFrames (ipId : Nat) (replies : List (ReturnPath × Bytes)) : List TxFrame :=
  replies.zipIdx.map (fun x => { bytes := replyFrame x.1.1 ((ipId + x.2) % 65536) x.1.2, isReset := false })

theorem replyFrames_append (ipId : Nat) (a b : List (ReturnPath × Bytes)) :
    replyFrames ipId (a ++ b) = replyFrames ipId a ++ replyFrames ((ipId + a.length) % 65536) b := by
  have shifted : ∀ n : Nat, (ipId + (n + a.length)) % 65536 = ((ipId + a.length) % 65536 + n) % 65536 := fun n => by omega
  have moved : b.zipIdx a.length = b.zipIdx.map (Prod.map id (· + a.length)) :=
    (List.map_snd_add_zipIdx_eq_zipIdx (n := a.length) (k := 0)).symm
  simp only [replyFrames, List.zipIdx_append, List.map_append, Nat.zero_add, moved, List.map_map]
  exact congrArg _ (List.map_congr_left fun x _ => by simp only [Function.comp, Prod.map, id, shifted])

/-- These replies have been sent: their frames stand behind those that were queued, while the Lane port is up and has room for them. -/
def Emits (replies : List (ReturnPath × Bytes)) (s t : State) : Prop :=
  s.lane.linkUp = true → s.ipId < 65536 → s.lane.priority.length + replies.length ≤ 32 →
    t.lane.priority = s.lane.priority ++ replyFrames s.ipId replies ∧ t.lane.linkUp = true ∧ t.ipId = (s.ipId + replies.length) % 65536

namespace Emits

variable {a b : List (ReturnPath × Bytes)} {s t u : State}

theorem of_same (lane : t.lane = s.lane) (ipId : t.ipId = s.ipId) : Emits [] s t := fun up id _ => by
  rw [lane, ipId]
  exact ⟨(List.append_nil _).symm, up, (Nat.mod_eq_of_lt id).symm⟩

theorem trans (h : Emits a s t) (h' : Emits b t u) : Emits (a ++ b) s u := fun up id room => by
  rw [List.length_append] at room ⊢
  obtain ⟨queue, still, next⟩ := h up id (by omega)
  have length : (replyFrames s.ipId a).length = a.length := by simp [replyFrames]
  obtain ⟨queue', still', next'⟩ := h' still (by omega) (by rw [queue, List.length_append, length]; omega)
  refine ⟨?_, still', by rw [next', next]; omega⟩
  rw [queue', queue, next, replyFrames_append, List.append_assoc]

end Emits

theorem State.localReply_emits (s : State) (i : TillIx) (n ref : Nat) (p : ReturnPath) (r : LocalReply) :
    Emits [(p, localReplyPayload r.kind n ref r.reason)] s (s.localReply i n ref p r) := fun up id room => by
  have laneOpen : s.laneOpen := ⟨Nat.lt_of_succ_le room, up⟩
  refine ⟨?_, ?_, ?_⟩
  · rw [s.localReply_open i n ref p r laneOpen]
    simp [replyFrames, Nat.mod_eq_of_lt id]
  · have still : (s.countReply i r).laneOpen := by rw [State.laneOpen, s.countReply_lane]; exact laneOpen
    rw [s.localReply_eq, State.offerLane_open _ _ still]
    exact still.2
  · rw [s.localReply_eq, State.ipId_offerLane, s.countReply_ipId]
    rfl

/-- The replies of a queue that is refused. -/
def refusals (queue : List TillMsg) (r : RefuseReason) : List (ReturnPath × Bytes) :=
  queue.map (fun m => (m.path, localReplyPayload (LocalReply.refused r).kind m.number m.reference (LocalReply.refused r).reason))

theorem State.refuseQueue_emits (s : State) (i : TillIx) (r : RefuseReason) :
    Emits (refusals (s.till i).queue r) s (s.refuseQueue i (.refused r)) := by
  have replies : ∀ (l : List TillMsg) (t : State), Emits (refusals l r) t (l.foldl (fun t m => t.replyTo i m (.refused r)) t) := by
    intro l
    induction l with
    | nil => exact fun t => .of_same rfl rfl
    | cons m l ih => exact fun t => (t.localReply_emits i m.number m.reference m.path (.refused r)).trans (ih _)
  exact Emits.trans (a := []) (t := s.setTill i { s.till i with queue := [] }) (.of_same rfl rfl) (replies _ _)

theorem refuseQueues_emits (l : List TillIx) (once : l.Nodup) (r : RefuseReason) (s : State) :
    Emits (l.flatMap fun i => refusals (s.till i).queue r) s (l.foldl (fun s i => s.refuseQueue i (.refused r)) s) := by
  induction l generalizing s with
  | nil => exact .of_same rfl rfl
  | cons i l ih =>
    obtain ⟨hi, hl⟩ := List.nodup_cons.1 once
    have others : l.flatMap (fun j => refusals ((s.refuseQueue i (.refused r)).till j).queue r) = l.flatMap fun j => refusals (s.till j).queue r :=
      List.flatMap_congr fun j hj => by
      rw [s.refuseQueue_other _ (ne_of_mem_of_not_mem hj hi)]
    have rest := ih hl (s.refuseQueue i (.refused r))
    rw [others] at rest
    exact (s.refuseQueue_emits i r).trans rest

/-- Every message of the queues refused is counted (R46). -/
theorem refuseQueues_counted (l : List TillIx) (once : l.Nodup) (r : RefuseReason) (s : State) (h : s.count .localRefused ≤ 65535) :
    (l.foldl (fun s i => s.refuseQueue i (.refused r)) s).count .localRefused =
      min (s.count .localRefused + (l.flatMap fun i => (s.till i).queue).length) 65535 := by
  induction l generalizing s with
  | nil => exact (Nat.min_eq_left h).symm
  | cons i l ih =>
    obtain ⟨hi, hl⟩ := List.nodup_cons.1 once
    obtain ⟨-, -, -, -, counted, -⟩ := RefusesMessages.refuseQueue s i r
    have others : l.flatMap (fun j => ((s.refuseQueue i (.refused r)).till j).queue) = l.flatMap fun j => (s.till j).queue :=
      List.flatMap_congr fun j hj => by
      rw [s.refuseQueue_other _ (ne_of_mem_of_not_mem hj hi)]
    rw [List.foldl_cons, ih hl _ (by rw [counted h]; exact Nat.min_le_right _ _), counted h, others, List.flatMap_cons, List.length_append]
    omega

/-- Refusals count what is refused, and what becomes of the frames. -/
theorem State.count_refuseQueue (s : State) (i : TillIx) (r : RefuseReason) {e : EventCode} (h : e ≠ .localRefused) (h1 : e ≠ .laneOverflow)
    (h2 : e ≠ .linkDiscard) : (s.refuseQueue i (.refused r)).count e = s.count e := by
  have replies : ∀ (l : List TillMsg) (t : State), (l.foldl (fun t m => t.replyTo i m (.refused r)) t).count e = t.count e :=
    foldl_rel (fun t u : State => u.count e = t.count e) (fun _ => rfl) (fun _ _ _ first second => second.trans first) _
      fun t m => t.count_localReply i m.number m.reference m.path (.refused r) h h1 h2
  exact replies _ _

theorem count_refuseQueues (l : List TillIx) (r : RefuseReason) (s : State) {e : EventCode} (h : e ≠ .localRefused) (h1 : e ≠ .laneOverflow)
    (h2 : e ≠ .linkDiscard) : (l.foldl (fun s i => s.refuseQueue i (.refused r)) s).count e = s.count e :=
  foldl_rel (fun t u : State => u.count e = t.count e) (fun _ => rfl) (fun _ _ _ first second => second.trans first) _
    (fun t i => t.count_refuseQueue i r h h1 h2) _ _

/-! ### Entries that leave with their slot's records (R122, R132) -/

/-- So many entries have been taken off the Outstanding List, and each answered TIMED-OUT and counted: what that touches, and what stays of the
tills. Contexts move on only where they waited for places. -/
structure ClearsEntries (n : Nat) (s t : State) : Prop where
  frame : t = { s with
    ctxs := t.ctxs, tills := t.tills, outstanding := t.outstanding, uplink := t.uplink, waitOrder := t.waitOrder, placeWait := t.placeWait
    events := t.events, lane := t.lane, ipId := t.ipId }
  tills : ∀ j, (t.till j).queue = (s.till j).queue ∧ (t.till j).binding = (s.till j).binding
  counts : ∀ e, e ≠ .linkDiscard → e ≠ .laneOverflow → e ≠ .localTimedOut → e ≠ .entryErased → t.count e = s.count e
  timedOut : s.count .localTimedOut ≤ 65535 → t.count .localTimedOut = min (s.count .localTimedOut + n) 65535
  erased : s.count .entryErased ≤ 65535 → t.count .entryErased = min (s.count .entryErased + n) 65535

namespace ClearsEntries

variable {n m : Nat} {s t u : State}

/-- Nothing is counted but what becomes of frames of the Uplink. -/
theorem of_uncounted (frame : t = { s with
      ctxs := t.ctxs, tills := t.tills, outstanding := t.outstanding, uplink := t.uplink, waitOrder := t.waitOrder, placeWait := t.placeWait
      events := t.events, lane := t.lane, ipId := t.ipId })
    (tills : ∀ j, (t.till j).queue = (s.till j).queue ∧ (t.till j).binding = (s.till j).binding)
    (counts : ∀ e, e ≠ .linkDiscard → t.count e = s.count e) : ClearsEntries 0 s t :=
  ⟨frame, tills, fun e h _ _ _ => counts e h, fun h => by rw [counts _ (by decide)]; exact (Nat.min_eq_left h).symm,
    fun h => by rw [counts _ (by decide)]; exact (Nat.min_eq_left h).symm⟩

theorem refl (s : State) : ClearsEntries 0 s s := of_uncounted rfl (fun _ => ⟨rfl, rfl⟩) fun _ _ => rfl

theorem trans (h : ClearsEntries n s t) (h' : ClearsEntries m t u) : ClearsEntries (n + m) s u := by
  refine ⟨?_, fun j => ?_, fun e a b c d => ?_, fun le => ?_, fun le => ?_⟩
  · rw [h'.frame, h.frame]
  · obtain ⟨q, b⟩ := h.tills j
    obtain ⟨q', b'⟩ := h'.tills j
    exact ⟨q'.trans q, b'.trans b⟩
  · exact (h'.counts e a b c d).trans (h.counts e a b c d)
  · rw [h'.timedOut (by rw [h.timedOut le]; exact Nat.min_le_right _ _), h.timedOut le]
    omega
  · rw [h'.erased (by rw [h.erased le]; exact Nat.min_le_right _ _), h.erased le]
    omega

end ClearsEntries

theorem State.queue_ctxToIdle (s : State) (c : CtxIx) (j : TillIx) :
    ((s.ctxToIdle c).till j).queue = (s.till j).queue ∧ ((s.ctxToIdle c).till j).binding = (s.till j).binding := by
  obtain ⟨_, same⟩ := s.till_ctxToIdle_same c j
  rw [same]
  exact ⟨rfl, rfl⟩

/-- A context that is given a place offers its frame, and nothing leaves the Outstanding List (R101, R102). -/
theorem State.offerWrap_clears (s : State) (i : CtxIx) (rest : List CtxIx) :
    ClearsEntries 0 s (State.offerWrap { s with placeWait := rest } i) := by
  obtain ⟨v, hv⟩ : ∃ v : State, v = { s with placeWait := rest } := ⟨_, rfl⟩
  rw [← hv]
  have stays : v.offerWrap i = v → ClearsEntries 0 s (v.offerWrap i) := fun e => by
    rw [e, hv]
    exact .of_uncounted rfl (fun _ => ⟨rfl, rfl⟩) fun _ _ => rfl
  cases hw : (v.ctx i).wrap with
  | none => exact stays (by simp only [State.offerWrap, hw])
  | some w =>
    cases hm : w.msg with
    | none => exact stays (by simp only [State.offerWrap, hw, hm])
    | some m =>
      rw [v.offerWrap_eq i w m hw hm]
      rcases (v.placing i w).offerUplink_cases (.ctx i) (v.wrapFrame w m) rfl with h | ⟨up, ev, counts, h⟩
      · rw [h, hv]
        exact .of_uncounted rfl (fun _ => ⟨rfl, rfl⟩) fun _ _ => rfl
      · obtain ⟨x, hx⟩ : ∃ x : State, x = { v.placing i w with
          uplink := up, events := ev, outstanding := v.outstanding ++ [v.newEntry w m] } := ⟨_, rfl⟩
        have idles : (v.placing i w).offerUplink (.ctx i) (v.wrapFrame w m) = x.ctxToIdle i := by
          rw [h, hx]
          exact State.placed_ctx { v.placing i w with uplink := up, events := ev } i { w with place := true } m (v.placing_wrap i w) hm
        have events : (x.ctxToIdle i).events = ev := by rw [x.ctxToIdle_frame, hx]
        have queues := x.queue_ctxToIdle i
        rw [idles]
        refine .of_uncounted ?_ (fun j => ?_) fun e he => ?_
        · rw [x.ctxToIdle_frame, hx, hv]
          rfl
        · rw [(queues j).1, (queues j).2, hx, hv]
          exact ⟨rfl, rfl⟩
        · have unchanged : (v.placing i w).count e = s.count e := by rw [hv]; rfl
          exact ((State.count_congr (s := { v.placing i w with events := ev }) events e).trans (counts e he)).trans unchanged

/-- Freed places are given on (R101). -/
theorem State.servePlaces_clears (s : State) : ClearsEntries 0 s s.servePlaces := by
  refine foldl_rel (ClearsEntries 0) .refl (fun _ _ _ => .trans) _ (fun t i => ?_) _ _
  split
  · exact t.offerWrap_clears i _
  · exact .refl t

theorem State.dropPrevious_of_none (s : State) (k : SlotIx) (gen : Nat) (h : (s.slot k).previous = none) : s.dropPrevious k gen = s := by
  unfold State.dropPrevious
  split
  · rfl
  · rw [h]

/-- The Outstanding List once the pair of an entry has been taken off it. -/
def withoutPair (l : List OutEntry) (e : OutEntry) : List OutEntry := l.eraseP (fun x => x.till == e.till && x.reference == e.reference)

/-- An entry of a slot that has no previous record leaves the Key Table as it is. -/
theorem State.removeEntry_of_none (s : State) (e : OutEntry) (h : (s.slot e.slot).previous = none) :
    s.removeEntry e = State.servePlaces { s with outstanding := withoutPair s.outstanding e } :=
  congrArg State.servePlaces (State.dropPrevious_of_none { s with outstanding := withoutPair s.outstanding e } e.slot e.gen h)

theorem State.eraseEntry_clears (s : State) (e : OutEntry) (h : (s.slot e.slot).previous = none) : ClearsEntries 1 s (s.eraseEntry e) := by
  have removed : ClearsEntries 0 s (s.removeEntry e) := by
    rw [s.removeEntry_of_none e h]
    exact ClearsEntries.trans (t := { s with outstanding := withoutPair s.outstanding e })
      (.of_uncounted rfl (fun _ => ⟨rfl, rfl⟩) fun _ _ => rfl) (State.servePlaces_clears _)
  have replied : ∀ t : State, ClearsEntries 1 t ((t.localReply e.till e.number e.reference e.path .timedOut).raise .entryErased
      (till := some e.till) (slot := some e.slot)) := fun t => by
    obtain ⟨u, hu⟩ : ∃ u, u = t.localReply e.till e.number e.reference e.path .timedOut := ⟨_, rfl⟩
    have frame : u = { t with tills := u.tills, events := u.events, lane := u.lane, ipId := u.ipId } :=
      hu ▸ (t.localReply_repliesOnly e.till e.number e.reference e.path .timedOut).eq
    have others : ∀ x, x ≠ .linkDiscard → x ≠ .laneOverflow → x ≠ .localTimedOut → u.count x = t.count x := fun x a b c =>
      hu ▸ t.count_localReply e.till e.number e.reference e.path .timedOut c b a
    have own : u.count .localTimedOut = min (t.count .localTimedOut + 1) 65535 :=
      hu ▸ t.count_localReply_self e.till e.number e.reference e.path .timedOut
    rw [← hu]
    refine ⟨?_, fun j => ?_, fun x a b c d => ?_, fun _ => ?_, fun _ => ?_⟩
    · rw [frame]
      rfl
    · obtain ⟨_, same⟩ := t.localReply_sameTill e.till j e.number e.reference e.path .timedOut
      rw [← hu] at same
      exact ⟨(congrArg Till.queue same :), (congrArg Till.binding same :)⟩
    · rw [u.count_raise_ne _ _ _ d, others x a b c]
    · rw [u.count_raise_ne _ _ _ (by decide), own]
    · rw [u.count_raise_self, others _ (by decide) (by decide) (by decide)]
      rfl
  exact removed.trans (replied _)

theorem eraseEntries_clears (l : List OutEntry) (s : State) (h : ∀ e ∈ l, (s.slot e.slot).previous = none) :
    ClearsEntries l.length s (l.foldl State.eraseEntry s) := by
  induction l generalizing s with
  | nil => exact .refl s
  | cons e l ih =>
    have first := s.eraseEntry_clears e (h e List.mem_cons_self)
    have slots : ∀ k, (s.eraseEntry e).slot k = s.slot k := fun k => by rw [first.frame]; rfl
    rw [List.foldl_cons, List.length_cons, Nat.add_comm]
    exact first.trans (ih _ fun x hx => by rw [slots]; exact h x (List.mem_cons_of_mem _ hx))

/-- The reply to an entry that has gone with its slot's records. -/
def OutEntry.timedOutReply (e : OutEntry) : ReturnPath × Bytes :=
  (e.path, localReplyPayload LocalReply.timedOut.kind e.number e.reference LocalReply.timedOut.reason)

/-- While no context waits for a place, an entry is taken off, answered and counted, and that is all. -/
theorem State.eraseEntry_alone (s : State) (e : OutEntry) (h : (s.slot e.slot).previous = none) (alone : s.placeWait = []) :
    s.eraseEntry e = { s with
        outstanding := withoutPair s.outstanding e, tills := (s.eraseEntry e).tills, events := (s.eraseEntry e).events
        lane := (s.eraseEntry e).lane, ipId := (s.eraseEntry e).ipId }
      ∧ Emits [e.timedOutReply] s (s.eraseEntry e) := by
  obtain ⟨x, hx⟩ : ∃ x : State, x = { s with outstanding := withoutPair s.outstanding e } := ⟨_, rfl⟩
  have erased : s.eraseEntry e = (x.localReply e.till e.number e.reference e.path .timedOut).raise .entryErased
      (till := some e.till) (slot := some e.slot) := by
    rw [State.eraseEntry, s.removeEntry_of_none e h, hx]
    exact congrArg (fun t : State => (t.localReply e.till e.number e.reference e.path .timedOut).raise .entryErased
      (till := some e.till) (slot := some e.slot)) (State.servePlaces_none _ (.inl alone))
  have emits : Emits [e.timedOutReply] x (x.localReply e.till e.number e.reference e.path .timedOut) :=
    x.localReply_emits e.till e.number e.reference e.path .timedOut
  rw [erased]
  refine ⟨?_, ?_⟩
  · rw [(x.localReply_repliesOnly e.till e.number e.reference e.path .timedOut).eq, hx]
    rfl
  · rw [hx] at emits ⊢
    exact emits

theorem eraseEntries_alone (l : List OutEntry) (s : State) (h : ∀ e ∈ l, (s.slot e.slot).previous = none) (alone : s.placeWait = []) :
    let t := l.foldl State.eraseEntry s
    t = { s with outstanding := l.foldl withoutPair s.outstanding, tills := t.tills, events := t.events, lane := t.lane, ipId := t.ipId }
      ∧ Emits (l.map OutEntry.timedOutReply) s t := by
  induction l generalizing s with
  | nil => exact ⟨rfl, .of_same rfl rfl⟩
  | cons e l ih =>
    obtain ⟨frame, emits⟩ := s.eraseEntry_alone e (h e List.mem_cons_self) alone
    obtain ⟨x, hx⟩ : ∃ x, x = s.eraseEntry e := ⟨_, rfl⟩
    rw [← hx] at frame emits
    have slots : ∀ k, x.slot k = s.slot k := fun k => by rw [frame]; rfl
    obtain ⟨frame', emits'⟩ := ih x (fun y hy => by rw [slots]; exact h y (List.mem_cons_of_mem _ hy)) (by rw [frame]; exact alone)
    intro t
    have ht : t = l.foldl State.eraseEntry x := by rw [hx]; rfl
    rw [ht]
    refine ⟨?_, emits.trans emits'⟩
    rw [frame', frame]
    rfl

/-- Every entry of a list is taken off it. -/
theorem foldl_withoutPair_self (l : List OutEntry) : l.foldl withoutPair l = [] := by
  induction l with
  | nil => rfl
  | cons e l ih =>
    have head : withoutPair (e :: l) e = l := List.eraseP_cons_of_pos (by simp)
    rw [List.foldl_cons, head, ih]

/-- Entries of pairs that no two entries share are taken off, and no others. -/
theorem foldl_withoutPair (es l : List OutEntry) (mem : ∀ e ∈ es, e ∈ l) (once : es.Nodup)
    (pairs : (l.map (fun x => (x.till, x.reference))).Nodup) : es.foldl withoutPair l = l.filter (fun x => decide (x ∉ es)) := by
  induction es generalizing l with
  | nil => simp
  | cons e es ih =>
    obtain ⟨he, hes⟩ := List.nodup_cons.1 once
    have first : withoutPair l e = l.filter (fun x => decide (x ≠ e)) := by
      rw [withoutPair, eraseP_pair l e (mem e List.mem_cons_self) pairs, List.Nodup.erase_eq_filter (List.Nodup.of_map _ pairs)]
      exact List.filter_congr fun x _ => Bool.eq_iff_iff.2 (by simp)
    have still : ∀ x ∈ es, x ∈ l.filter (fun x => decide (x ≠ e)) := fun x hx =>
      List.mem_filter.2 ⟨mem x (List.mem_cons_of_mem _ hx), decide_eq_true (ne_of_mem_of_not_mem hx he)⟩
    rw [List.foldl_cons, first, ih _ still hes (pairs.sublist (List.filter_sublist.map _)), List.filter_filter]
    exact List.filter_congr fun x _ => Bool.eq_iff_iff.2 (by simp [and_comm])

/-- The entries of a slot are taken off, and no others. -/
theorem foldl_withoutPair_slot (l : List OutEntry) (k : SlotIx) (pairs : (l.map (fun x => (x.till, x.reference))).Nodup) :
    (l.filter (fun e => e.slot == k)).foldl withoutPair l = l.filter (fun e => e.slot != k) := by
  rw [foldl_withoutPair _ l (fun e he => (List.mem_filter.1 he).1) ((List.Nodup.of_map _ pairs).filter _) pairs]
  exact List.filter_congr fun x hx => Bool.eq_iff_iff.2 (by simp [hx])

end Sys2Proof.Machine
end

section
/-! PROOFS. ACTIVATE-KEY and ERASE-KEY carried out (R74, R75, R78, R79, R132, R134). -/

namespace Sys2Proof.Machine

/-! ### The command's job once its effect has begun (R178) -/

/-- The waiting command has had its effect: of its job, only its answer and its waits have changed, and no job has come or gone. -/
structure State.CarriedOut (u v : State) (before : List Job) (j y : Job) (h : Hold) (r : Results) : Prop where
  length : v.mgmt.jobs.length = u.mgmt.jobs.length
  at_ : v.mgmt.jobs[before.length]? = some y
  same : y = { j with status := .ok, results := r, role := .waiting h none, s1 := y.s1, s2 := y.s2, s3 := y.s3, format := y.format }

/-- The jobs are those of the command carried out, each changed at most in what it waits for. -/
theorem State.Awaits.carriedOut {u v : State} {before after : List Job} {j : Job} {h : Hold} {limit : Nat}
    (a : u.Awaits before after j h limit) (r : Results) (f g : Job → Job) (jobs : v.mgmt.jobs = (before ++ f (j.carried h .ok r) :: after).map g)
    (hf : ∀ x : Job, f x = { x with s1 := (f x).s1, s2 := (f x).s2, s3 := (f x).s3, format := (f x).format })
    (hg : ∀ x : Job, g x = { x with s1 := (g x).s1, s2 := (g x).s2, s3 := (g x).s3, format := (g x).format }) :
    u.CarriedOut v before j (g (f (j.carried h .ok r))) h r := by
  refine ⟨?_, ?_, ?_⟩
  · rw [jobs, a.jobs]
    simp
  · rw [jobs, List.getElem?_map, List.getElem?_append_right (Nat.le_refl _), Nat.sub_self]
    rfl
  · rw [hg, hf]
    rfl

/-- A command that came last is last. -/
theorem State.CarriedOut.getLast? {u v : State} {before : List Job} {j y : Job} {h : Hold} {r : Results}
    (c : u.CarriedOut v before j y h r) (last : u.mgmt.jobs.length = before.length + 1) : v.mgmt.jobs.getLast? = some y := by
  rw [List.getLast?_eq_getElem?, c.length, last]
  exact c.at_

/-! ### ACTIVATE-KEY's effect (R75) -/

section

variable {u : State} {before after : List Job} {j : Job} {h : Hold} {limit : Nat} (a : u.Awaits before after j h limit)
include a

/-- The slot is busy, its activation waits for sector 2 or is being written, and the command with it. -/
theorem State.Awaits.activates (k : SlotIx) (v : State) (hv : v = (u.activating k).request2 [.activate k]) :
    ∃ y, u.CarriedOut v before j y h (.activation k) ∧ v.slot k = { u.slot k with busy := true } ∧ (∀ l, l ≠ k → v.slot l = u.slot l)
      ∧ v.keys.fp = u.keys.fp ∧ v.keys.fpFloor = u.keys.fpFloor
      ∧ (u.writer2.inFlight.isSome = true → y.s2 = .queued
          ∧ v.writer2 = { u.writer2 with waiting := u.writer2.waiting ++ [.activate k], wanted := true })
      ∧ (u.free2 → y.s2 = .inFlight ∧ ∃ w, v.writer2.inFlight = some w ∧ w.additions = [.activate k])
      ∧ v = { u with keys := v.keys, writer2 := v.writer2, mgmt := v.mgmt } := by
  obtain ⟨x, hx⟩ : ∃ x, x = u.activating k := ⟨_, rfl⟩
  have settled : u.settleWaiting .ok (.activation k) Job.queued2 =
      u.withJobs (before ++ (j.carried h .ok (.activation k)).queued2 :: after) := a.settleWaiting ..
  have frame : x = { u with keys := x.keys, mgmt := x.mgmt } := by rw [hx, State.activating, settled]; rfl
  have jobs : x.mgmt.jobs = before ++ (j.carried h .ok (.activation k)).queued2 :: after := by rw [hx, State.activating, settled]; rfl
  have slot : ∀ l, x.slot l = if l = k then { u.slot k with busy := true } else u.slot l := fun l => by
    rw [hx, State.activating, State.slot_setSlot, settled]
    rfl
  have fp : x.keys.fp = u.keys.fp ∧ x.keys.fpFloor = u.keys.fpFloor := by rw [hx, State.activating, settled]; exact ⟨rfl, rfl⟩
  have writer : x.writer2 = u.writer2 := by rw [frame]
  have requested := x.request2_frame [.activate k]
  obtain ⟨g, mgmt, only2, busy, free⟩ := x.request2_jobs [.activate k]
  have slots : ∀ l, (x.request2 [.activate k]).slot l = x.slot l := fun l => by rw [requested]; rfl
  rw [hv, ← hx]
  refine ⟨_, a.carriedOut _ Job.queued2 g (by rw [mgmt, jobs]) (fun _ => rfl) (fun x => by rw [only2 x]), by rw [slots, slot, if_pos rfl],
    fun l hl => by rw [slots, slot, if_neg hl], ?_, ?_, fun some => ⟨?_, ?_⟩, fun open_ => ⟨?_, ?_⟩, ?_⟩
  · rw [requested]; exact fp.1
  · rw [requested]; exact fp.2
  · rw [busy (by rw [writer]; exact some)]
    rfl
  · rw [x.request2_busy _ (by rw [writer]; exact some), State.asking2, writer]
  · exact free (by rw [State.free2, frame]; exact open_) _ rfl
  · have carried : (x.asking2 [.activate k]).writer2.waiting = [.activate k] := by
      rw [State.asking2, writer, open_.2.1]
      rfl
    rw [x.request2_free _ (by rw [State.free2, frame]; exact open_)]
    exact ⟨_, rfl, carried⟩
  · rw [requested, frame]

end

/-! ### ERASE-KEY's effect (R78, R79, R132) -/

theorem State.boundTills_congr {s t : State} (h : ∀ i, (t.till i).binding = (s.till i).binding) (k : SlotIx) : t.boundTills k = s.boundTills k := by
  unfold State.boundTills
  simp only [h]

theorem nodup_allTills : allTills.Nodup := by
  refine List.Nodup.map_on (fun x hx y hy e => ?_) List.nodup_range
  have same := congrArg Fin.val e
  rwa [Fin.val_ofNat, Fin.val_ofNat, Nat.mod_eq_of_lt (List.mem_range.1 hx), Nat.mod_eq_of_lt (List.mem_range.1 hy)] at same

theorem State.nodup_boundTills (s : State) (k : SlotIx) : (s.boundTills k).Nodup := nodup_allTills.filter _

/-- The state once a slot's records are discarded, before its entries and its tills' messages go (R78). -/
def State.slotDiscarded (s : State) (k : SlotIx) : State :=
  (s.setSlot k { emptySlot with floor := (s.slot k).floor }).raise .keyErased (slot := some k)

/-- The state once a slot's entries have gone with its records (R132). -/
def State.entriesErased (s : State) (k : SlotIx) : State :=
  (s.outstanding.filter (fun e => e.slot == k)).foldl State.eraseEntry (s.slotDiscarded k)

/-- The state once everything of a slot is gone, before sector 2 is written (R79). -/
def State.slotErased (s : State) (k : SlotIx) : State :=
  ((s.entriesErased k).boundTills k).foldl (fun s i => s.refuseQueue i (.refused .noKey)) (s.entriesErased k)

/-- The replies of an erasure: to the slot's entries, in creation order, and then to its tills' messages, in order of till index. -/
def State.erasureReplies (s : State) (k : SlotIx) : List (ReturnPath × Bytes) :=
  (s.outstanding.filter (fun e => e.slot == k)).map OutEntry.timedOutReply
    ++ (s.boundTills k).flatMap fun i => refusals (s.till i).queue .noKey

section

variable (s : State) (k : SlotIx)

theorem State.slot_slotDiscarded (l : SlotIx) :
    (s.slotDiscarded k).slot l = if l = k then { emptySlot with floor := (s.slot k).floor } else s.slot l := s.slot_setSlot k l _

theorem State.previous_slotDiscarded : ∀ e ∈ s.outstanding.filter (fun e => e.slot == k), ((s.slotDiscarded k).slot e.slot).previous = none := by
  intro e he
  have slot : e.slot = k := by simpa using (List.mem_filter.1 he).2
  rw [slot, s.slot_slotDiscarded, if_pos rfl]
  rfl

theorem State.entriesErased_clears :
    ClearsEntries (s.outstanding.filter (fun e => e.slot == k)).length (s.slotDiscarded k) (s.entriesErased k) :=
  eraseEntries_clears _ _ (s.previous_slotDiscarded k)

theorem State.boundTills_entriesErased : (s.entriesErased k).boundTills k = s.boundTills k :=
  State.boundTills_congr (fun i => ((s.entriesErased_clears k).tills i).2) k

theorem State.slotErased_eq :
    s.slotErased k = (s.boundTills k).foldl (fun s i => s.refuseQueue i (.refused .noKey)) (s.entriesErased k) := by
  rw [State.slotErased, s.boundTills_entriesErased]

theorem State.slotErased_frame : s.slotErased k = { s with
    keys := (s.slotDiscarded k).keys, ctxs := (s.slotErased k).ctxs, tills := (s.slotErased k).tills
    outstanding := (s.slotErased k).outstanding, uplink := (s.slotErased k).uplink, waitOrder := (s.slotErased k).waitOrder
    placeWait := (s.slotErased k).placeWait, events := (s.slotErased k).events, lane := (s.slotErased k).lane
    ipId := (s.slotErased k).ipId } := by
  have refused := (refuseQueues_repliesOnly (s.boundTills k) (.refused .noKey) (s.entriesErased k)).eq
  rw [← s.slotErased_eq] at refused
  rw [refused, (s.entriesErased_clears k).frame]
  rfl

/-- What an erasure makes of the Key Table: the slot is EMPTY and keeps its floor (R78). -/
theorem State.slotErased_keys : (s.slotErased k).slot k = { emptySlot with floor := (s.slot k).floor }
    ∧ (∀ l, l ≠ k → (s.slotErased k).slot l = s.slot l)
    ∧ (s.slotErased k).keys.fp = s.keys.fp ∧ (s.slotErased k).keys.fpFloor = s.keys.fpFloor := by
  have keys : (s.slotErased k).keys = (s.slotDiscarded k).keys := by rw [s.slotErased_frame]
  have slot : ∀ l, (s.slotErased k).slot l = (s.slotDiscarded k).slot l := fun l => by rw [State.slot, keys]; rfl
  refine ⟨by rw [slot, s.slot_slotDiscarded, if_pos rfl], fun l hl => by rw [slot, s.slot_slotDiscarded, if_neg hl], ?_, ?_⟩
  · rw [keys]; rfl
  · rw [keys]; rfl

/-- The tills of the slot have nothing pending. -/
theorem State.slotErased_queue (i : TillIx) (b : Binding) (hb : (s.till i).binding = some b) (hk : b.slot = k) :
    ((s.slotErased k).till i).queue = [] := by
  rw [s.slotErased_eq]
  exact queue_refuseQueues _ _ _ i (.inl ((s.mem_boundTills k i).2 ⟨b, hb, hk⟩))

/-- What an erasure counts (R79, R132, R134). -/
theorem State.slotErased_counts :
    (s.slotErased k).count .keyErased = min (s.count .keyErased + 1) 65535
      ∧ (s.count .entryErased ≤ 65535 → (s.slotErased k).count .entryErased =
          min (s.count .entryErased + (s.outstanding.filter (fun e => e.slot == k)).length) 65535)
      ∧ (s.count .localTimedOut ≤ 65535 → (s.slotErased k).count .localTimedOut =
          min (s.count .localTimedOut + (s.outstanding.filter (fun e => e.slot == k)).length) 65535)
      ∧ (s.count .localRefused ≤ 65535 → (s.slotErased k).count .localRefused =
          min (s.count .localRefused + ((s.boundTills k).flatMap fun i => (s.till i).queue).length) 65535) := by
  have clears := s.entriesErased_clears k
  have discarded : ∀ e, e ≠ .keyErased → (s.slotDiscarded k).count e = s.count e := fun e he => State.count_raise_ne _ _ _ _ he
  have refused : ∀ e, e ≠ .localRefused → e ≠ .laneOverflow → e ≠ .linkDiscard → (s.slotErased k).count e = (s.entriesErased k).count e :=
    fun e h h1 h2 => by
      rw [s.slotErased_eq]
      exact count_refuseQueues _ .noKey _ h h1 h2
  have queues : (s.boundTills k).flatMap (fun i => ((s.entriesErased k).till i).queue) = (s.boundTills k).flatMap fun i => (s.till i).queue :=
    List.flatMap_congr fun i _ => (clears.tills i).1
  refine ⟨?_, fun h => ?_, fun h => ?_, fun h => ?_⟩
  · rw [refused _ (by decide) (by decide) (by decide), clears.counts _ (by decide) (by decide) (by decide) (by decide)]
    exact State.count_raise_self ..
  · rw [refused _ (by decide) (by decide) (by decide), clears.erased (by rw [discarded _ (by decide)]; exact h), discarded _ (by decide)]
  · rw [refused _ (by decide) (by decide) (by decide), clears.timedOut (by rw [discarded _ (by decide)]; exact h), discarded _ (by decide)]
  · have still : (s.entriesErased k).count .localRefused = s.count .localRefused :=
      (clears.counts _ (by decide) (by decide) (by decide) (by decide)).trans (discarded _ (by decide))
    rw [s.slotErased_eq, refuseQueues_counted _ (s.nodup_boundTills k) _ _ (by rw [still]; exact h), still, queues]

/-- While no context waits for a place, the slot's entries leave and no context moves on; the replies stand in the Lane port's queue. -/
theorem State.slotErased_alone (alone : s.placeWait = []) :
    s.slotErased k = { s with
        keys := (s.slotDiscarded k).keys, tills := (s.slotErased k).tills, outstanding := (s.slotErased k).outstanding
        events := (s.slotErased k).events, lane := (s.slotErased k).lane, ipId := (s.slotErased k).ipId }
      ∧ ((s.outstanding.map (fun e => (e.till, e.reference))).Nodup →
          (s.slotErased k).outstanding = s.outstanding.filter (fun e => e.slot != k))
      ∧ Emits (s.erasureReplies k) s (s.slotErased k) := by
  obtain ⟨frame, emits⟩ := eraseEntries_alone _ (s.slotDiscarded k) (s.previous_slotDiscarded k) alone
  change s.entriesErased k = _ at frame
  have refused := (refuseQueues_repliesOnly (s.boundTills k) (.refused .noKey) (s.entriesErased k)).eq
  have replies := refuseQueues_emits (s.boundTills k) (s.nodup_boundTills k) .noKey (s.entriesErased k)
  have queues : (s.boundTills k).flatMap (fun i => refusals ((s.entriesErased k).till i).queue .noKey) =
      (s.boundTills k).flatMap fun i => refusals (s.till i).queue .noKey :=
    List.flatMap_congr fun i _ => by rw [((s.entriesErased_clears k).tills i).1]; rfl
  rw [queues] at replies
  rw [← s.slotErased_eq] at refused
  refine ⟨?_, fun pairs => ?_, ?_⟩
  · rw [refused, frame]
    rfl
  · rw [refused, frame]
    exact foldl_withoutPair_slot _ k pairs
  · rw [s.slotErased_eq]
    exact Emits.trans (t := s.entriesErased k) emits replies

end

theorem State.carryErase_busy (s : State) (k : SlotIx) (h : (s.slot k).busy = true) :
    s.carryErase k = s.settleWaiting .busy (.bytes []) id := if_pos h

theorem State.carryErase_nothing (s : State) (k : SlotIx) (busy : (s.slot k).busy = false) (empty : (s.slot k).state = .empty)
    (staged : (s.slot k).staged = none) : s.carryErase k = s.settleWaiting .ok (.erasure k) id := by
  simp [State.carryErase, busy, empty, staged]

theorem State.carryErase_goes (s : State) (k : SlotIx) (busy : (s.slot k).busy = false)
    (h : (s.slot k).state ≠ .empty ∨ (s.slot k).staged.isSome = true) :
    s.carryErase k = ((s.settleWaiting .ok (.erasure k) Job.queued2).slotErased k).request2 [] := by
  have needed : ¬ ((s.slot k).state = .empty ∧ (s.slot k).staged.isNone = true) := fun ⟨empty, none_⟩ =>
    h.elim (fun h => h empty) fun h => by rw [Option.isNone_iff_eq_none.1 none_] at h; cases h
  unfold State.carryErase
  rw [if_neg (by rw [busy]; exact Bool.false_ne_true), if_neg needed]
  rfl

/-- What the erased slot's record in sector 2 will be (R68, R78). -/
theorem State.sector2_emptied (s : State) (k : SlotIx) (floor : Nat) (h : s.slot k = { emptySlot with floor := floor }) :
    (s.sector2 []).slots[k] = { current := none, staged := none, state := .empty, floor := floor } := by
  rw [(s.sector2_slot [] k).1 List.not_mem_nil, h]
  rfl

section

variable {u : State} {before after : List Job} {j : Job} {h : Hold} {limit : Nat} (a : u.Awaits before after j h limit)
include a

/-- The slot's records and what needs them are gone, sector 2 is written or waits to be, and the command with it. -/
theorem State.Awaits.erases (k : SlotIx) (v : State)
    (hv : v = ((u.settleWaiting .ok (.erasure k) Job.queued2).slotErased k).request2 []) :
    ∃ (jobs : List Job) (y : Job), u.CarriedOut v before j y h (.erasure k)
      ∧ v = { (u.withJobs jobs).slotErased k with writer2 := v.writer2, mgmt := v.mgmt }
      ∧ (u.writer2.inFlight.isSome = true → y.s2 = .queued ∧ v.writer2.inFlight = u.writer2.inFlight ∧ v.writer2.wanted = true)
      ∧ (u.free2 → y.s2 = .inFlight ∧ ∃ w c, v.writer2.inFlight = some w ∧ w.contents = some c ∧ w.additions = []
          ∧ c.slots[k] = { current := none, staged := none, state := .empty, floor := (u.slot k).floor }) := by
  obtain ⟨jobs, hjobs⟩ : ∃ jobs, jobs = before ++ (j.carried h .ok (.erasure k)).queued2 :: after := ⟨_, rfl⟩
  obtain ⟨x, hx⟩ : ∃ x, x = (u.withJobs jobs).slotErased k := ⟨_, rfl⟩
  have frame := (u.withJobs jobs).slotErased_frame k
  rw [← hx] at frame
  have requested : v = x.request2 [] := by rw [hv, a.settleWaiting, hx, hjobs]
  have writer : x.writer2 = u.writer2 := by rw [frame]; rfl
  have erasing : x.erasing = u.erasing := by rw [frame]; rfl
  have slot : x.slot k = { emptySlot with floor := (u.slot k).floor } := by
    rw [hx]
    exact ((u.withJobs jobs).slotErased_keys k).1
  have mgmt : x.mgmt.jobs = before ++ (j.carried h .ok (.erasure k)).queued2 :: after := by rw [frame]; exact hjobs
  obtain ⟨g, mapped, only2, busy, free⟩ := x.request2_jobs []
  have freed : u.free2 → x.free2 := fun open_ => by rw [State.free2, writer, erasing]; exact open_
  refine ⟨jobs, _, a.carriedOut _ Job.queued2 g (by rw [requested, mapped, mgmt]) (fun _ => rfl) (fun x => by rw [only2 x]), ?_,
    fun some => ⟨?_, ?_⟩, fun open_ => ⟨free (freed open_) _ rfl, ?_⟩⟩
  · rw [requested, ← hx, x.request2_frame]
  · rw [busy (by rw [writer]; exact some)]
    rfl
  · rw [requested, x.request2_busy _ (by rw [writer]; exact some), State.asking2, writer]
    exact ⟨rfl, rfl⟩
  · have carried : (x.asking2 []).writer2.waiting = [] := by
      rw [State.asking2, writer, open_.2.1]
      rfl
    rw [requested, x.request2_free _ (freed open_)]
    exact ⟨_, _, rfl, rfl, carried, x.sector2_emptied k _ slot⟩

end

end Sys2Proof.Machine
end

section
/-! PROOFS. DECOMMISSION carried out (R184, R185): the Outstanding List, the Till Table, the counters, the settings and the drain, and the erases
and the format asked for. -/

namespace Sys2Proof.Machine

/-! ### The Key Table and the Outstanding List -/

/-- The state once the keys are blank and every Outstanding entry has been answered. -/
def State.listCleared (s : State) : State := s.outstanding.foldl State.eraseEntry { s with keys := blankKeys }

section

variable (s : State)

theorem State.previous_blank (e : OutEntry) : (State.slot { s with keys := blankKeys } e.slot).previous = none := by
  simp [State.slot, blankKeys, emptySlot]

theorem State.listCleared_clears : ClearsEntries s.outstanding.length { s with keys := blankKeys } s.listCleared :=
  eraseEntries_clears _ _ fun e _ => s.previous_blank e

theorem State.listCleared_frame (alone : s.placeWait = []) : s.listCleared = { s with
    keys := blankKeys, outstanding := [], tills := s.listCleared.tills, events := s.listCleared.events
    lane := s.listCleared.lane, ipId := s.listCleared.ipId } := by
  obtain ⟨frame, -⟩ := eraseEntries_alone s.outstanding { s with keys := blankKeys } (fun e _ => s.previous_blank e) alone
  rw [foldl_withoutPair_self] at frame
  exact frame

end

/-! ### The Till Table -/

/-- A till that is not VACANT is emptied. -/
def State.vacated (s : State) (i : TillIx) : State := if (s.till i).binding.isSome then s.emptyTill i else s

/-- While every context is IDLE, an entry that is emptied has no wrap in flight, and its Pending Queue is refused. -/
theorem State.emptyTill_idle (s : State) (i : TillIx) (idle : ∀ c, (s.ctx c).phase = .idle) :
    s.emptyTill i = (s.rebound i none none).refuseQueue i (.refused .tillDisabled) := by
  have settled : (s.rebound i none none).openWrap i = none := by
    rw [State.openWrap_eq, List.findSome?_eq_none_iff]
    intro c _
    have phase : ((s.rebound i none none).ctx c).phase = .idle := idle c
    unfold State.openWrapIn
    cases ((s.rebound i none none).ctx c).wrap with
    | none => rfl
    | some w => exact if_neg (by rw [phase]; exact fun h => Bool.false_ne_true h.2)
  rw [s.emptyTill_rebound, State.dropMessages, State.loseReservation_settled _ i settled]

/-- These tills have been emptied: those of them that were bound are VACANT, with nothing assembled or pending, the others as they were, and
the messages refused are counted. -/
structure EmptiesTills (l : List TillIx) (s t : State) : Prop where
  only : RepliesOnly s t
  emptied : ∀ i ∈ l, (s.till i).binding.isSome = true → (t.till i).binding = none ∧ (t.till i).queue = [] ∧ (t.till i).record = none
  others : ∀ i, i ∉ l ∨ (s.till i).binding = none → t.till i = s.till i
  refused : s.count .localRefused ≤ 65535 → t.count .localRefused =
    min (s.count .localRefused + ((l.filter (fun i => (s.till i).binding.isSome)).flatMap fun i => (s.till i).queue).length) 65535
  counts : ∀ e, e ≠ .localRefused → e ≠ .laneOverflow → e ≠ .linkDiscard → t.count e = s.count e

theorem State.vacated_empties (s : State) (i : TillIx) (idle : ∀ c, (s.ctx c).phase = .idle) : EmptiesTills [i] s (s.vacated i) := by
  by_cases bound : (s.till i).binding.isSome = true
  · have eq : s.vacated i = (s.rebound i none none).refuseQueue i (.refused .tillDisabled) := (if_pos bound).trans (s.emptyTill_idle i idle)
    obtain ⟨only, -, others, ⟨queue, refused, till⟩, counted, -⟩ := RefusesMessages.refuseQueue (s.rebound i none none) i .tillDisabled
    have empty : (((s.rebound i none none).refuseQueue i (.refused .tillDisabled)).till i).queue = [] := State.queue_refuseQueue _ i i _ (.inl rfl)
    rw [s.till_rebound] at till counted
    rw [eq]
    refine ⟨RepliesOnly.trans (s.setTill_repliesOnly i _) only, fun k hk _ => ?_, fun k hk => ?_, fun h => ?_, fun e h h1 h2 => ?_⟩
    · obtain rfl := List.mem_singleton.1 hk
      exact ⟨by rw [till], empty, by rw [till]⟩
    · have ne : k ≠ i := fun e => by
        subst e
        rcases hk with hk | hk
        · exact hk (List.mem_singleton_self k)
        · rw [hk] at bound
          cases bound
      rw [others k ne, s.till_rebound_ne i none none k ne]
    · have one : [i].filter (fun i => (s.till i).binding.isSome) = [i] := List.filter_cons_of_pos bound
      rw [one, List.flatMap_singleton]
      exact counted h
    · exact State.count_refuseQueue _ i .tillDisabled h h1 h2
  · have eq : s.vacated i = s := if_neg bound
    rw [eq]
    refine ⟨.refl s, fun k hk some => ?_, fun _ _ => rfl, fun h => ?_, fun _ _ _ _ => rfl⟩
    · obtain rfl := List.mem_singleton.1 hk
      exact absurd some bound
    · have none_ : [i].filter (fun i => (s.till i).binding.isSome) = [] := List.filter_cons_of_neg bound
      rw [none_]
      exact (Nat.min_eq_left h).symm

theorem vacated_all (l : List TillIx) (once : l.Nodup) (s : State) (idle : ∀ c, (s.ctx c).phase = .idle) :
    EmptiesTills l s (l.foldl State.vacated s) := by
  induction l generalizing s with
  | nil => exact ⟨.refl s, nofun, fun _ _ => rfl, fun h => (Nat.min_eq_left h).symm, fun _ _ _ _ => rfl⟩
  | cons i l ih =>
    obtain ⟨hi, hl⟩ := List.nodup_cons.1 once
    have first := s.vacated_empties i idle
    have same : ∀ k ∈ l, (s.vacated i).till k = s.till k := fun k hk =>
      first.others k (.inl (mt List.mem_singleton.1 (ne_of_mem_of_not_mem hk hi)))
    have rest := ih hl (s.vacated i) fun c => by
      obtain ⟨_, _, _, _, frame⟩ := first.only
      rw [frame]
      exact idle c
    rw [List.foldl_cons]
    refine ⟨first.only.trans rest.only, fun k hk bound => ?_, fun k hk => ?_, fun h => ?_, fun e h h1 h2 => ?_⟩
    · rcases List.mem_cons.1 hk with rfl | hk
      · rw [rest.others k (.inl hi)]
        exact first.emptied k (List.mem_singleton_self k) bound
      · exact rest.emptied k hk (by rw [same k hk]; exact bound)
    · have still : (s.vacated i).till k = s.till k :=
        first.others k (hk.imp_left fun h => fun e => h (List.mem_singleton.1 e ▸ List.mem_cons_self))
      rw [rest.others k (hk.imp (fun h e => h (List.mem_cons_of_mem _ e)) fun h => by rw [still]; exact h), still]
    · have pass : l.filter (fun k => ((s.vacated i).till k).binding.isSome) = l.filter fun k => (s.till k).binding.isSome :=
        List.filter_congr fun k hk => by rw [same k hk]
      have queues : (l.filter fun k => (s.till k).binding.isSome).flatMap (fun k => ((s.vacated i).till k).queue) =
          (l.filter fun k => (s.till k).binding.isSome).flatMap fun k => (s.till k).queue :=
        List.flatMap_congr fun k hk => by rw [same k (List.mem_filter.1 hk).1]
      have one := first.refused h
      have split : (i :: l).filter (fun k => (s.till k).binding.isSome) =
          [i].filter (fun k => (s.till k).binding.isSome) ++ l.filter fun k => (s.till k).binding.isSome := List.filter_append (l₁ := [i]) ..
      rw [rest.refused (by rw [one]; exact Nat.min_le_right _ _), pass, queues, one, split, List.flatMap_append, List.length_append]
      omega
    · rw [rest.counts e h h1 h2, first.counts e h h1 h2]

theorem State.tillsEmptied_empties (s : State) (idle : ∀ c, (s.ctx c).phase = .idle) : EmptiesTills allTills s s.tillsEmptied :=
  vacated_all allTills nodup_allTills s idle

/-! ### What DECOMMISSION makes of the volatile state (R184) -/

/-- The state once DECOMMISSION has changed the volatile state, before it asks for the erases. -/
def State.blanked (s : State) : State :=
  (State.leaveRunning { s.listCleared.tillsEmptied.countersPassed.kick3 with settings := blankSettings }).beginFormat.raise .decommissioned

theorem State.decommission_eq (s : State) : s.decommission = s.blanked.erasesAsked.kick1.kick2 := by
  unfold State.decommission
  extract_lets keys entries tills passed counters left format event _ _ asked
  have toEntries : entries = s.listCleared := rfl
  have toTills : tills = entries.tillsEmptied := rfl
  have toCounters : counters = tills.countersPassed.kick3 := rfl
  have toEvent : event = (State.leaveRunning { counters with settings := blankSettings }).beginFormat.raise .decommissioned := rfl
  have blanked : event = s.blanked := by rw [toEvent, toCounters, toTills, toEntries, State.blanked]
  change event.erasesAsked.kick1.kick2 = _
  rw [blanked]

/-- With the counters passed by, nothing is left that a sector 3 write could carry (R185, log 76). -/
theorem State.countersPassed_kick3 (s : State) : ∃ g : Job → Job, (∀ j, g j = { j with s3 := (g j).s3 })
    ∧ s.countersPassed.kick3 = { s.countersPassed with mgmt := { s.mgmt with jobs := s.mgmt.jobs.map g } } := by
  by_cases busy : s.countersPassed.counters.inFlight.isSome = true ∨ s.countersPassed.erasing = true
  · refine ⟨id, fun _ => rfl, ?_⟩
    rw [State.kick3_busy _ busy, List.map_id]
    rfl
  · rw [not_or, Option.not_isSome_iff_eq_none, Bool.not_eq_true] at busy
    refine ⟨Job.unqueued3, fun j => ?_, ?_⟩
    · unfold Job.unqueued3
      split <;> rfl
    · rw [State.kick3_free _ busy.1 busy.2]
      exact if_pos rfl

/-- The end of a pass depends on the records and the drain alone (R167, R168). -/
theorem State.leaveRunning_frame (s : State) :
    s.leaveRunning = { s with holding := s.leaveRunning.holding, drain := s.leaveRunning.drain, waitOrder := s.leaveRunning.waitOrder }
      ∧ s.leaveRunning.holding = { s.holding with lines :=
          if s.drain.state = .running then s.holding.lines.map (fun l => { l with draining := false, deadline := none })
          else s.holding.lines }
      ∧ s.leaveRunning.drain = (if s.drain.state = .running then { s.drain with state := .armed, cursor := 0, inHand := none } else s.drain)
      ∧ s.leaveRunning.waitOrder =
          (if s.drain.state = .running then s.waitOrder.filter (fun x => x.1 != .drain) else s.waitOrder) := by
  by_cases running : s.drain.state = .running
  · rw [s.leaveRunning_of_running running, if_pos running, if_pos running, if_pos running]
    exact ⟨rfl, rfl, rfl, rfl⟩
  · rw [s.leaveRunning_of_not_running running, if_neg running, if_neg running, if_neg running]
    exact ⟨rfl, rfl, rfl, rfl⟩

/-- A format begins at once where no operation of the store is queued (R162). -/
theorem State.beginFormat_eq (s : State) : s.beginFormat =
    { s with holding := { s.holding with format := if s.holding.ops = [] then .running else .waiting } } := by
  unfold State.beginFormat
  by_cases empty : s.holding.ops = []
  · have none_ : { s.holding with ops := [], format := .running } = { s.holding with format := .running } := by rw [← empty]
    rw [if_pos (List.isEmpty_iff.2 empty), if_pos empty, State.runFormat, none_, empty]
    rfl
  · rw [if_neg (mt List.isEmpty_iff.1 empty), if_neg empty]

theorem State.leaveRunning_congr {s t : State} (holding : t.holding = s.holding) (drain : t.drain = s.drain)
    (waitOrder : t.waitOrder = s.waitOrder) : t.leaveRunning =
      { t with holding := s.leaveRunning.holding, drain := s.leaveRunning.drain, waitOrder := s.leaveRunning.waitOrder } := by
  obtain ⟨frame, lines, state, order⟩ := t.leaveRunning_frame
  obtain ⟨-, lines', state', order'⟩ := s.leaveRunning_frame
  rw [holding, drain, ← lines'] at lines
  rw [drain, ← state'] at state
  rw [drain, waitOrder, ← order'] at order
  rw [frame, lines, state, order]

section

variable (s : State) (idle : ∀ c, (s.ctx c).phase = .idle) (alone : s.placeWait = [])
include idle alone

/-- The Outstanding List and the Till Table are empty, and all has been answered. -/
theorem State.repliesDone_empties : EmptiesTills allTills s.listCleared s.listCleared.tillsEmptied :=
  s.listCleared.tillsEmptied_empties fun c => by rw [s.listCleared_frame alone]; exact idle c

/-- What DECOMMISSION leaves: the jobs change at most in their wait for sector 3. -/
theorem State.blanked_eq : ∃ (b : State) (g : Job → Job), b = s.listCleared.tillsEmptied ∧ (∀ j, g j = { j with s3 := (g j).s3 })
    ∧ s.blanked = State.raise { s with
        keys := blankKeys, outstanding := [], tills := b.tills, counters := s.countersPassed.counters
        settings := blankSettings
        holding := { s.leaveRunning.holding with format := if s.holding.ops = [] then .running else .waiting }
        drain := s.leaveRunning.drain, waitOrder := s.leaveRunning.waitOrder, events := b.events
        lane := b.lane, ipId := b.ipId
        mgmt := { s.mgmt with jobs := s.mgmt.jobs.map g } } .decommissioned := by
  obtain ⟨b, hb⟩ : ∃ b, b = s.listCleared.tillsEmptied := ⟨_, rfl⟩
  have frame : b = { s with
      keys := blankKeys, outstanding := [], tills := b.tills, events := b.events, lane := b.lane, ipId := b.ipId } := by
    have only := (s.repliesDone_empties idle alone).only.eq
    rw [← hb] at only
    rw [only, s.listCleared_frame alone]
  obtain ⟨g, only3, passed⟩ := b.countersPassed_kick3
  have counters : b.countersPassed.counters = s.countersPassed.counters := by rw [frame]; rfl
  have ops : s.leaveRunning.holding.ops = s.holding.ops := by
    obtain ⟨-, lines, -⟩ := s.leaveRunning_frame
    rw [lines]
  obtain ⟨x, hx⟩ : ∃ x : State, x = { s with
      keys := blankKeys, outstanding := [], tills := b.tills, counters := s.countersPassed.counters, settings := blankSettings
      events := b.events, lane := b.lane, ipId := b.ipId, mgmt := { s.mgmt with jobs := s.mgmt.jobs.map g } } := ⟨_, rfl⟩
  have settings : ({ b.countersPassed.kick3 with settings := blankSettings } : State) = x := by
    rw [passed, State.countersPassed, hx, ← counters]
    rw [frame]
    rfl
  have left := State.leaveRunning_congr (s := s) (t := x) (by rw [hx]) (by rw [hx]) (by rw [hx])
  refine ⟨b, g, hb, only3, ?_⟩
  rw [State.blanked, ← hb, settings, left, State.beginFormat_eq, ops, hx]

/-- Every till is VACANT, and those that were not have nothing pending or assembled. -/
theorem State.blanked_tills : (∀ i, (s.blanked.till i).binding = none)
    ∧ ∀ i, (s.till i).binding.isSome = true → (s.blanked.till i).queue = [] ∧ (s.blanked.till i).record = none := by
  obtain ⟨b, g, hb, -, frame⟩ := s.blanked_eq idle alone
  have empties := s.repliesDone_empties idle alone
  rw [← hb] at empties
  have till : ∀ i, s.blanked.till i = b.till i := fun i => by rw [frame]; rfl
  have binding : ∀ i, (s.listCleared.till i).binding = (s.till i).binding := fun i => (s.listCleared_clears.tills i).2
  refine ⟨fun i => ?_, fun i bound => ?_⟩
  · rw [till]
    cases bound : (s.listCleared.till i).binding with
    | none => rw [empties.others i (.inr bound), bound]
    | some x => exact (empties.emptied i (mem_allTills i) (by rw [bound]; rfl)).1
  · rw [till]
    exact (empties.emptied i (mem_allTills i) (by rw [binding]; exact bound)).2

/-- What DECOMMISSION counts (R43, R132, R184). -/
theorem State.blanked_counts :
    s.blanked.count .decommissioned = min (s.count .decommissioned + 1) 65535
      ∧ (s.count .entryErased ≤ 65535 →
          s.blanked.count .entryErased = min (s.count .entryErased + s.outstanding.length) 65535)
      ∧ (s.count .localTimedOut ≤ 65535 →
          s.blanked.count .localTimedOut = min (s.count .localTimedOut + s.outstanding.length) 65535)
      ∧ (s.count .localRefused ≤ 65535 → s.blanked.count .localRefused =
          min (s.count .localRefused
            + ((allTills.filter (fun i => (s.till i).binding.isSome)).flatMap (fun i => (s.till i).queue)).length) 65535) := by
  obtain ⟨b, g, hb, -, frame⟩ := s.blanked_eq idle alone
  have empties := s.repliesDone_empties idle alone
  rw [← hb] at empties
  have clears := s.listCleared_clears
  have uncounted : ∀ e, e ≠ .decommissioned → s.blanked.count e = b.count e := fun e he => by
    rw [frame]
    exact State.count_raise_ne _ _ _ _ he
  have bound : allTills.filter (fun i => (s.listCleared.till i).binding.isSome) = allTills.filter fun i => (s.till i).binding.isSome :=
    List.filter_congr fun i _ => congrArg Option.isSome (clears.tills i).2
  have queues : ∀ l : List TillIx, l.flatMap (fun i => (s.listCleared.till i).queue) = l.flatMap fun i => (s.till i).queue :=
    fun l => List.flatMap_congr fun i _ => (clears.tills i).1
  refine ⟨?_, fun h => ?_, fun h => ?_, fun h => ?_⟩
  · have before : b.count .decommissioned = s.count .decommissioned :=
      (empties.counts _ (by decide) (by decide) (by decide)).trans
        (clears.counts _ (by decide) (by decide) (by decide) (by decide))
    rw [← before, frame]
    exact State.count_raise_self ..
  · rw [uncounted _ (by decide), empties.counts _ (by decide) (by decide) (by decide)]
    exact clears.erased h
  · rw [uncounted _ (by decide), empties.counts _ (by decide) (by decide) (by decide)]
    exact clears.timedOut h
  · have still : s.listCleared.count .localRefused = s.count .localRefused :=
      clears.counts _ (by decide) (by decide) (by decide) (by decide)
    rw [uncounted _ (by decide), empties.refused (by rw [still]; exact h), still, bound, queues]

end

/-! ### The erases that DECOMMISSION asks for (R185) -/

theorem Wait.begun_ne {w : Wait} (h : w ≠ .no) : w.begun ≠ .no := by
  cases w <;> simp_all [Wait.begun]

/-- A sector 1 write that begins changes no job but in its wait for it. -/
theorem State.kick1_jobs (s : State) : ∃ f : Job → Job, s.kick1.mgmt = { s.mgmt with jobs := s.mgmt.jobs.map f }
    ∧ (∀ j, f j = { j with s1 := (f j).s1 }) ∧ (∀ j, j.s1 ≠ .no → (f j).s1 ≠ .no)
    ∧ (s.writer1.inFlight.isSome = true ∨ s.erasing = true → ∀ j, f j = j) := by
  have kept : ({ s.mgmt with jobs := s.mgmt.jobs.map id } : MgmtUnit) = s.mgmt := by rw [List.map_id]
  by_cases busy : s.writer1.inFlight.isSome = true ∨ s.erasing = true
  · exact ⟨id, by rw [s.kick1_busy busy, kept], fun _ => rfl, fun _ => id, fun _ _ => rfl⟩
  · have free := busy
    rw [not_or, Option.not_isSome_iff_eq_none, Bool.not_eq_true] at free
    rw [s.kick1_free free.1 free.2]
    have begun : ∀ j : Job, j.s1 ≠ .no → j.begun1.s1 ≠ .no := fun j => Wait.begun_ne
    split
    · exact ⟨Job.begun1, rfl, fun _ => rfl, begun, fun h => absurd h busy⟩
    · split
      · exact ⟨Job.begun1, rfl, fun _ => rfl, begun, fun h => absurd h busy⟩
      · exact ⟨id, kept.symm, fun _ => rfl, fun _ => id, fun _ _ => rfl⟩

/-- A sector 2 write that begins changes no job but in its wait for it. -/
theorem State.kick2_jobs (s : State) : ∃ f : Job → Job, s.kick2.mgmt = { s.mgmt with jobs := s.mgmt.jobs.map f }
    ∧ (∀ j, f j = { j with s2 := (f j).s2 }) ∧ (∀ j, j.s2 ≠ .no → (f j).s2 ≠ .no) := by
  have kept : ({ s.mgmt with jobs := s.mgmt.jobs.map id } : MgmtUnit) = s.mgmt := by rw [List.map_id]
  by_cases busy : s.writer2.inFlight.isSome = true ∨ s.erasing = true
  · exact ⟨id, by rw [s.kick2_busy busy, kept], fun _ => rfl, fun _ => id⟩
  · rw [not_or, Option.not_isSome_iff_eq_none, Bool.not_eq_true] at busy
    rw [s.kick2_free busy.1 busy.2]
    have begun : ∀ j : Job, j.s2 ≠ .no → j.begun2.s2 ≠ .no := fun j => Wait.begun_ne
    split
    · exact ⟨Job.begun2, rfl, fun _ => rfl, begun⟩
    · split
      · exact ⟨Job.begun2, rfl, fun _ => rfl, begun⟩
      · exact ⟨id, kept.symm, fun _ => rfl, fun _ => id⟩

/-- What DECOMMISSION's command waits for: the two erases and the format. -/
def Job.erasing (j : Job) : Job := { j with s1 := .queued, s2 := .queued, format := true }

theorem State.carryDecommission_refused (s : State) (force : Nat) (records : s.holding.lines ≠ []) (h : force = 0) :
    s.carryDecommission force = s.settleWaiting .holdingNotEmpty (.bytes []) id :=
  if_pos ⟨by simpa [HoldingStore.anyRecord] using records, h⟩

theorem State.carryDecommission_goes (s : State) (force : Nat) (h : force ≠ 0 ∨ s.holding.lines = []) :
    s.carryDecommission force = (s.settleWaiting .ok
      (.bytes (be 2 (s.holding.lines.filter (·.held)).length ++ be 2 s.outstanding.length)) Job.erasing).decommission := by
  refine if_neg fun ⟨records, zero⟩ => ?_
  rcases h with h | h
  · exact h zero
  · rw [HoldingStore.anyRecord, h] at records
    cases records

section

variable {u : State} {before after : List Job} {j : Job} {h : Hold} {limit : Nat} (a : u.Awaits before after j h limit)
include a

/-- The part is decommissioned, the erases are in flight or wait, and the command with them. -/
theorem State.Awaits.decommissions (idle : ∀ c, (u.ctx c).phase = .idle) (alone : u.placeWait = []) (r : Results) (v : State)
    (hv : v = (u.settleWaiting .ok r Job.erasing).decommission) :
    ∃ (jobs : List Job) (y : Job), u.CarriedOut v before j y h r
      ∧ v = { (u.withJobs jobs).blanked with writer1 := v.writer1, writer2 := v.writer2, mgmt := v.mgmt }
      ∧ v.mgmt.last = u.mgmt.last ∧ y.s1 ≠ .no ∧ y.s2 ≠ .no ∧ y.format = true
      ∧ (u.writer1.inFlight.isSome = true ∨ u.erasing = true → y.s1 = .queued ∧ v.writer1 = { u.writer1 with eraseWanted := true })
      ∧ (u.writer2.inFlight = none → u.erasing = false →
          ∃ w, v.writer2.inFlight = some w ∧ w.contents = none ∧ w.thenErase3 = true) := by
  obtain ⟨jobs, hjobs⟩ : ∃ jobs, jobs = before ++ (j.carried h .ok r).erasing :: after := ⟨_, rfl⟩
  obtain ⟨x, hx⟩ : ∃ x, x = (u.withJobs jobs).blanked := ⟨_, rfl⟩
  obtain ⟨b, g, -, only3, frame⟩ := (u.withJobs jobs).blanked_eq idle alone
  rw [← hx] at frame
  have ends : v = x.erasesAsked.kick1.kick2 := by rw [hv, a.settleWaiting, ← hjobs, State.decommission_eq, hx]
  have mgmt : x.mgmt = { u.mgmt with jobs := jobs.map g } := by rw [frame]; rfl
  have writer1 : x.writer1 = u.writer1 := by rw [frame]; rfl
  have writer2 : x.writer2 = u.writer2 := by rw [frame]; rfl
  have erasing : x.erasing = u.erasing := by rw [frame]; rfl
  obtain ⟨f1, jobs1, only1, asked1, busy1⟩ := x.erasesAsked.kick1_jobs
  obtain ⟨f2, jobs2, only2, asked2⟩ := x.erasesAsked.kick1.kick2_jobs
  have frame1 := x.erasesAsked.kick1_frame
  have frame2 := x.erasesAsked.kick1.kick2_frame
  have last : v.mgmt = { u.mgmt with jobs := jobs.map (f2 ∘ f1 ∘ g) } := by
    rw [ends, jobs2, jobs1, State.erasesAsked, mgmt]
    simp only [List.map_map]
  have first : ∀ y : Job, (f2 y).s1 = y.s1 := fun y => by rw [only2 y]
  have second : ∀ y : Job, (f1 y).s2 = y.s2 := fun y => by rw [only1 y]
  have begun1 : ∀ y : Job, (g y).s1 = y.s1 := fun y => by rw [only3 y]
  have begun2 : ∀ y : Job, (g y).s2 = y.s2 := fun y => by rw [only3 y]
  refine ⟨jobs, _, a.carriedOut r Job.erasing (f2 ∘ f1 ∘ g) (by rw [last, hjobs]) (fun _ => rfl)
    (fun y => by rw [Function.comp, Function.comp, only2, only1, only3]), ?_, ?_, ?_, ?_, ?_, fun busy => ⟨?_, ?_⟩, fun free unerased => ?_⟩
  · rw [ends, frame2, frame1, ← hx]
    rfl
  · rw [last]
  · rw [Function.comp, first]
    exact asked1 _ (by rw [begun1]; exact nofun)
  · exact asked2 _ (by rw [Function.comp, second, begun2]; exact nofun)
  · rw [Function.comp, Function.comp, only2, only1, only3]
    rfl
  · have held : x.erasesAsked.writer1.inFlight.isSome = true ∨ x.erasesAsked.erasing = true := by
      rw [← writer1, ← erasing] at busy
      exact busy
    rw [Function.comp, first, Function.comp, busy1 held, begun1]
    rfl
  · have held : x.erasesAsked.writer1.inFlight.isSome = true ∨ x.erasesAsked.erasing = true := by
      rw [← writer1, ← erasing] at busy
      exact busy
    rw [ends, frame2, x.erasesAsked.kick1_busy held, State.erasesAsked, writer1]
  · have unheld : x.erasesAsked.kick1.writer2.inFlight = none := by
      rw [frame1, State.erasesAsked, writer2, free]
      rfl
    have still : x.erasesAsked.kick1.erasing = false := by
      rw [frame1, ← unerased, ← erasing]
      rfl
    have wanted : x.erasesAsked.kick1.writer2.eraseWanted = true := by rw [frame1]; rfl
    rw [ends, State.kick2_free _ unheld still, if_pos wanted]
    exact ⟨_, rfl, rfl, rfl⟩

end

end Sys2Proof.Machine
end

section
/-! PROOFS. A waiting command whose quiet condition the step has met (R74, R75, R78, R79, R114, R178, R184); it settles O50. -/

namespace Sys2Proof.Machine

/-- What stays of the command as it is carried out. -/
theorem State.CarriedOut.answers {u v : State} {before : List Job} {j y : Job} {h : Hold} {r : Results} (c : u.CarriedOut v before j y h r) :
    y.cmd = j.cmd ∧ y.number = j.number ∧ y.code = j.code ∧ y.src = j.src ∧ y.vlan = j.vlan ∧ y.role = .waiting h none ∧ y.status = .ok := by
  obtain ⟨-, -, same⟩ := c
  rw [same]
  exact ⟨rfl, rfl, rfl, rfl, rfl, rfl, rfl⟩

theorem State.CarriedOut.results {u v : State} {before : List Job} {j y : Job} {h : Hold} {r : Results} (c : u.CarriedOut v before j y h r) :
    y.results = r := by
  rw [c.same]

theorem Job.not_waiting {j : Job} (h : ∀ g l, j.role ≠ .waiting g l) : j.isWaiting = false :=
  Bool.eq_false_iff.2 fun w => by
    obtain ⟨g, l, role⟩ := j.isWaiting_iff.1 w
    exact h g l role

/-! ### Whether the quiet condition is met (R114) -/

theorem State.not_quiet_slot (u : State) (k : SlotIx) (h : ∃ i w, (u.ctx i).wrap = some w ∧ w.slot = k) : ¬ u.quiet (.slot k) = true := by
  obtain ⟨i, w, hw, hk⟩ := h
  exact fun q => (u.quiet_slot_iff k).1 q i w hw hk

theorem State.not_quiet_engine (u : State) (h : ∃ i, (u.ctx i).phase ≠ .idle) : ¬ u.quiet .engine = true := by
  obtain ⟨i, hi⟩ := h
  exact fun q => hi (u.quiet_engine_iff.1 q i)

section

variable {u : State} {before after : List Job} {j : Job} {limit : Nat}

theorem State.Awaits.settle_activates {k : SlotIx} {n : Nat} (a : u.Awaits before after j (.slot k) limit)
    (quiet : ∀ i w, (u.ctx i).wrap = some w → w.slot ≠ k) (cmd : j.cmd = some (.activateKey n)) :
    u.settle = (u.carryActivate k).finish := by
  rw [a.settle_carries ((u.quiet_slot_iff k).2 quiet), cmd]
  rfl

theorem State.Awaits.settle_erases {k : SlotIx} {n : Nat} (a : u.Awaits before after j (.slot k) limit)
    (quiet : ∀ i w, (u.ctx i).wrap = some w → w.slot ≠ k) (cmd : j.cmd = some (.eraseKey n)) :
    u.settle = (u.carryErase k).finish := by
  rw [a.settle_carries ((u.quiet_slot_iff k).2 quiet), cmd]
  rfl

theorem State.Awaits.settle_decommissions {force : Nat} (a : u.Awaits before after j .engine limit)
    (quiet : ∀ i, (u.ctx i).phase = .idle) (cmd : j.cmd = some (.decommission force)) :
    u.settle = (u.carryDecommission force).finish := by
  rw [a.settle_carries (u.quiet_engine_iff.2 quiet), cmd]
  rfl

/-- A refusal, or an answer with nothing to do, leaves all but the command's job. -/
theorem State.Awaits.ends {h : Hold} (a : u.Awaits before after j h limit) {v : State} {x : Status} {r : Results}
    (settle : u.settle = v.finish) (carried : v = u.settleWaiting x r id) :
    u.settle = State.finish { u with mgmt := { u.mgmt with
      jobs := before ++ { j with status := x, results := r, role := .waiting h none } :: after } } := by
  rw [settle, carried, a.settleWaiting]
  rfl

end

/-- Settles O50: the command's hold, its quiet condition, and then its checks in order. -/
theorem waitingCommandIsCarriedOutWhenQuiet : Obligations.WaitingCommandIsCarriedOutWhenQuiet := by
  refine ⟨fun u none_ => congrArg State.finish (u.quietCheck_none none_), fun u before after j h limit jobs role others => ?_⟩
  intro ends carried
  have a : u.Awaits before after j h limit := ⟨jobs, role, fun x hx => Job.not_waiting (others x hx)⟩
  refine ⟨?_, ?_⟩
  · rintro k n rfl
    refine ⟨fun held => a.settle_waits (u.not_quiet_slot k held), fun quiet => ⟨fun cmd => ?_, fun cmd => ?_⟩⟩
    · have settle := a.settle_activates quiet cmd
      refine ⟨fun faulted => ?_, fun ok busy => ?_, fun ok free unstaged => ?_, fun ok free staged previous => ?_,
        fun ok free staged previous => ?_⟩
      · exact a.ends settle (u.carryActivate_faulted k faulted)
      · exact a.ends settle (u.carryActivate_busy k ok busy)
      · exact a.ends settle (u.carryActivate_unstaged k ok free unstaged)
      · exact a.ends settle (u.carryActivate_previous k ok free staged previous)
      · obtain ⟨v, hv⟩ : ∃ v, v = (u.activating k).request2 [.activate k] := ⟨_, rfl⟩
        obtain ⟨y, out, slot, slots, -, -, waits, begins, frame⟩ := a.activates k v hv
        rw [u.carryActivate_goes k ok free staged previous, ← hv] at settle
        exact ⟨v, y, ⟨settle, out.length, out.at_, out.answers⟩, out.results, slot, slots, waits,
          fun inFlight waiting unerased erasing => begins ⟨inFlight, waiting, unerased, erasing⟩, frame⟩
    · have settle := a.settle_erases quiet cmd
      refine ⟨fun busy => ?_, fun free empty unstaged => ?_, fun free needed => ?_⟩
      · exact a.ends settle (u.carryErase_busy k busy)
      · exact a.ends settle (u.carryErase_nothing k free empty unstaged)
      · obtain ⟨v, hv⟩ : ∃ v, v = ((u.settleWaiting .ok (.erasure k) Job.queued2).slotErased k).request2 [] := ⟨_, rfl⟩
        obtain ⟨jobs, y, out, frame, waits, begins⟩ := a.erases k v hv
        rw [u.carryErase_goes k free needed, ← hv] at settle
        obtain ⟨x, hx⟩ : ∃ x, x = (u.withJobs jobs).slotErased k := ⟨_, rfl⟩
        obtain ⟨slot, slots, -, -⟩ := (u.withJobs jobs).slotErased_keys k
        obtain ⟨erased, -, -, -⟩ := (u.withJobs jobs).slotErased_counts k
        have queues := (u.withJobs jobs).slotErased_queue k
        have alone := (u.withJobs jobs).slotErased_alone k
        rw [← hx] at frame slot slots erased queues alone
        refine ⟨v, y, ⟨settle, out.length, out.at_, out.answers⟩, out.results, ?_, fun l hl => ?_, fun i b hb hk => ?_, ?_,
          fun unwaited pairs => ?_, fun some => (waits some).1,
          fun inFlight waiting unerased erasing => (begins ⟨inFlight, waiting, unerased, erasing⟩).1, fun unwaited => ?_⟩
        · rw [frame]; exact slot
        · rw [frame]; exact slots l hl
        · rw [frame]; exact queues i b hb hk
        · rw [frame]; exact erased
        · obtain ⟨-, entries, -⟩ := alone unwaited
          rw [frame]
          exact entries pairs
        · obtain ⟨rest, -, -⟩ := alone unwaited
          rw [frame, rest]
          rfl
  · rintro force rfl cmd
    refine ⟨fun busy => a.settle_waits (u.not_quiet_engine busy), fun idle unforced records => ?_, fun idle allowed unwaited => ?_⟩
    · exact a.ends (a.settle_decommissions idle cmd) (u.carryDecommission_refused force records unforced)
    · have settle := a.settle_decommissions idle cmd
      obtain ⟨r, hr⟩ : ∃ r : Results, r = .bytes (be 2 (u.holding.lines.filter (·.held)).length ++ be 2 u.outstanding.length) := ⟨_, rfl⟩
      obtain ⟨v, hv⟩ : ∃ v, v = (u.settleWaiting .ok r Job.erasing).decommission := ⟨_, rfl⟩
      obtain ⟨jobs, y, out, frame, -, first, second, format, -, -⟩ := a.decommissions idle unwaited r v hv
      rw [u.carryDecommission_goes force allowed, ← hr, ← hv] at settle
      obtain ⟨x, hx⟩ : ∃ x, x = (u.withJobs jobs).blanked := ⟨_, rfl⟩
      obtain ⟨b, g, -, -, blanked⟩ := (u.withJobs jobs).blanked_eq idle unwaited
      obtain ⟨bindings, emptied⟩ := (u.withJobs jobs).blanked_tills idle unwaited
      obtain ⟨counted, -⟩ := (u.withJobs jobs).blanked_counts idle unwaited
      rw [← hx] at frame blanked bindings emptied counted
      refine ⟨v, y, ⟨settle, out.length, out.at_, out.answers⟩, out.results.trans hr, first, second, format, ?_, ?_, fun i => ?_,
        fun i bound => ?_, ?_, ?_, ?_, ?_⟩
      · rw [frame, blanked]; rfl
      · rw [frame, blanked]; rfl
      · rw [frame]; exact bindings i
      · rw [frame]; exact (emptied i bound).1
      · rw [frame, blanked]; rfl
      · rw [frame]; exact counted
      · rw [frame, blanked]; rfl
      · rw [frame, blanked]; rfl

end Sys2Proof.Machine
end

section
/-! PROOFS. LOAD-KEY's checks and its write (R71 to R73), the quiet-class commands as they are taken (R178), and the erase of sector 1 that follows a
write in flight (R185). -/

namespace Sys2Proof.Machine

/-! ### LOAD-KEY's checks (R71) -/

theorem targetOf_fingerprint : targetOf 255 = some none := if_pos rfl

theorem targetOf_slot (k : SlotIx) : targetOf k.val = some (some k) := by
  rw [targetOf, if_neg (by omega), slotOf_val]
  rfl

theorem targetOf_none (n : Nat) (h : ¬ (n < 16 ∨ n = 255)) : targetOf n = none := by
  obtain ⟨slot, fingerprint⟩ := not_or.1 h
  rw [targetOf, if_neg fingerprint, slotOf_absent n (Nat.not_lt.1 slot)]
  rfl

theorem targetOf_some (n : Nat) (h : n < 16 ∨ n = 255) : ∃ x, targetOf n = some x := by
  rcases h with h | rfl
  · exact ⟨_, targetOf_slot ⟨n, h⟩⟩
  · exact ⟨_, targetOf_fingerprint⟩

/-- The check that holds back a load of the fingerprint key passes. -/
theorem State.unheld (s : State) {x : Option SlotIx} (records : x = none → s.holding.lines = []) :
    ¬ (x = none ∧ s.untaken.holding.anyRecord = true) := fun ⟨fingerprint, held⟩ => by
  have empty : s.untaken.holding.lines = [] := records fingerprint
  rw [HoldingStore.anyRecord, empty] at held
  cases held

section

variable {s : State} {t : Taken} {target ksid gen : Nat} {enc : BitVec 384} (taken : s.mgmt.taken = some t)
  (cmd : t.cmd = .loadKey target ksid gen enc)
include taken cmd

theorem exec_loadKey_untargeted (h : targetOf target = none) :
    exec (.loadKey target ksid gen enc) s = .next (s.untaken.answer t .range (.bytes [])) := by
  simp only [exec, execLoadKey, s.carry_taken t _ _ taken cmd, h]
  rfl

theorem exec_loadKey_ungenerated {x : Option SlotIx} (h : targetOf target = some x) (hg : gen < 1 ∨ 65535 < gen) :
    exec (.loadKey target ksid gen enc) s = .next (s.untaken.answer t .range (.bytes [])) := by
  simp only [exec, execLoadKey, s.carry_taken t _ _ taken cmd, h, if_pos hg]
  rfl

theorem exec_loadKey_undecrypted {x : Option SlotIx} (h : targetOf target = some x) (hg : ¬ (gen < 1 ∨ 65535 < gen))
    (hd : s.decryptKey target ksid gen enc = none) :
    exec (.loadKey target ksid gen enc) s = .next (s.untaken.answer t .range (.bytes [])) := by
  have same : s.untaken.decryptKey target ksid gen enc = none := hd
  simp only [exec, execLoadKey, s.carry_taken t _ _ taken cmd, h, if_neg hg, same]
  rfl

variable {base : Key}

theorem exec_loadKey_records (h : targetOf target = some none) (hg : ¬ (gen < 1 ∨ 65535 < gen))
    (hd : s.decryptKey target ksid gen enc = some base) (records : s.holding.lines ≠ []) :
    exec (.loadKey target ksid gen enc) s = .next (s.untaken.answer t .holdingNotEmpty (.bytes [])) := by
  have same : s.untaken.decryptKey target ksid gen enc = some base := hd
  have held : s.untaken.holding.anyRecord = true := by simpa [HoldingStore.anyRecord] using records
  simp only [exec, execLoadKey, s.carry_taken t _ _ taken cmd, h, if_neg hg, same, held, and_self, if_true]
  rfl

variable {x : Option SlotIx}

theorem exec_loadKey_order (h : targetOf target = some x) (hg : ¬ (gen < 1 ∨ 65535 < gen))
    (hd : s.decryptKey target ksid gen enc = some base) (records : x = none → s.holding.lines = []) (floor : gen ≤ s.floorOf x) :
    exec (.loadKey target ksid gen enc) s = .next (s.untaken.answer t .generationOrder (.bytes [])) := by
  have same : s.untaken.decryptKey target ksid gen enc = some base := hd
  have held := s.unheld records
  have under : gen ≤ s.untaken.floorOf x := by cases x <;> exact floor
  simp only [exec, execLoadKey, s.carry_taken t _ _ taken cmd, h, if_neg hg, same, if_neg held, if_pos under]
  rfl

theorem exec_loadKey_busy {k : SlotIx} (h : targetOf target = some (some k)) (hg : ¬ (gen < 1 ∨ 65535 < gen))
    (hd : s.decryptKey target ksid gen enc = some base) (floor : (s.slot k).floor < gen) (busy : (s.slot k).busy = true) :
    exec (.loadKey target ksid gen enc) s = .next (s.untaken.answer t .busy (.bytes [])) := by
  have same : s.untaken.decryptKey target ksid gen enc = some base := hd
  have above : ¬ gen ≤ s.untaken.floorOf (some k) := Nat.not_le.2 floor
  have held : (s.untaken.slot k).busy = true := busy
  simp only [exec, execLoadKey, s.carry_taken t _ _ taken cmd, h, if_neg hg, same, reduceCtorEq, false_and, if_false, if_neg above,
    Option.map_some, Option.getD_some, held, if_true]
  rfl

theorem exec_loadKey_goes (h : targetOf target = some x) (hg : ¬ (gen < 1 ∨ 65535 < gen))
    (hd : s.decryptKey target ksid gen enc = some base) (records : x = none → s.holding.lines = []) (floor : s.floorOf x < gen)
    (free : ∀ k, x = some k → (s.slot k).busy = false) :
    exec (.loadKey target ksid gen enc) s = .next (s.untaken.loadRecord t x (newRecord s.transportKey target ksid gen base)) := by
  have same : s.untaken.decryptKey target ksid gen enc = some base := hd
  have held := s.unheld records
  have above : ¬ gen ≤ s.untaken.floorOf x := by cases x <;> exact Nat.not_le.2 floor
  have open_ : ¬ (x.map (fun k => (s.untaken.slot k).busy)).getD false = true := by
    cases x with
    | none => exact Bool.false_ne_true
    | some k => exact Bool.eq_false_iff.1 (free k rfl)
  simp only [exec, execLoadKey, s.carry_taken t _ _ taken cmd, h, if_neg hg, same, if_neg held, if_neg above, if_neg open_]
  rfl

end

/-! ### LOAD-KEY's write (R68, R72, R73) -/

/-- The write of sector 2 that a command asks for last: it begins, or waits for the one in flight, and the command with it. -/
theorem State.request2_last (z : State) (a : KeyAddition) (before : List Job) (j : Job) (jobs : z.mgmt.jobs = before ++ [j])
    (queued : j.s2 = .queued) :
    (z.free2 → (∃ w, (z.request2 [a]).writer2.inFlight = some w ∧ w.additions = [a])
        ∧ ∃ y, (z.request2 [a]).mgmt.jobs.getLast? = some y ∧ y.number = j.number ∧ y.s2 = .inFlight)
      ∧ (z.writer2.inFlight.isSome = true →
          (z.request2 [a]).writer2 = { z.writer2 with waiting := z.writer2.waiting ++ [a], wanted := true }
            ∧ ∃ y, (z.request2 [a]).mgmt.jobs.getLast? = some y ∧ y.number = j.number ∧ y.s2 = .queued) := by
  obtain ⟨g, mgmt, only2, busy, free⟩ := z.request2_jobs [a]
  have last : (z.request2 [a]).mgmt.jobs.getLast? = some (g j) := by
    rw [mgmt, jobs]
    simp
  have number : (g j).number = j.number := by rw [only2 j]
  refine ⟨fun open_ => ⟨?_, g j, last, number, free open_ j queued⟩, fun some => ⟨?_, g j, last, number, ?_⟩⟩
  · have carried : (z.asking2 [a]).writer2.waiting = [a] := by
      rw [State.asking2, open_.2.1]
      rfl
    rw [z.request2_free _ open_]
    exact ⟨_, rfl, carried⟩
  · rw [z.request2_busy _ some]
    rfl
  · rw [busy some j, queued]

/-- The state once LOAD-KEY's answer waits for sectors 1 and 2, before the write of sector 2 is asked for. -/
def State.loadAsked (s : State) (t : Taken) (r : Results) : State := (s.addJob { t.job .ok r with s2 := .queued }).request1

theorem State.loadAsked_frame (s : State) (t : Taken) (r : Results) :
    s.loadAsked t r = { s with writer1 := (s.loadAsked t r).writer1, mgmt := (s.loadAsked t r).mgmt }
      ∧ ∃ before j, (s.loadAsked t r).mgmt.jobs = before ++ [j] ∧ j.number = t.number ∧ j.s2 = .queued := by
  obtain ⟨x, hx⟩ : ∃ x : State, x = s.addJob { t.job .ok r with s2 := .queued } := ⟨_, rfl⟩
  have jobs : x.mgmt.jobs = s.mgmt.jobs ++ [{ t.job .ok r with s2 := .queued }] := by rw [hx]; rfl
  have asked : s.loadAsked t r = x.request1 := by rw [hx]; rfl
  refine ⟨?_, ?_⟩
  · rw [asked, x.request1_frame, hx]
    rfl
  · rw [asked]
    rcases x.request1_mgmt with h | h
    · rw [h, jobs]
      exact ⟨_, _, rfl, rfl, rfl⟩
    · refine ⟨s.mgmt.jobs.map Job.begun1, Job.begun1 { t.job .ok r with s2 := .queued }, ?_, rfl, rfl⟩
      rw [h, jobs]
      simp

/-! ### A quiet-class command is taken (R178) -/

/-- The job of a command that begins to wait under a hold. -/
def State.waitingJob (s : State) (t : Taken) (h : Hold) : Job :=
  { t.job .ok (.bytes []) with role := .waiting h (some (s.now + Config.quietLimit)) }

theorem State.beginWait_busy (s : State) (t : Taken) (h : Hold) (waits : ∃ j ∈ s.mgmt.jobs, j.isWaiting = true) :
    s.beginWait t h = s.answer t .busy (.bytes []) := by
  obtain ⟨j, hj, w⟩ := waits
  exact if_pos (List.any_eq_true.2 ⟨j, hj, w⟩)

theorem State.request1_inFlight (s : State) (h : s.erasing = false) : s.request1.writer1.inFlight.isSome = true := by
  obtain ⟨x, hx⟩ : ∃ x : State, x = { s with writer1 := { s.writer1 with wanted := true } } := ⟨_, rfl⟩
  have asked : s.request1 = x.kick1 := by rw [hx]; rfl
  have wanted : x.writer1.wanted = true := by rw [hx]
  have free : x.erasing = false := by rw [hx]; exact h
  by_cases busy : x.writer1.inFlight.isSome = true
  · rw [asked, x.kick1_busy (.inl busy)]
    exact busy
  · rw [asked, x.kick1_free (Option.not_isSome_iff_eq_none.1 busy) free, if_pos wanted]
    split <;> rfl

/-- With no other command waiting, the command taken waits under its hold, last of those not yet answered. -/
theorem State.beginWait_awaits (s : State) (t : Taken) (h : Hold) (unwaited : ∀ j ∈ s.mgmt.jobs, j.isWaiting = false) :
    ∃ before j, (s.beginWait t h).Awaits before [] j h (s.now + 2000)
      ∧ j = { s.waitingJob t h with s1 := j.s1 } ∧ (s.beginWait t h).mgmt.last = s.mgmt.last
      ∧ (s.erasing = false → (s.beginWait t h).writer1.inFlight.isSome = true)
      ∧ s.beginWait t h = { s with writer1 := (s.beginWait t h).writer1, mgmt := (s.beginWait t h).mgmt } := by
  obtain ⟨x, hx⟩ : ∃ x, x = s.addJob (s.waitingJob t h) := ⟨_, rfl⟩
  have jobs : x.mgmt.jobs = s.mgmt.jobs ++ [s.waitingJob t h] := by rw [hx]; rfl
  have last : x.mgmt.last = s.mgmt.last := by rw [hx]; rfl
  have begins : s.beginWait t h = x.request1 := by
    rw [hx]
    exact if_neg fun some => by
      obtain ⟨j, hj, w⟩ := List.any_eq_true.1 some
      rw [unwaited j hj] at w
      cases w
  have begun : ∀ j ∈ s.mgmt.jobs.map Job.begun1, j.isWaiting = false := fun j hj => by
    obtain ⟨y, hy, rfl⟩ := List.mem_map.1 hj
    exact unwaited y hy
  have inFlight : s.erasing = false → x.request1.writer1.inFlight.isSome = true := fun free =>
    x.request1_inFlight (by rw [hx]; exact free)
  have frame : x.request1 = { s with writer1 := x.request1.writer1, mgmt := x.request1.mgmt } := by
    rw [x.request1_frame, hx]
    rfl
  rw [begins]
  rcases x.request1_mgmt with mgmt | mgmt
  · exact ⟨s.mgmt.jobs, _, ⟨by rw [mgmt, jobs], rfl, by rwa [List.append_nil]⟩, rfl, by rw [mgmt, last], inFlight, frame⟩
  · exact ⟨s.mgmt.jobs.map Job.begun1, (s.waitingJob t h).begun1,
      ⟨by rw [mgmt, jobs]; exact List.map_append .., rfl, by rwa [List.append_nil]⟩, rfl, by rw [mgmt]; exact last, inFlight, frame⟩

/-! ### The erase of sector 1 that waits for a write in flight (R185) -/

/-- DECOMMISSION's erase of sector 1 begins as the write in flight ends. -/
theorem State.end1_erases (s : State) (he : s.writer1.eraseWanted = true) (free : s.erasing = false) : s.end1 = s.freed1.writing1 none := by
  rw [s.end1_eq, s.freed1.kick1_free rfl free]
  exact if_pos he

end Sys2Proof.Machine
end

section
/-! PROOFS. LOAD-KEY and the quiet-class commands (R71, R72, R74, R75, R78, R79, R178, R184, R185); it settles O58. -/

namespace Sys2Proof.Machine

/-- A quiet-class command as it is taken: it waits under its hold, and its number's write of sector 1 is asked for. -/
def State.waiting (s : State) (t : Taken) (h : Hold) : State := s.untaken.beginWait t h

section

variable {s : State} {t : Taken} (taken : s.mgmt.taken = some t)
include taken

/-! ### LOAD-KEY goes on (R68, R72, R73) -/

/-- What a load of a slot does: the slot is busy, and its record's write begins or waits. -/
theorem exec_loadKey_slot {target ksid gen : Nat} {enc : BitVec 384} (cmd : t.cmd = .loadKey target ksid gen enc) {k : SlotIx} {base : Key}
    (h : targetOf target = some (some k)) (hg : ¬ (gen < 1 ∨ 65535 < gen)) (hd : s.decryptKey target ksid gen enc = some base)
    (floor : (s.slot k).floor < gen) (free : (s.slot k).busy = false) :
    let r := newRecord s.transportKey target ksid gen base
    ∃ u : State, exec (.loadKey target ksid gen enc) s = .next u ∧ u.slot k = { s.slot k with busy := true }
      ∧ (∀ l, l ≠ k → u.slot l = s.slot l)
      ∧ (s.free2 → (∃ w, u.writer2.inFlight = some w ∧ w.additions = [.load k r])
          ∧ ∃ j, u.mgmt.jobs.getLast? = some j ∧ j.number = t.number ∧ j.s2 = .inFlight)
      ∧ (s.writer2.inFlight.isSome = true →
          u.writer2 = { s.writer2 with waiting := s.writer2.waiting ++ [.load k r], wanted := true }
            ∧ ∃ j, u.mgmt.jobs.getLast? = some j ∧ j.number = t.number ∧ j.s2 = .queued)
      ∧ u = { s.untaken with keys := u.keys, writer1 := u.writer1, writer2 := u.writer2, mgmt := u.mgmt } := by
  intro r
  obtain ⟨x, hx⟩ : ∃ x, x = s.untaken.loadAsked t (.loadKey r.checkValue (some k)) := ⟨_, rfl⟩
  obtain ⟨frame, before, j, jobs, number, queued⟩ := s.untaken.loadAsked_frame t (.loadKey r.checkValue (some k))
  rw [← hx] at frame jobs
  obtain ⟨z, hz⟩ : ∃ z, z = x.setSlot k { x.slot k with busy := true } := ⟨_, rfl⟩
  have runs : exec (.loadKey target ksid gen enc) s = .next (z.request2 [.load k r]) := by
    rw [exec_loadKey_goes taken cmd h hg hd nofun floor (fun l hl => by cases hl; exact free), hz, hx]
    rfl
  have slots : ∀ l, x.slot l = s.slot l := fun l => by rw [frame]; rfl
  have requested := z.request2_frame [.load k r]
  have slot : ∀ l, (z.request2 [.load k r]).slot l = if l = k then { s.slot k with busy := true } else s.slot l := fun l => by
    rw [requested, ← slots k, ← slots l, ← x.slot_setSlot, hz]
    rfl
  have writer : z.writer2 = s.writer2 := by rw [hz, frame]; rfl
  have freed : s.free2 → z.free2 := fun open_ => by rw [hz, frame]; exact open_
  obtain ⟨begins, waits⟩ := z.request2_last (.load k r) before j (by rw [hz]; exact jobs) queued
  rw [number, writer] at waits
  rw [number] at begins
  refine ⟨_, runs, by rw [slot, if_pos rfl], fun l hl => by rw [slot, if_neg hl], fun open_ => begins (freed open_), waits, ?_⟩
  rw [requested, hz, frame]
  rfl

/-- What a load of the fingerprint key does: its record's write begins or waits. -/
theorem exec_loadKey_fingerprint {ksid gen : Nat} {enc : BitVec 384} (cmd : t.cmd = .loadKey 255 ksid gen enc) {base : Key}
    (hg : ¬ (gen < 1 ∨ 65535 < gen)) (hd : s.decryptKey 255 ksid gen enc = some base) (records : s.holding.lines = [])
    (floor : s.keys.fpFloor < gen) :
    let r := newRecord s.transportKey 255 ksid gen base
    ∃ u : State, exec (.loadKey 255 ksid gen enc) s = .next u
      ∧ (s.free2 → (∃ w, u.writer2.inFlight = some w ∧ w.additions = [.loadFp r])
          ∧ ∃ j, u.mgmt.jobs.getLast? = some j ∧ j.number = t.number ∧ j.s2 = .inFlight)
      ∧ (s.writer2.inFlight.isSome = true →
          u.writer2 = { s.writer2 with waiting := s.writer2.waiting ++ [.loadFp r], wanted := true }
            ∧ ∃ j, u.mgmt.jobs.getLast? = some j ∧ j.number = t.number ∧ j.s2 = .queued)
      ∧ u = { s.untaken with writer1 := u.writer1, writer2 := u.writer2, mgmt := u.mgmt } := by
  intro r
  obtain ⟨x, hx⟩ : ∃ x, x = s.untaken.loadAsked t (.loadKey r.checkValue none) := ⟨_, rfl⟩
  obtain ⟨frame, before, j, jobs, number, queued⟩ := s.untaken.loadAsked_frame t (.loadKey r.checkValue none)
  rw [← hx] at frame jobs
  have runs : exec (.loadKey 255 ksid gen enc) s = .next (x.request2 [.loadFp r]) := by
    rw [exec_loadKey_goes taken cmd targetOf_fingerprint hg hd (fun _ => records) floor nofun, hx]
    rfl
  have writer : x.writer2 = s.writer2 := by rw [frame]; rfl
  have freed : s.free2 → x.free2 := fun open_ => by rw [frame]; exact open_
  obtain ⟨begins, waits⟩ := x.request2_last (.loadFp r) before j jobs queued
  rw [number, writer] at waits
  rw [number] at begins
  refine ⟨_, runs, fun open_ => begins (freed open_), waits, ?_⟩
  rw [x.request2_frame, frame]

/-! ### A quiet-class command is taken and carried out (R114, R178) -/

theorem exec_activateKey {k : SlotIx} (cmd : t.cmd = .activateKey k.val) :
    exec (.activateKey k.val) s = .next (s.waiting t (.slot k)).settle := by
  simp only [exec, execActivateKey, s.carry_taken t _ _ taken cmd, slotOf_val]
  rfl

theorem exec_eraseKey {k : SlotIx} (cmd : t.cmd = .eraseKey k.val) :
    exec (.eraseKey k.val) s = .next (s.waiting t (.slot k)).settle := by
  simp only [exec, execEraseKey, s.carry_taken t _ _ taken cmd, slotOf_val]
  rfl

theorem exec_decommission {force : Nat} (cmd : t.cmd = .decommission force) (h : force ≤ 1) :
    exec (.decommission force) s = .next (s.waiting t .engine).settle := by
  simp only [exec, execDecommission, s.carry_taken t _ _ taken cmd, if_neg (Nat.not_lt.2 h)]
  rfl

theorem exec_activateKey_range {n : Nat} (cmd : t.cmd = .activateKey n) (h : 16 ≤ n) :
    exec (.activateKey n) s = .next (s.untaken.answer t .range (.bytes [])) := by
  simp only [exec, execActivateKey, s.carry_taken t _ _ taken cmd, slotOf_absent n h]
  rfl

theorem exec_eraseKey_range {n : Nat} (cmd : t.cmd = .eraseKey n) (h : 16 ≤ n) :
    exec (.eraseKey n) s = .next (s.untaken.answer t .range (.bytes [])) := by
  simp only [exec, execEraseKey, s.carry_taken t _ _ taken cmd, slotOf_absent n h]
  rfl

theorem exec_decommission_range {force : Nat} (cmd : t.cmd = .decommission force) (h : 1 < force) :
    exec (.decommission force) s = .next (s.untaken.answer t .range (.bytes [])) := by
  simp only [exec, execDecommission, s.carry_taken t _ _ taken cmd, if_pos h]
  rfl

end

theorem State.waiting_awaits (s : State) (t : Taken) (h : Hold) (unwaited : ∀ j ∈ s.mgmt.jobs, ∀ g l, j.role ≠ .waiting g l) :
    ∃ before j, (s.waiting t h).Awaits before [] j h (s.now + 2000)
      ∧ j = { s.untaken.waitingJob t h with s1 := j.s1 } ∧ (s.waiting t h).mgmt.last = s.mgmt.last
      ∧ (s.erasing = false → (s.waiting t h).writer1.inFlight.isSome = true)
      ∧ s.waiting t h = { s.untaken with writer1 := (s.waiting t h).writer1, mgmt := (s.waiting t h).mgmt } :=
  s.untaken.beginWait_awaits t h fun j hj => Job.not_waiting (unwaited j hj)

/-- What the part is but for sector 1's writer and the Management Unit, it still is once the command waits. -/
theorem State.waiting_withJobs (s : State) (t : Taken) (h : Hold) (unwaited : ∀ j ∈ s.mgmt.jobs, ∀ g l, j.role ≠ .waiting g l)
    (jobs : List Job) : ∃ w m, (s.waiting t h).withJobs jobs = { s with writer1 := w, mgmt := m } := by
  obtain ⟨_, _, -, -, -, -, frame⟩ := s.waiting_awaits t h unwaited
  rw [frame]
  exact ⟨_, _, rfl⟩

/-- The command is answered so under its hold, and waits for nothing but its number's write of sector 1. -/
def State.AnsweredAs (s : State) (t : Taken) (c : Instr) (h : Hold) (x : Status) (r : Results) : Prop :=
  ∃ u : State, exec c s = .next u.finish
    ∧ (∃ j, u.mgmt.jobs.getLast? = some j ∧ j.cmd = some c ∧ j.number = t.number ∧ j.role = .waiting h none ∧ j.status = x
        ∧ j.results = r ∧ j.s2 = .no ∧ j.s3 = .no ∧ j.format = false)
    ∧ u = { s.untaken with writer1 := u.writer1, mgmt := u.mgmt }

/-- A refusal of the command as it is carried out, or its answer with nothing to do, leaves all but its job (R74, R78, R184). -/
theorem State.waiting_ends (s : State) {t : Taken} {c : Instr} (h : Hold) (unwaited : ∀ j ∈ s.mgmt.jobs, ∀ g l, j.role ≠ .waiting g l)
    (cmd : t.cmd = c) {x : Status} {r : Results} (runs : exec c s = .next (s.waiting t h).settle)
    (settle : (s.waiting t h).settle = ((s.waiting t h).settleWaiting x r id).finish) : s.AnsweredAs t c h x r := by
  obtain ⟨before, j, a, hj, -, -, frame⟩ := s.waiting_awaits t h unwaited
  rw [a.settleWaiting] at settle
  refine ⟨_, by rw [runs, settle], ⟨j.carried h x r, List.getLast?_concat, ?_⟩, ?_⟩
  · rw [hj, ← cmd]
    exact ⟨rfl, rfl, rfl, rfl, rfl, rfl, rfl, rfl⟩
  · rw [frame]
    rfl

theorem State.erasureReplies_eq (s : State) (k : SlotIx) : s.erasureReplies k =
    (s.outstanding.filter (fun e => e.slot == k)).map (fun e => (e.path, be 1 1 ++ be 1 6 ++ be 2 e.number ++ be 4 e.reference ++ be 1 0))
      ++ ((s.boundTills k).flatMap (fun i => (s.till i).queue)).map
        (fun m => (m.path, be 1 1 ++ be 1 5 ++ be 2 m.number ++ be 4 m.reference ++ be 1 22)) := by
  rw [State.erasureReplies, List.map_flatMap]
  rfl

section

variable {s : State} {t : Taken} {k : SlotIx} (taken : s.mgmt.taken = some t)
  (unwaited : ∀ j ∈ s.mgmt.jobs, ∀ g l, j.role ≠ .waiting g l)
include unwaited

/-- ACTIVATE-KEY taken and, its slot quiet, carried out at once. -/
theorem settle_waiting_activateKey (cmd : t.cmd = .activateKey k.val) (quiet : ∀ i w, (s.ctx i).wrap = some w → w.slot ≠ k) :
    (s.waiting t (.slot k)).settle = ((s.waiting t (.slot k)).carryActivate k).finish := by
  obtain ⟨_, j, a, hj, -, -, frame⟩ := s.waiting_awaits t (.slot k) unwaited
  exact a.settle_activates (fun i x => by rw [frame]; exact quiet i x) (by rw [hj, ← cmd]; rfl)

/-- ERASE-KEY taken and, its slot quiet, carried out at once. -/
theorem settle_waiting_eraseKey (cmd : t.cmd = .eraseKey k.val) (quiet : ∀ i w, (s.ctx i).wrap = some w → w.slot ≠ k) :
    (s.waiting t (.slot k)).settle = ((s.waiting t (.slot k)).carryErase k).finish := by
  obtain ⟨_, j, a, hj, -, -, frame⟩ := s.waiting_awaits t (.slot k) unwaited
  exact a.settle_erases (fun i x => by rw [frame]; exact quiet i x) (by rw [hj, ← cmd]; rfl)

/-- DECOMMISSION taken and, the Wrap Engine quiet, carried out at once. -/
theorem settle_waiting_decommission {force : Nat} (cmd : t.cmd = .decommission force) (idle : ∀ i, (s.ctx i).phase = .idle) :
    (s.waiting t .engine).settle = ((s.waiting t .engine).carryDecommission force).finish := by
  obtain ⟨_, j, a, hj, -, -, frame⟩ := s.waiting_awaits t .engine unwaited
  exact a.settle_decommissions (fun i => by rw [frame]; exact idle i) (by rw [hj, ← cmd]; rfl)

theorem slot_waiting (h : Hold) (l : SlotIx) : (s.waiting t h).slot l = s.slot l := by
  obtain ⟨_, _, -, -, -, -, frame⟩ := s.waiting_awaits t h unwaited
  rw [frame]
  rfl

include taken

/-- The checks of ACTIVATE-KEY that refuse it as it is carried out, in their order (R74). -/
theorem exec_activateKey_ends (cmd : t.cmd = .activateKey k.val) (quiet : ∀ i w, (s.ctx i).wrap = some w → w.slot ≠ k) :
    let ends := fun x => s.AnsweredAs t (.activateKey k.val) (.slot k) x (.bytes [])
    ((s.slot k).state = .faulted → ends .range)
      ∧ ((s.slot k).state ≠ .faulted → (s.slot k).busy = true → ends .busy)
      ∧ ((s.slot k).state ≠ .faulted → (s.slot k).busy = false → (s.slot k).staged = none → ends .noStaged)
      ∧ ((s.slot k).state ≠ .faulted → (s.slot k).busy = false → (s.slot k).staged.isSome = true → (s.slot k).previous.isSome = true →
          ends .previousInUse) := by
  intro ends
  have runs := exec_activateKey taken cmd
  have settle := settle_waiting_activateKey unwaited cmd quiet
  rw [← slot_waiting (t := t) unwaited (.slot k) k]
  refine ⟨fun faulted => ?_, fun ok busy => ?_, fun ok free unstaged => ?_, fun ok free staged previous => ?_⟩
  · exact s.waiting_ends _ unwaited cmd runs (settle.trans (congrArg _ (State.carryActivate_faulted _ k faulted)))
  · exact s.waiting_ends _ unwaited cmd runs (settle.trans (congrArg _ (State.carryActivate_busy _ k ok busy)))
  · exact s.waiting_ends _ unwaited cmd runs (settle.trans (congrArg _ (State.carryActivate_unstaged _ k ok free unstaged)))
  · exact s.waiting_ends _ unwaited cmd runs (settle.trans (congrArg _ (State.carryActivate_previous _ k ok free staged previous)))

/-- ERASE-KEY refused as it is carried out, or answered with nothing to do (R78). -/
theorem exec_eraseKey_ends (cmd : t.cmd = .eraseKey k.val) (quiet : ∀ i w, (s.ctx i).wrap = some w → w.slot ≠ k) :
    ((s.slot k).busy = true → s.AnsweredAs t (.eraseKey k.val) (.slot k) .busy (.bytes []))
      ∧ ((s.slot k).busy = false → (s.slot k).state = .empty → (s.slot k).staged = none →
          s.AnsweredAs t (.eraseKey k.val) (.slot k) .ok (.erasure k)) := by
  have runs := exec_eraseKey taken cmd
  have settle := settle_waiting_eraseKey unwaited cmd quiet
  rw [← slot_waiting (t := t) unwaited (.slot k) k]
  refine ⟨fun busy => ?_, fun free empty unstaged => ?_⟩
  · exact s.waiting_ends _ unwaited cmd runs (settle.trans (congrArg _ (State.carryErase_busy _ k busy)))
  · exact s.waiting_ends _ unwaited cmd runs (settle.trans (congrArg _ (State.carryErase_nothing _ k free empty unstaged)))

/-- DECOMMISSION refused as it is carried out, while a record stands and it is not forced (R184). -/
theorem exec_decommission_ends (cmd : t.cmd = .decommission 0) (idle : ∀ i, (s.ctx i).phase = .idle) (records : s.holding.lines ≠ []) :
    s.AnsweredAs t (.decommission 0) .engine .holdingNotEmpty (.bytes []) := by
  have lines : (s.waiting t .engine).holding.lines = s.holding.lines := by
    obtain ⟨_, _, -, -, -, -, frame⟩ := s.waiting_awaits t .engine unwaited
    rw [frame]
    rfl
  exact s.waiting_ends _ unwaited cmd (exec_decommission taken cmd (Nat.zero_le _)) ((settle_waiting_decommission unwaited cmd idle).trans
    (congrArg _ (State.carryDecommission_refused _ 0 (by rw [lines]; exact records) rfl)))

/-- ACTIVATE-KEY taken and carried out at once: its effect (R75). -/
theorem exec_activateKey_effect (cmd : t.cmd = .activateKey k.val) (quiet : ∀ i w, (s.ctx i).wrap = some w → w.slot ≠ k)
    (ok : (s.slot k).state ≠ .faulted) (free : (s.slot k).busy = false) (staged : (s.slot k).staged.isSome = true)
    (previous : (s.slot k).previous = none) :
    ∃ (u : State) (j : Job), exec (.activateKey k.val) s = .next u.finish ∧ u.mgmt.jobs.getLast? = some j ∧ j.number = t.number
      ∧ j.role = .waiting (.slot k) none ∧ u.slot k = { s.slot k with busy := true } ∧ (∀ l, l ≠ k → u.slot l = s.slot l)
      ∧ u.keys.fp = s.keys.fp ∧ u.keys.fpFloor = s.keys.fpFloor
      ∧ (s.writer2.inFlight.isSome = true → j.s2 = .queued
          ∧ u.writer2 = { s.writer2 with waiting := s.writer2.waiting ++ [.activate k], wanted := true })
      ∧ (s.free2 → j.s2 = .inFlight ∧ ∃ w, u.writer2.inFlight = some w ∧ w.additions = [.activate k])
      ∧ u = { s.untaken with keys := u.keys, writer1 := u.writer1, writer2 := u.writer2, mgmt := u.mgmt } := by
  obtain ⟨before, j, a, hj, -, -, frame⟩ := s.waiting_awaits t (.slot k) unwaited
  obtain ⟨w, hw⟩ : ∃ w, w = s.waiting t (.slot k) := ⟨_, rfl⟩
  have runs := exec_activateKey taken cmd
  have slot := slot_waiting (t := t) unwaited (.slot k) k
  have numbered : j.number = t.number := by rw [hj]; rfl
  rw [settle_waiting_activateKey unwaited cmd quiet] at runs
  rw [← hw] at a frame runs slot
  obtain ⟨v, hv⟩ : ∃ v, v = (w.activating k).request2 [.activate k] := ⟨_, rfl⟩
  obtain ⟨y, out, slots⟩ := a.activates k v hv
  rw [w.carryActivate_goes k (by rw [slot]; exact ok) (by rw [slot]; exact free) (by rw [slot]; exact staged)
    (by rw [slot]; exact previous), ← hv] at runs
  obtain ⟨-, number, -, -, -, role, -⟩ := out.answers
  have last := out.getLast? (by rw [a.jobs, List.length_append]; rfl)
  refine ⟨v, y, runs, last, number.trans numbered, role, ?_⟩
  obtain ⟨own, others, fp, floor, waits, begins, kept⟩ := slots
  rw [frame] at own others fp floor waits begins
  exact ⟨own, others, fp, floor, waits, begins, by rw [kept, frame]⟩

/-- ERASE-KEY taken and carried out at once: the slot erased in a state that differs from the one before in sector 1's writer and the
Management Unit alone, and the write of sector 2 (R78, R79). -/
theorem exec_eraseKey_effect (cmd : t.cmd = .eraseKey k.val) (quiet : ∀ i w, (s.ctx i).wrap = some w → w.slot ≠ k)
    (free : (s.slot k).busy = false) (needed : (s.slot k).state ≠ .empty ∨ (s.slot k).staged.isSome = true) :
    ∃ (u x : State) (j : Job), exec (.eraseKey k.val) s = .next u.finish ∧ (∃ w m, x = { s with writer1 := w, mgmt := m })
      ∧ u = { x.slotErased k with writer2 := u.writer2, mgmt := u.mgmt }
      ∧ (u.mgmt.jobs.getLast? = some j ∧ j.number = t.number ∧ j.role = .waiting (.slot k) none ∧ j.status = .ok ∧ j.results = .erasure k)
      ∧ (s.writer2.inFlight.isSome = true → j.s2 = .queued ∧ u.writer2.inFlight = s.writer2.inFlight ∧ u.writer2.wanted = true)
      ∧ (s.free2 → j.s2 = .inFlight ∧ ∃ w c, u.writer2.inFlight = some w ∧ w.contents = some c ∧ w.additions = []
          ∧ c.slots[k] = { current := none, staged := none, state := .empty, floor := (s.slot k).floor }) := by
  obtain ⟨before, j, a, hj, -, -, frame⟩ := s.waiting_awaits t (.slot k) unwaited
  have rest := s.waiting_withJobs t (.slot k) unwaited
  obtain ⟨w, hw⟩ : ∃ w, w = s.waiting t (.slot k) := ⟨_, rfl⟩
  have runs := exec_eraseKey taken cmd
  have slot := slot_waiting (t := t) unwaited (.slot k) k
  have numbered : j.number = t.number := by rw [hj]; rfl
  rw [settle_waiting_eraseKey unwaited cmd quiet] at runs
  rw [← hw] at a frame runs rest slot
  obtain ⟨v, hv⟩ : ∃ v, v = ((w.settleWaiting .ok (.erasure k) Job.queued2).slotErased k).request2 [] := ⟨_, rfl⟩
  obtain ⟨jobs, y, out, kept, waits, begins⟩ := a.erases k v hv
  rw [w.carryErase_goes k (by rw [slot]; exact free) (by rw [slot]; exact needed), ← hv] at runs
  obtain ⟨-, number, -, -, -, role, status⟩ := out.answers
  have last := out.getLast? (by rw [a.jobs, List.length_append]; rfl)
  rw [frame] at waits begins
  exact ⟨v, w.withJobs jobs, y, runs, rest jobs, kept, ⟨last, number.trans numbered, role, status, out.results⟩, waits, begins⟩

/-- DECOMMISSION taken and carried out at once: the part blanked in a state that differs from the one before in sector 1's writer and the
Management Unit alone, and the erases asked for (R184, R185). -/
theorem exec_decommission_effect {force : Nat} (cmd : t.cmd = .decommission force) (idle : ∀ i, (s.ctx i).phase = .idle)
    (allowed : force = 1 ∨ force = 0 ∧ s.holding.lines = []) (alone : s.placeWait = []) :
    ∃ (u x : State) (j : Job), exec (.decommission force) s = .next u.finish ∧ (∃ w m, x = { s with writer1 := w, mgmt := m })
      ∧ u = { x.blanked with writer1 := u.writer1, writer2 := u.writer2, mgmt := u.mgmt }
      ∧ (u.mgmt.jobs.getLast? = some j ∧ j.number = t.number ∧ j.role = .waiting .engine none ∧ j.status = .ok
          ∧ j.results = .bytes (be 2 (s.holding.lines.filter (·.held)).length ++ be 2 s.outstanding.length)
          ∧ j.s1 = .queued ∧ j.s2 ≠ .no ∧ j.format = true)
      ∧ u.mgmt.last = s.mgmt.last ∧ u.writer1.eraseWanted = true ∧ (s.erasing = false → u.writer1.inFlight.isSome = true)
      ∧ (s.writer2.inFlight = none → s.erasing = false →
          ∃ w, u.writer2.inFlight = some w ∧ w.contents = none ∧ w.thenErase3 = true) := by
  obtain ⟨before, j, a, hj, numbered, inFlight, frame⟩ := s.waiting_awaits t .engine unwaited
  have rest := s.waiting_withJobs t .engine unwaited
  obtain ⟨w, hw⟩ : ∃ w, w = s.waiting t .engine := ⟨_, rfl⟩
  have runs := exec_decommission taken cmd (by omega)
  have same : j.number = t.number := by rw [hj]; rfl
  rw [settle_waiting_decommission unwaited cmd idle] at runs
  rw [← hw] at a frame runs rest numbered inFlight
  have still : ∀ i, (w.ctx i).phase = .idle := fun i => by rw [frame]; exact idle i
  have unplaced : w.placeWait = [] := by rw [frame]; exact alone
  have lines : w.holding.lines = s.holding.lines := by rw [frame]; rfl
  have erasing : w.erasing = s.erasing := by rw [frame]; rfl
  obtain ⟨r, hr⟩ : ∃ r : Results, r = .bytes (be 2 (s.holding.lines.filter (·.held)).length ++ be 2 s.outstanding.length) := ⟨_, rfl⟩
  have results : r = .bytes (be 2 (w.holding.lines.filter (·.held)).length ++ be 2 w.outstanding.length) := by rw [hr, frame]; rfl
  obtain ⟨v, hv⟩ : ∃ v, v = (w.settleWaiting .ok r Job.erasing).decommission := ⟨_, rfl⟩
  obtain ⟨jobs, y, out, kept, after, -, second, format, held, begins⟩ := a.decommissions still unplaced r v hv
  rw [w.carryDecommission_goes force (allowed.imp (by omega) fun h => lines.trans h.2), ← results, ← hv] at runs
  obtain ⟨-, number, -, -, -, role, status⟩ := out.answers
  have last := out.getLast? (by rw [a.jobs, List.length_append]; rfl)
  obtain ⟨first, writer⟩ := held (by
    rw [erasing]
    cases e : s.erasing with
    | false => exact .inl (inFlight e)
    | true => exact .inr rfl)
  rw [frame] at begins
  exact ⟨v, w.withJobs jobs, y, runs, rest jobs, kept, ⟨last, number.trans same, role, status, out.results.trans hr, first, second, format⟩,
    after.trans numbered, by rw [writer], fun free => by rw [writer]; exact inFlight free, begins⟩

end

/-! ### What the two effects leave, the writers and the jobs apart -/

/-- A slot of `s` has been erased in `u`: the Key Table, the entries and the queues, the counts and the replies (R78, R79, R132, R134). -/
structure State.ErasedIn (s : State) (k : SlotIx) (u : State) : Prop where
  slot : u.slot k = { emptySlot with floor := (s.slot k).floor }
  others : ∀ l, l ≠ k → u.slot l = s.slot l
  fingerprint : u.keys.fp = s.keys.fp ∧ u.keys.fpFloor = s.keys.fpFloor
  queues : ∀ i b, (s.till i).binding = some b → b.slot = k → (u.till i).queue = []
  keyErased : u.count .keyErased = min (s.count .keyErased + 1) 65535
  entryErased : s.count .entryErased ≤ 65535 →
    u.count .entryErased = min (s.count .entryErased + (s.outstanding.filter (fun e => e.slot == k)).length) 65535
  timedOut : s.count .localTimedOut ≤ 65535 →
    u.count .localTimedOut = min (s.count .localTimedOut + (s.outstanding.filter (fun e => e.slot == k)).length) 65535
  refused : s.count .localRefused ≤ 65535 →
    u.count .localRefused = min (s.count .localRefused + ((s.boundTills k).flatMap fun i => (s.till i).queue).length) 65535
  outstanding : s.placeWait = [] → (s.outstanding.map (fun e => (e.till, e.reference))).Nodup →
    u.outstanding = s.outstanding.filter (fun e => e.slot != k)
  lane : s.placeWait = [] → Emits (s.erasureReplies k) s u
  rest : u.settings = s.settings ∧ u.counters = s.counters ∧ u.standIn = s.standIn ∧ u.link = s.link ∧ u.store = s.store
  alone : s.placeWait = [] → u = { s.untaken with
    keys := u.keys, tills := u.tills, outstanding := u.outstanding, events := u.events, lane := u.lane, ipId := u.ipId
    writer1 := u.writer1, writer2 := u.writer2, mgmt := u.mgmt }

theorem State.slotErased_erasedIn {s u : State} {k : SlotIx} {w : Writer1} {m : MgmtUnit}
    (kept : u = { State.slotErased { s with writer1 := w, mgmt := m } k with writer2 := u.writer2, mgmt := u.mgmt }) : s.ErasedIn k u := by
  obtain ⟨x, hx⟩ : ∃ x : State, x = { s with writer1 := w, mgmt := m } := ⟨_, rfl⟩
  obtain ⟨own, others, fp, floor⟩ := x.slotErased_keys k
  obtain ⟨erased, entryErased, timedOut, refused⟩ := x.slotErased_counts k
  have queue := x.slotErased_queue k
  have unplaced := x.slotErased_alone k
  have frame := x.slotErased_frame k
  obtain ⟨z, hz⟩ : ∃ z, z = x.slotErased k := ⟨_, rfl⟩
  rw [← hx, ← hz] at kept
  rw [← hz] at own others fp floor erased entryErased timedOut refused queue unplaced frame
  rw [hx] at own others fp floor erased entryErased timedOut refused queue unplaced frame
  rw [kept]
  refine ⟨own, others, ⟨fp, floor⟩, queue, erased, entryErased, timedOut, refused, fun alone => (unplaced alone).2.1,
    fun alone => (unplaced alone).2.2, ?_, fun alone => ?_⟩
  · rw [frame]
    exact ⟨rfl, rfl, rfl, rfl, rfl⟩
  · rw [(unplaced alone).1]
    rfl

theorem State.ctr_countersPassed (s : State) (k : SlotIx) (i : TillIx) :
    s.countersPassed.ctr k i = { c := 0, k := 0, raise := none, failed := false } := by
  simp only [State.ctr, State.countersPassed, blankCounters, Fin.getElem_fin, Vector.getElem_replicate]
  rfl

/-- The volatile state of `s` has been blanked in `u` (R184): the tables, the settings, the counts, and the drain and the records' lines. -/
structure State.BlankedIn (s : State) (u : State) : Prop where
  keys : u.keys = blankKeys
  outstanding : u.outstanding = []
  bindings : ∀ i, (u.till i).binding = none
  emptied : ∀ i, (s.till i).binding.isSome = true → (u.till i).queue = [] ∧ (u.till i).record = none
  entryErased : s.count .entryErased ≤ 65535 → u.count .entryErased = min (s.count .entryErased + s.outstanding.length) 65535
  timedOut : s.count .localTimedOut ≤ 65535 → u.count .localTimedOut = min (s.count .localTimedOut + s.outstanding.length) 65535
  refused : s.count .localRefused ≤ 65535 → u.count .localRefused =
    min (s.count .localRefused + ((allTills.filter (fun i => (s.till i).binding.isSome)).flatMap (fun i => (s.till i).queue)).length) 65535
  decommissioned : u.count .decommissioned = min (s.count .decommissioned + 1) 65535
  counters : ∀ k i, u.ctr k i = { c := 0, k := 0, raise := none, failed := false }
  settings : u.settings = blankSettings
  holding : u.holding = { s.leaveRunning.holding with format := if s.holding.ops = [] then .running else .waiting }
  drain : u.drain = s.leaveRunning.drain ∧ u.waitOrder = s.leaveRunning.waitOrder
  rest : u = { s.untaken with
    keys := u.keys, outstanding := u.outstanding, tills := u.tills, counters := u.counters, settings := u.settings
    holding := u.holding, drain := u.drain, waitOrder := u.waitOrder, events := u.events, lane := u.lane, ipId := u.ipId
    writer1 := u.writer1, writer2 := u.writer2, mgmt := u.mgmt }

theorem State.blanked_blankedIn {s u : State} {w : Writer1} {m : MgmtUnit} (idle : ∀ i, (s.ctx i).phase = .idle) (alone : s.placeWait = [])
    (kept : u = { State.blanked { s with writer1 := w, mgmt := m } with writer1 := u.writer1, writer2 := u.writer2, mgmt := u.mgmt }) :
    s.BlankedIn u := by
  obtain ⟨x, hx⟩ : ∃ x : State, x = { s with writer1 := w, mgmt := m } := ⟨_, rfl⟩
  have still : ∀ i, (x.ctx i).phase = .idle := fun i => by rw [hx]; exact idle i
  have unplaced : x.placeWait = [] := by rw [hx]; exact alone
  obtain ⟨b, g, -, -, frame⟩ := x.blanked_eq still unplaced
  obtain ⟨bindings, emptied⟩ := x.blanked_tills still unplaced
  obtain ⟨counted, entryErased, timedOut, refused⟩ := x.blanked_counts still unplaced
  have left := State.leaveRunning_congr (s := s) (t := x) (by rw [hx]) (by rw [hx]) (by rw [hx])
  obtain ⟨z, hz⟩ : ∃ z, z = x.blanked := ⟨_, rfl⟩
  rw [← hx, ← hz] at kept
  rw [← hz] at frame bindings emptied counted entryErased timedOut refused
  rw [left, hx] at frame
  rw [hx] at emptied counted entryErased timedOut refused
  rw [kept]
  refine ⟨?_, ?_, bindings, emptied, entryErased, timedOut, refused, counted, fun k i => ?_, ?_, ?_, ?_, ?_⟩
  · rw [frame]; rfl
  · rw [frame]; rfl
  · rw [frame]
    exact State.ctr_countersPassed _ k i
  · rw [frame]; rfl
  · rw [frame]; rfl
  · rw [frame]; exact ⟨rfl, rfl⟩
  · rw [frame]; rfl

/-- Settles O58: LOAD-KEY's checks and write; the quiet-class commands as they are taken, refused and carried out; the erase of sector 1. -/
theorem keyAndQuietCommands : Obligations.KeyAndQuietCommands := by
  refine ⟨fun s t target ksid gen enc taken cmd => ?_, fun s t n c taken cmd => ?_, fun s t c h taken cmd unwaited => ?_,
    fun s t k taken cmd unwaited quiet ok free staged previous => ?_, fun s t k taken cmd unwaited quiet free needed => ?_,
    fun s t force taken cmd unwaited idle allowed alone => ?_, fun s c hw he free => ?_⟩
  · intro c refused first
    have generation : first → ¬ (gen < 1 ∨ 65535 < gen) := fun ⟨_, low, high⟩ => by omega
    refine ⟨fun outside => ?_, fun inside undecrypted => ?_, fun base inside decrypted => ?_⟩
    · by_cases targeted : target < 16 ∨ target = 255
      · obtain ⟨x, hx⟩ := targetOf_some target targeted
        exact exec_loadKey_ungenerated taken cmd hx (by by_contra h; exact outside ⟨targeted, by omega, by omega⟩)
      · exact exec_loadKey_untargeted taken cmd (targetOf_none target targeted)
    · obtain ⟨x, hx⟩ := targetOf_some target inside.1
      exact exec_loadKey_undecrypted taken cmd hx (generation inside) undecrypted
    · have hg := generation inside
      refine ⟨?_, ?_, ?_, ?_, ?_⟩
      · rintro rfl records
        exact exec_loadKey_records taken cmd targetOf_fingerprint hg decrypted records
      · rintro rfl records floor
        exact exec_loadKey_order taken cmd targetOf_fingerprint hg decrypted (fun _ => records) floor
      · rintro rfl records floor open_
        obtain ⟨u, runs, begins, -, frame⟩ := exec_loadKey_fingerprint taken cmd hg decrypted records floor
        exact ⟨u, runs, (begins open_).1, (begins open_).2, frame⟩
      · rintro rfl records floor busy
        obtain ⟨u, runs, -, waits, frame⟩ := exec_loadKey_fingerprint taken cmd hg decrypted records floor
        exact ⟨u, runs, (waits busy).1, (waits busy).2, frame⟩
      · rintro k rfl
        refine ⟨fun floor => ?_, fun floor busy => ?_, fun floor idle open_ => ?_, fun floor idle busy => ?_⟩
        · exact exec_loadKey_order taken cmd (targetOf_slot k) hg decrypted nofun floor
        · exact exec_loadKey_busy taken cmd (targetOf_slot k) hg decrypted floor busy
        · obtain ⟨u, runs, own, others, begins, -, frame⟩ := exec_loadKey_slot taken cmd (targetOf_slot k) hg decrypted floor idle
          exact ⟨u, runs, own, others, (begins open_).1, (begins open_).2, frame⟩
        · obtain ⟨u, runs, own, others, -, waits, frame⟩ := exec_loadKey_slot taken cmd (targetOf_slot k) hg decrypted floor idle
          exact ⟨u, runs, own, others, (waits busy).1, (waits busy).2, frame⟩
  · refine ⟨?_, ?_, fun h commands => ?_⟩
    · rintro (rfl | rfl) range
      · exact exec_activateKey_range taken cmd range
      · exact exec_eraseKey_range taken cmd range
    · rintro rfl range
      exact exec_decommission_range taken cmd range
    · have runs : exec c s = .next (s.waiting t h).settle := by
        rcases commands with ⟨rfl | rfl, k, rfl, rfl⟩ | ⟨rfl, low, rfl⟩
        · exact exec_activateKey taken cmd
        · exact exec_eraseKey taken cmd
        · exact exec_decommission taken cmd low
      refine ⟨fun ⟨j, hj, g, l, role⟩ => ?_, fun unwaited => ?_⟩
      · rw [runs, State.waiting, s.untaken.beginWait_busy t h ⟨j, hj, j.isWaiting_iff.2 ⟨g, l, role⟩⟩]
      · obtain ⟨before, j, a, hj, -, -, frame⟩ := s.waiting_awaits t h unwaited
        refine ⟨s.waiting t h, runs, ⟨j, ?_, ?_⟩, frame⟩
        · rw [a.jobs, List.getLast?_concat]
        · rw [hj, ← cmd]
          exact ⟨rfl, rfl, rfl⟩
  · intro carried
    refine ⟨?_, ?_⟩
    · rintro k rfl quiet
      refine ⟨?_, ?_⟩
      · rintro rfl
        exact exec_activateKey_ends taken unwaited cmd quiet
      · rintro rfl
        exact exec_eraseKey_ends taken unwaited cmd quiet
    · rintro rfl rfl idle records
      exact exec_decommission_ends taken unwaited cmd idle records
  · intro opens _
    obtain ⟨u, j, runs, last, number, role, own, others, fp, floor, waits, begins, frame⟩ :=
      exec_activateKey_effect taken unwaited cmd quiet ok free staged previous
    exact ⟨u, runs, own, others, fp, floor, fun open_ => (begins open_).2, fun busy => (waits busy).2,
      ⟨j, last, number, role, fun open_ => (begins open_).1, fun busy => (waits busy).1⟩, frame⟩
  · intro entries waiting replies opens
    obtain ⟨u, x, j, runs, ⟨w, m, hx⟩, kept, ⟨last, number, role, status, results⟩, waits, begins⟩ :=
      exec_eraseKey_effect taken unwaited cmd quiet free needed
    rw [hx] at kept
    have e := State.slotErased_erasedIn kept
    obtain ⟨fp, floor⟩ := e.fingerprint
    obtain ⟨settings, counters, standIn, link, store⟩ := e.rest
    refine ⟨u, runs, e.slot, e.outstanding, e.queues, e.keyErased, e.entryErased, e.timedOut, e.refused, fun alone id up room => ?_,
      fun open_ => (begins open_).2, fun busy => (waits busy).2,
      ⟨j, last, number, role, status, results, fun open_ => (begins open_).1, fun busy => (waits busy).1⟩, e.others, fp, floor,
      settings, counters, standIn, link, store, e.alone⟩
    have emits := e.lane alone
    rw [s.erasureReplies_eq k] at emits
    exact (emits up id room).1
  · intro queued
    obtain ⟨u, x, j, runs, ⟨w, m, hx⟩, kept, job, numbered, wanted, inFlight, begins⟩ :=
      exec_decommission_effect taken unwaited cmd idle allowed alone
    rw [hx] at kept
    have e := State.blanked_blankedIn idle alone kept
    obtain ⟨-, lines, drain, order⟩ := s.leaveRunning_frame
    refine ⟨u, runs, e.keys, e.outstanding, e.bindings, e.emptied, e.entryErased, e.timedOut, e.refused, e.counters, e.settings, ?_,
      e.drain.1.trans drain, e.drain.2.trans order, e.decommissioned, begins, wanted, inFlight, ⟨j, job⟩, numbered, e.rest⟩
    rw [e.holding, lines]
  · refine ⟨⟨_, s.exec_settingsComplete c hw, ?_⟩, fun lenient => ⟨_, s.exec_settingsFail c hw, ?_⟩⟩
    · obtain ⟨x, hx⟩ : ∃ x : State, x = { s with store := { s.store with sec1 := writtenSector c } } := ⟨_, rfl⟩
      rw [← hx, x.end1_erases (by rw [hx]; exact he) (by rw [hx]; exact free), hx]
      refine ⟨?_, rfl, rfl⟩
      cases c <;> rfl
    · obtain ⟨x, hx⟩ : ∃ x, x = s.raise .nvWriteFail (location := some (.sector 1)) := ⟨_, rfl⟩
      have counted : x.count .nvWriteFail = min (s.count .nvWriteFail + 1) 65535 := by rw [hx]; exact State.count_raise_self ..
      rw [s.contained_lenient .nvWriteFail none none (some (.sector 1)) lenient, ← hx, x.end1_erases (by rw [hx]; exact he) (by rw [hx]; exact free)]
      exact ⟨rfl, counted, by rw [hx]; rfl⟩

end Sys2Proof.Machine
end
